-- ==== Sys2Proof/Word.lean ====
section
/-! DEFINITION. The words of the message link (R191): a byte, and the 16-bit and 32-bit fields of a payload. -/

namespace Sys2Proof

/-- One byte of a frame (R191). -/
abbrev Byte := BitVec 8

/-- A two-byte payload field, high byte first on the line (R191). -/
abbrev Word16 := BitVec 16

/-- A four-byte payload field, high byte first on the line (R191). -/
abbrev Word32 := BitVec 32

end Sys2Proof
end

