-- ==== Sys2Proof/Syntax.lean ====
section
/-! DEFINITION. The commands of the block: one constructor of `Instr` for each row of spec/opcode_table.json,
with the operands its rule gives it, and the request a good frame carries (R199). -/

namespace Sys2Proof

/-- The ten sensor channels, in the order of R75. -/
inductive Channel where
  | opm | ogs | cpm | cco | crh | ctm | orh | otm | stm | fpos
deriving DecidableEq, Repr

/-- The two door inputs (R93). -/
inductive Door where
  | drv | krb
deriving DecidableEq, Repr

/-- One byte time on the serial line: a byte with its stop bit, or one whose stop bit is missing (R190). -/
inductive LineByte where
  | framed (b : Byte)
  | noStop (b : Byte)
deriving DecidableEq, Repr

/-- What a flash operation that was cut or failed has left in one slot (R159, R161, R168): nothing changed,
a DAMAGED slot, or the operation's full effect. -/
inductive SlotOutcome where
  | untouched | damaged | complete
deriving DecidableEq, Repr

/-- The levels the module finds at a reset (R93, R112, R133). -/
structure ResetLines where
  inhibit : Bool
  faultLine : Bool
  ready : Bool
  stall : Bool
  drvClosed : Bool
  krbClosed : Bool
deriving DecidableEq, Repr

/-- The payload of a CABIN request (R199). -/
structure CabinFields where
  volume : Word16
  occupants : Byte
  co2Reference : Word16
  drvExchange : Word16
  krbExchange : Word16
  weight : Word16
  drvPolarity : Byte
  krbPolarity : Byte
deriving DecidableEq, Repr

/-- The payload of a LIMITS request: the eleven limits in the order of R34's table (R199). -/
structure LimitsFields where
  co2Limit : Word16
  co2Hard : Word16
  fogMin : Word16
  cleanPm : Word16
  cleanGas : Word16
  recircDwell : Word16
  decisionPeriod : Word16
  changeDwell : Word16
  holdMax : Word16
  releaseDelay : Word16
  purgeTime : Word16
deriving DecidableEq, Repr

/-- The payload of a CHANNEL request; the substitute is signed (R199). -/
structure ChannelFields where
  code : Byte
  substitute : Word16
  staleTime : Word16
  lostTime : Word16
deriving DecidableEq, Repr

/-- The payload of a DETECTOR request (R199). -/
structure DetectorFields where
  detector : Byte
  jump : Word16
  level : Word16
  releaseCount : Byte
  maxDuration : Word16
deriving DecidableEq, Repr

/-- The payload of an ACTUATOR request (R199). -/
structure ActuatorFields where
  mode : Byte
  travelTime : Word16
  moveTimeout : Word16
deriving DecidableEq, Repr

/-- The payload of a FILTER FIT request (R199). -/
structure FilterFitFields where
  kind : Byte
  fitDay : Word16
  pmCap : Word32
  gasCap : Word32
  etaPmBase : Word16
  etaGasBase : Word16
deriving DecidableEq, Repr

/-- The WATCH SET layout of section 11.6: the descriptor byte's three fields stand apart; level is signed. -/
structure WatchSetFields where
  slot : Byte
  quantity : BitVec 4
  kind : BitVec 2
  scope : BitVec 2
  level : Word32
  hysteresis : Word16
deriving DecidableEq, Repr

/-- A request as the link port takes it from a good frame (R192, R199): one constructor per catalogue row,
and the two frames it refuses by itself. -/
inductive Request where
  | unknown (kind : Byte)
  | badLength (kind : Byte)
  | ident (interval : Option Word16)
  | cabin (f : CabinFields)
  | limits (f : LimitsFields)
  | mode (m : Byte)
  | comfort (level : Byte)
  | drive (speed : Word16) (engine : Byte)
  | channel (f : ChannelFields)
  | detector (f : DetectorFields)
  | actuator (f : ActuatorFields)
  | flapRecover
  | filterFit (f : FilterFitFields)
  | filterRead
  | watchSet (f : WatchSetFields)
  | watchRead
  | watchClear (slots : Byte)
  | noticeFetch (includeMasked : Byte)
  | noticeMask (kinds : Word16)
  | conditions (clear : Byte) (masks : Option Byte)
  | stateRead
  | channels
  | episodes (fromNumber : Word16)
  | shift (action : Byte)
  | park
  | wake
  | restart
deriving DecidableEq, Repr

/-- The commands: one constructor per row of spec/opcode_table.json. A command named after a request is the
arrival of a good frame that carries it (log 1); the others are the events the chapters name. -/
inductive Instr where
  | powerOnReset (lines : ResetLines) (cut : List SlotOutcome)
  | receiveFrame (bytes : List LineByte)
  | gapTimeout
  | replySent
  | unknownRequest (kind : Byte) (payload : List Byte)
  | ident (interval : Option Word16)
  | cabin (f : CabinFields)
  | limits (f : LimitsFields)
  | mode (m : Byte)
  | comfort (level : Byte)
  | drive (speed : Word16) (engine : Byte)
  | channel (f : ChannelFields)
  | detector (f : DetectorFields)
  | actuator (f : ActuatorFields)
  | flapRecover
  | filterFit (f : FilterFitFields)
  | filterRead
  | watchSet (f : WatchSetFields)
  | watchRead
  | watchClear (slots : Byte)
  | noticeFetch (includeMasked : Byte)
  | noticeMask (kinds : Word16)
  | conditions (clear : Byte) (masks : Option Byte)
  | stateRead
  | channels
  | episodes (fromNumber : Word16)
  | shiftStart
  | shiftEnd
  | shiftRead
  | park
  | wake
  | restart
  | sample (channel : Nat) (raw : Int) (quality : Nat)
  | fposRead (reading : Option Int)
  | staleExpiry (c : Channel)
  | lostExpiry (c : Channel)
  | estimatorUpdate
  | decExpiry
  | holdExpiry
  | purgeExpiry
  | ckptExpiry
  | erasePass
  | eraseFail (left : List SlotOutcome)
  | programPass
  | programFail (left : SlotOutcome)
  | scanEnd
  | contactChange (door : Door) (closed : Bool)
  | debounceAccept (door : Door)
  | driveAgeStale
  | driveAgeSilent
  | uptimeTick
  | inhibitAssert
  | inhibitRelease
  | faultLineAssert
  | faultLineRelease
  | readyChange (high : Bool)
  | moveTimeout
  | timedDriveEnd
  | timedHomingEnd
  | stallAssert
  | stallRelease
  | shiftRefusedValue (action : Byte)
deriving DecidableEq, Repr

end Sys2Proof
end

