-- ==== Sys2Proof/Decode.lean ====
section
/-! DEFINITION. From bits to commands. The table of commands gives no row any bits, so no table word spells a command. What
the block itself decodes stands here too: the frame's CRC (R191), the request a good frame carries (R192, R199), and the
frame that carries a request. -/

namespace Sys2Proof

/-- The command that a table word spells: no row of spec/opcode_table.json gives bits, so none does (log 28). -/
def decodeTableWord (_nbits _w : Nat) : Option Instr := none

/-! ### Fields (R191): every integer high byte first -/

/-- A two-byte field. -/
def word16 (a b : Byte) : Word16 := a ++ b

/-- A four-byte field. -/
def word32 (a b c d : Byte) : Word32 := (a ++ b) ++ (c ++ d)

/-- The bytes of a two-byte field. -/
def bytes16 (x : Word16) : List Byte := [x.extractLsb' 8 8, x.extractLsb' 0 8]

/-- The bytes of a four-byte field. -/
def bytes32 (x : Word32) : List Byte :=
  [x.extractLsb' 24 8, x.extractLsb' 16 8, x.extractLsb' 8 8, x.extractLsb' 0 8]

/-! ### The CRC (R191): polynomial 0x1021, start 0xFFFF, most significant bit first -/

/-- The CRC register after one bit time. -/
def crcShift (crc : Word16) : Word16 :=
  if crc.getLsbD 15 then (crc <<< 1) ^^^ 0x1021#16 else crc <<< 1

/-- The CRC register after one byte. -/
def crcByte (crc : Word16) (b : Byte) : Word16 :=
  crcShift (crcShift (crcShift (crcShift (crcShift (crcShift (crcShift (crcShift
    (crc ^^^ (b.setWidth 16 <<< 8)))))))))

/-- The CRC of a sequence of bytes. -/
def crc16 (bytes : List Byte) : Word16 := bytes.foldl crcByte 0xFFFF#16

/-- The LEN byte of a payload. -/
def lenByte (payload : List Byte) : Byte := BitVec.ofNat 8 payload.length

/-- The CRC of a frame, over LEN, KIND and payload. -/
def frameCrc (kind : Byte) (payload : List Byte) : Word16 := crc16 (lenByte payload :: kind :: payload)

/-- The bytes of a frame on the line: SYNC, LEN, KIND, payload, CRC (R191). -/
def frameBytes (kind : Byte) (payload : List Byte) : List Byte :=
  0xA5#8 :: lenByte payload :: kind :: (payload ++ bytes16 (frameCrc kind payload))

/-! ### Requests (R199) -/

/-- The fields of a CABIN payload. -/
def decodeCabin : List Byte → Option Request
  | [v1, v0, n, r1, r0, d1, d0, k1, k0, w1, w0, pd, pk] =>
    some (.cabin { volume := word16 v1 v0, occupants := n, co2Reference := word16 r1 r0,
                   drvExchange := word16 d1 d0, krbExchange := word16 k1 k0, weight := word16 w1 w0,
                   drvPolarity := pd, krbPolarity := pk })
  | _ => none

/-- The fields of a LIMITS payload. -/
def decodeLimits : List Byte → Option Request
  | [a1, a0, b1, b0, c1, c0, d1, d0, e1, e0, f1, f0, g1, g0, h1, h0, i1, i0, j1, j0, k1, k0] =>
    some (.limits { co2Limit := word16 a1 a0, co2Hard := word16 b1 b0, fogMin := word16 c1 c0,
                    cleanPm := word16 d1 d0, cleanGas := word16 e1 e0, recircDwell := word16 f1 f0,
                    decisionPeriod := word16 g1 g0, changeDwell := word16 h1 h0, holdMax := word16 i1 i0,
                    releaseDelay := word16 j1 j0, purgeTime := word16 k1 k0 })
  | _ => none

/-- The fields of a FILTER FIT payload. -/
def decodeFilterFit : List Byte → Option Request
  | [k, f1, f0, p3, p2, p1, p0, g3, g2, g1, g0, a1, a0, b1, b0] =>
    some (.filterFit { kind := k, fitDay := word16 f1 f0, pmCap := word32 p3 p2 p1 p0,
                       gasCap := word32 g3 g2 g1 g0, etaPmBase := word16 a1 a0, etaGasBase := word16 b1 b0 })
  | _ => none

/-- The fields of a WATCH SET payload, by the layout of section 11.6. -/
def decodeWatchSet : List Byte → Option Request
  | [n, d, l3, l2, l1, l0, h1, h0] =>
    some (.watchSet { slot := n, quantity := d.extractLsb' 4 4, kind := d.extractLsb' 2 2,
                      scope := d.extractLsb' 0 2, level := word32 l3 l2 l1 l0, hysteresis := word16 h1 h0 })
  | _ => none

/-- The request of a payload of the given KIND, when KIND is in the catalogue and LEN is allowed (R199). -/
def decodePayload (kind : Nat) (payload : List Byte) : Option Request :=
  match kind, payload with
  | 0x01, [] => some (.ident none)
  | 0x01, [a, b] => some (.ident (some (word16 a b)))
  | 0x02, p => decodeCabin p
  | 0x03, p => decodeLimits p
  | 0x04, [m] => some (.mode m)
  | 0x05, [c] => some (.comfort c)
  | 0x06, [a, b, e] => some (.drive (word16 a b) e)
  | 0x07, [c, s1, s0, t1, t0, l1, l0] =>
    some (.channel { code := c, substitute := word16 s1 s0, staleTime := word16 t1 t0, lostTime := word16 l1 l0 })
  | 0x08, [d, j1, j0, l1, l0, r, m1, m0] =>
    some (.detector { detector := d, jump := word16 j1 j0, level := word16 l1 l0, releaseCount := r,
                      maxDuration := word16 m1 m0 })
  | 0x09, [m, t1, t0, o1, o0] =>
    some (.actuator { mode := m, travelTime := word16 t1 t0, moveTimeout := word16 o1 o0 })
  | 0x0A, [] => some .flapRecover
  | 0x0B, p => decodeFilterFit p
  | 0x0C, [] => some .filterRead
  | 0x0D, p => decodeWatchSet p
  | 0x0E, [] => some .watchRead
  | 0x0F, [s] => some (.watchClear s)
  | 0x10, [f] => some (.noticeFetch f)
  | 0x11, [a, b] => some (.noticeMask (word16 a b))
  | 0x12, [c] => some (.conditions c none)
  | 0x12, [c, m] => some (.conditions c (some m))
  | 0x13, [] => some .stateRead
  | 0x14, [] => some .channels
  | 0x15, [a, b] => some (.episodes (word16 a b))
  | 0x16, [a] => some (.shift a)
  | 0x17, [] => some .park
  | 0x18, [] => some .wake
  | 0x19, [] => some .restart
  | _, _ => none

/-- KIND is a request code of the catalogue (R199). -/
def inCatalogue (kind : Byte) : Bool := decide (1 ≤ kind.toNat) && decide (kind.toNat ≤ 0x19)

/-- The request a good frame carries; a KIND not in the catalogue is judged first, LEN second (R199). -/
def decodeRequest (kind : Byte) (payload : List Byte) : Request :=
  if inCatalogue kind then (decodePayload kind.toNat payload).getD (.badLength kind) else .unknown kind

/-- The request's code (R199). -/
def Request.code : Request → Byte
  | .unknown k => k
  | .badLength k => k
  | .ident _ => 0x01#8
  | .cabin _ => 0x02#8
  | .limits _ => 0x03#8
  | .mode _ => 0x04#8
  | .comfort _ => 0x05#8
  | .drive _ _ => 0x06#8
  | .channel _ => 0x07#8
  | .detector _ => 0x08#8
  | .actuator _ => 0x09#8
  | .flapRecover => 0x0A#8
  | .filterFit _ => 0x0B#8
  | .filterRead => 0x0C#8
  | .watchSet _ => 0x0D#8
  | .watchRead => 0x0E#8
  | .watchClear _ => 0x0F#8
  | .noticeFetch _ => 0x10#8
  | .noticeMask _ => 0x11#8
  | .conditions _ _ => 0x12#8
  | .stateRead => 0x13#8
  | .channels => 0x14#8
  | .episodes _ => 0x15#8
  | .shift _ => 0x16#8
  | .park => 0x17#8
  | .wake => 0x18#8
  | .restart => 0x19#8

/-- The payload of a request, field by field in the catalogue's order (R199). -/
def Request.payload : Request → List Byte
  | .unknown _ => []
  | .badLength _ => []
  | .ident none => []
  | .ident (some x) => bytes16 x
  | .cabin f =>
    bytes16 f.volume ++ [f.occupants] ++ bytes16 f.co2Reference ++ bytes16 f.drvExchange ++ bytes16 f.krbExchange
      ++ bytes16 f.weight ++ [f.drvPolarity, f.krbPolarity]
  | .limits f =>
    bytes16 f.co2Limit ++ bytes16 f.co2Hard ++ bytes16 f.fogMin ++ bytes16 f.cleanPm ++ bytes16 f.cleanGas
      ++ bytes16 f.recircDwell ++ bytes16 f.decisionPeriod ++ bytes16 f.changeDwell ++ bytes16 f.holdMax
      ++ bytes16 f.releaseDelay ++ bytes16 f.purgeTime
  | .mode m => [m]
  | .comfort c => [c]
  | .drive v e => bytes16 v ++ [e]
  | .channel f => [f.code] ++ bytes16 f.substitute ++ bytes16 f.staleTime ++ bytes16 f.lostTime
  | .detector f =>
    [f.detector] ++ bytes16 f.jump ++ bytes16 f.level ++ [f.releaseCount] ++ bytes16 f.maxDuration
  | .actuator f => [f.mode] ++ bytes16 f.travelTime ++ bytes16 f.moveTimeout
  | .flapRecover => []
  | .filterFit f =>
    [f.kind] ++ bytes16 f.fitDay ++ bytes32 f.pmCap ++ bytes32 f.gasCap ++ bytes16 f.etaPmBase
      ++ bytes16 f.etaGasBase
  | .filterRead => []
  | .watchSet f => [f.slot, (f.quantity ++ f.kind) ++ f.scope] ++ bytes32 f.level ++ bytes16 f.hysteresis
  | .watchRead => []
  | .watchClear s => [s]
  | .noticeFetch f => [f]
  | .noticeMask k => bytes16 k
  | .conditions c none => [c]
  | .conditions c (some m) => [c, m]
  | .stateRead => []
  | .channels => []
  | .episodes g => bytes16 g
  | .shift a => [a]
  | .park => []
  | .wake => []
  | .restart => []

/-- A request whose code and payload the catalogue holds: neither of the two frames the link port refuses. -/
def Request.inCatalogue : Request → Bool
  | .unknown _ => false
  | .badLength _ => false
  | _ => true

end Sys2Proof
end

