-- ==== Sys2Proof/Machine/State.lean ====
section
/-! DEFINITION. What the module holds (INVENTORY.md, "State"): one structure per block, the machine's state made
of them, the reasons a step can stop, and the state after a power-on reset. Plain data throughout.
Quantities that enter signed arithmetic are `Int`; settings, counts and times are `Nat`; a flag is a `Bool`. -/

namespace Sys2Proof.Machine

/-! ### Sensor front end (chapter 4) -/

/-- R77. -/
inductive ChannelState where
  | none | live | stale | lost
deriving DecidableEq, Repr

/-- The quality of a sample, in the order of R78. -/
inductive Quality where
  | good | warming | fault
deriving DecidableEq, Repr

/-- The record of one channel (R76). `substitute` is absent for FPOS (R75, R86). `ageMs` is absent until the first
accepted sample and stands still in LOST, where it keeps the age at which the channel entered LOST (R83, R92). -/
structure ChannelRecord where
  state : ChannelState
  lastValue : Int
  substitute : Option Int
  staleTime : Nat
  lostTime : Nat
  ageMs : Option Nat
  faultFlag : Bool
  lastQuality : Option Quality
deriving DecidableEq, Repr

/-- The ten channels of R75. -/
structure Channels where
  opm : ChannelRecord
  ogs : ChannelRecord
  cpm : ChannelRecord
  cco : ChannelRecord
  crh : ChannelRecord
  ctm : ChannelRecord
  orh : ChannelRecord
  otm : ChannelRecord
  stm : ChannelRecord
  fpos : ChannelRecord
deriving DecidableEq, Repr

/-! ### Cabin estimator (chapter 1) -/

/-- The six estimator settings of a CABIN request (R4). -/
structure CabinSettings where
  volume : Nat
  occupants : Nat
  co2Reference : Nat
  drvExchange : Nat
  krbExchange : Nat
  weight : Nat
deriving DecidableEq, Repr

/-- The estimates (R1), the working state (R2) and the cabin settings (R4). -/
structure Estimator where
  epm : Int
  egs : Int
  eco : Int
  eah : Int
  freshCpm : Option Int
  freshCco : Option Int
  freshCrh : Option Int
  snapPm : Bool
  snapCo2 : Bool
  snapAh : Bool
  gasSnapArmed : Bool
  divPm : Nat
  divCo2 : Nat
  divAh : Nat
  pmAbove : Nat
  mixedPm : Int
  mixedGas : Int
  lastFlow : Int
  fogMargin : Int
  cabin : CabinSettings
deriving DecidableEq, Repr

/-! ### Air policy (chapter 2) -/

/-- R31, in the catalogue's order (R199). -/
inductive PolicyMode where
  | auto | fresh | recirc | defrost
deriving DecidableEq, Repr

/-- The basis of the latest decision or override, in the order of the STATE layout (section 11.6). -/
inductive Basis where
  | start | fogOverride | ceiling | plumeHold | openAir | ventilate | ventLimited
  | modeFresh | modeRecirc | modeDefrost | parked
deriving DecidableEq, Repr

/-- R47. -/
inductive HoldState where
  | idle | holding | trailing | lapsed
deriving DecidableEq, Repr

/-- The eleven limits of R34. -/
structure Limits where
  co2Limit : Nat
  co2Hard : Nat
  fogMin : Nat
  cleanPm : Nat
  cleanGas : Nat
  recircDwell : Nat
  decisionPeriod : Nat
  changeDwell : Nat
  holdMax : Nat
  releaseDelay : Nat
  purgeTime : Nat
deriving DecidableEq, Repr

/-- The policy state of R29; the purge machine is PURGING exactly while `purging` is set. -/
structure Policy where
  mode : PolicyMode
  target : Int
  basis : Basis
  held : Bool
  lastChange : Option Nat
  fogFlag : Bool
  ceilingFlag : Bool
  hold : HoldState
  purging : Bool
  openSince : Option Nat
  comfort : Nat
  limits : Limits
  demand : Nat
deriving DecidableEq, Repr

/-! ### Plume tracker (chapter 3) -/

/-- The two detectors, in the order of R199. -/
inductive DetectorId where
  | pm | gas
deriving DecidableEq, Repr

/-- R59. -/
inductive EndCause where
  | released | limit | channelLost
deriving DecidableEq, Repr

/-- The end of a closed episode: its uptime and its cause (R59). -/
structure EpisodeEnd where
  time : Nat
  cause : EndCause
deriving DecidableEq, Repr

/-- An episode record (R59): OPEN while `ending` is absent, CLOSED from then on. -/
structure Episode where
  number : Nat
  source : DetectorId
  start : Nat
  ending : Option EpisodeEnd
  peak : Int
  baselineAtOpen : Int
  dose : Nat
deriving DecidableEq, Repr

/-- The settings of one detector (R58). -/
structure DetectorSettings where
  jump : Nat
  level : Nat
  releaseCount : Nat
  maxDuration : Nat
deriving DecidableEq, Repr

/-- One detector (R57): OPEN exactly while `openEpisode` is present. -/
structure DetectorRecord where
  baseline : Option Int
  release : Nat
  openEpisode : Option Nat
  settings : DetectorSettings
deriving DecidableEq, Repr

/-- The two detectors, the episode table in the order of joining (R60), the next number (R61). -/
structure Tracker where
  pm : DetectorRecord
  gas : DetectorRecord
  table : List Episode
  nextNumber : Nat
deriving DecidableEq, Repr

/-! ### Drive state and time base (chapter 5) -/

/-- R93. -/
inductive Polarity where
  | normal | inverted
deriving DecidableEq, Repr

/-- A running debounce: the level that started it and the time it has stood (R94). -/
structure Debounce where
  closed : Bool
  ms : Nat
deriving DecidableEq, Repr

/-- One door input (R93). Contact levels are `true` for a closed contact. -/
structure DoorRecord where
  polarity : Polarity
  contactClosed : Bool
  accepted : Option Bool
  debounce : Option Debounce
  isOpen : Bool
deriving DecidableEq, Repr

/-- R96. -/
inductive Engine where
  | run | stop
deriving DecidableEq, Repr

/-- The DRIVE freshness (R97). -/
inductive Freshness where
  | none | fresh | stale | silent
deriving DecidableEq, Repr

/-- R98, in the order of the STATE layout. -/
inductive VehicleState where
  | moving | halted | atStop | parked
deriving DecidableEq, Repr

/-- The drive state (R93, R97, R98). `ageMs` is the DRIVE age; in freshness NONE it is not running and nothing depends on it (log 34). -/
structure Drive where
  drv : DoorRecord
  krb : DoorRecord
  lastSpeed : Nat
  engine : Option Engine
  ageMs : Nat
  freshness : Freshness
  vehicle : VehicleState
  stopFlag : Bool
deriving DecidableEq, Repr

/-- The interval channels (R106). A timer is absent while STOPPED and holds its milliseconds to run while RUNNING;
CKPT holds its count of EST expiries to come (R110). -/
structure Timers where
  est : Option Nat
  dec : Option Nat
  hold : Option Nat
  purge : Option Nat
  ckpt : Option Nat
deriving DecidableEq, Repr

/-! ### Actuator drive (chapter 6) -/

/-- R114, in the catalogue's order (R199). -/
inductive DriveMode where
  | tracked | edge | timed | direct
deriving DecidableEq, Repr

/-- R112, in the order of the STATE layout. -/
inductive FlapState where
  | idle | waitReady | moving | homing | fault | disabled
deriving DecidableEq, Repr

/-- The detail of FLAP-FAULT (R131). -/
inductive FlapCause where
  | timeout | line | disabled
deriving DecidableEq, Repr

/-- The running move timer: the time since it was started and the move timeout it was started under, since a
stored move timeout is used from the next start (R114, R124). -/
structure MoveTimer where
  elapsed : Nat
  limit : Nat
deriving DecidableEq, Repr

/-- The TIMED drive in flight (R112): from where to where, its duration and the time run so far. -/
structure TimedDrive where
  start : Int
  destination : Int
  towardFresh : Bool
  duration : Nat
  elapsed : Nat
deriving DecidableEq, Repr

/-- The flap channel (R112). `heldPosition` is the actual position while the flap is in FAULT or DISABLED; elsewhere the
position is worked out by R113. `homingWaiting` is set while a TRACKED homing waits for READY (R127). -/
structure Flap where
  mode : DriveMode
  travelTime : Nat
  moveTimeout : Nat
  state : FlapState
  target : Int
  setPoint : Int
  heldPosition : Int
  failCount : Nat
  moveTimer : Option MoveTimer
  driveInFlight : Option TimedDrive
  readyFallen : Bool
  homingWaiting : Bool
  towardFresh : Bool
  towardRecirc : Bool
  demand : Int
  inhibit : Bool
  faultLine : Bool
  ready : Bool
deriving DecidableEq, Repr

/-- The blower output, its state and its stall input (R132, R133). -/
structure Blower where
  level : Nat
  fault : Bool
  stall : Bool
deriving DecidableEq, Repr

/-! ### Filter account (chapter 7) -/

/-- R138. -/
inductive FilterKind where
  | none | particle | combined
deriving DecidableEq, Repr

/-- R141. -/
inductive FilterState where
  | none | inService | worn | spent
deriving DecidableEq, Repr

/-- The filter record of R137; the gas capacity and gas efficiency base are absent for PARTICLE. -/
structure FilterRecord where
  kind : FilterKind
  fitDay : Nat
  pmCap : Nat
  gasCap : Option Nat
  etaPmBase : Nat
  etaGasBase : Option Nat
  pmLoad : Nat
  gasLoad : Nat
  pmAcc : Nat
  gasAcc : Nat
  suspect : Bool
  state : FilterState
deriving DecidableEq, Repr

/-- The shift tally of R146. -/
structure Tally where
  active : Bool
  seconds : Nat
  pmDose : Nat
  gasDose : Nat
  overLimit : Nat
  stops : Nat
  episodes : Nat
deriving DecidableEq, Repr

/-! ### Checkpoint journal (chapter 8) -/

/-- R154. -/
inductive RecordKind where
  | checkpoint | fit | park
deriving DecidableEq, Repr

/-- What a write stores: the filter record and the shift tally at its start (R157). -/
structure Snapshot where
  filter : FilterRecord
  tally : Tally
deriving DecidableEq, Repr

/-- What a slot that a program has been through holds as a journal record: the fields of R154, the CRC among them as it stands
in the slot's last two bytes. -/
structure JournalRecord where
  sequence : Nat
  kind : RecordKind
  content : Snapshot
  crc : Word16
deriving DecidableEq, Repr

/-- One flash slot: all 0xFF, bytes that no record stands in, or a record. Whether a record is VALID is judged by its CRC and
sequence (R153); of a `damaged` slot the bytes are not held, since the journal reads none of them (R153, log 11). -/
inductive Slot where
  | erased
  | damaged
  | record (r : JournalRecord)
deriving DecidableEq, Repr

/-- The flash: (slot number, slot) pairs, numbers rising, none ERASED; an unlisted slot reads ERASED. Slot i of
sector k has number 16 * k + i (R153). -/
abbrev Flash := List (Nat × Slot)

/-- R155. -/
inductive JournalState where
  | scanning | ready | failed
deriving DecidableEq, Repr

/-- The phase of a write: the erase of a sector, or the program of a slot with its sequence (R155). -/
inductive WritePhase where
  | erasing (sector : Nat)
  | programming (sector slot sequence : Nat)
deriving DecidableEq, Repr

/-- The write in flight (R155). -/
structure WriteInFlight where
  kind : RecordKind
  snapshot : Snapshot
  parkOwed : Bool
  phase : WritePhase
deriving DecidableEq, Repr

/-- The pending write, which carries no snapshot (R156). -/
structure PendingWrite where
  kind : RecordKind
  parkOwed : Bool
deriving DecidableEq, Repr

/-- The newest VALID record the journal knows of (R155). -/
structure NewestRecord where
  sector : Nat
  sequence : Nat
  kind : RecordKind
deriving DecidableEq, Repr

/-- The program failures of each of the eight sectors since it was last erased (R155). -/
structure FailCounts where
  s0 : Nat
  s1 : Nat
  s2 : Nat
  s3 : Nat
  s4 : Nat
  s5 : Nat
  s6 : Nat
  s7 : Nat
deriving DecidableEq, Repr

/-- The journal state of R155, with the time since the scan began (R165). -/
structure Journal where
  state : JournalState
  activeSector : Option Nat
  writePosition : Nat
  nextSequence : Nat
  newest : Option NewestRecord
  retired : List Nat
  failCounts : FailCounts
  write : Option WriteInFlight
  pendingWrite : Option PendingWrite
  restartWaiting : Bool
  checkpointInterval : Nat
  scanMs : Nat
deriving DecidableEq, Repr

/-! ### Watch unit (chapter 9) -/

/-- The sixteen watchable quantities (R172), which are also the quantity codes of conditions (R199). -/
inductive Quantity where
  | channel (c : Channel)
  | epm | egs | eco | eah | fog | speed
deriving DecidableEq, Repr

/-- R171, in the order of the WATCH SET layout. -/
inductive WatchKind where
  | above | below | crossUp | crossDown
deriving DecidableEq, Repr

/-- R177, in the order of the WATCH SET layout. -/
inductive WatchScope where
  | off | stop | always
deriving DecidableEq, Repr

/-- The four slot numbers (R171). -/
inductive SlotNumber where
  | one | two | three | four
deriving DecidableEq, Repr

/-- The first hit of a slot (R176). -/
structure FirstHit where
  uptime : Nat
  value : Int
deriving DecidableEq, Repr

/-- One watch slot (R171); its hit flag is set exactly while `firstHit` is present. -/
structure WatchSlot where
  quantity : Quantity
  kind : WatchKind
  level : Int
  hysteresis : Nat
  scope : WatchScope
  armed : Bool
  firstHit : Option FirstHit
deriving DecidableEq, Repr

/-- The four slots (R171). -/
structure WatchUnit where
  slot1 : WatchSlot
  slot2 : WatchSlot
  slot3 : WatchSlot
  slot4 : WatchSlot
deriving DecidableEq, Repr

/-! ### Notice unit (chapter 10) -/

/-- The thirteen notice kinds, highest priority first (R181). -/
inductive NoticeKind where
  | flapFault | blowerFault | co2Ceiling | fogAlert | journalFail | plumeOpen | plumeLong
  | ventLimited | sensorLost | filter | watch | condition | moveDone
deriving DecidableEq, Repr

/-- The six condition kinds, in the order of the condition flags (R199). -/
inductive ConditionKind where
  | inputClamped | estimateSaturated | substituted | diverged | zeroFlow | tableClamped
deriving DecidableEq, Repr

/-- The detail of a FILTER notice (R152). -/
inductive FilterNotice where
  | worn | spent | suspect
deriving DecidableEq, Repr

/-- A notice with the detail its kind carries (R181). -/
inductive Notice where
  | flapFault (cause : FlapCause)
  | blowerFault
  | co2Ceiling (eco : Int)
  | fogAlert (margin : Int)
  | journalFail
  | plumeOpen (number : Nat) (source : DetectorId)
  | plumeLong (number : Nat)
  | ventLimited
  | sensorLost (lost : List Channel)
  | filter (detail : FilterNotice)
  | watch (slots : List SlotNumber)
  | condition (kinds : List ConditionKind)
  | moveDone (position : Int)
deriving DecidableEq, Repr

/-- A pending notice with its repeated flag (R181). -/
structure PendingNotice where
  notice : Notice
  repeated : Bool
deriving DecidableEq, Repr

/-- The last-condition record (R187). -/
structure ConditionRecord where
  kind : ConditionKind
  quantity : Option Quantity
  uptime : Nat
  value : Int
deriving DecidableEq, Repr

/-- The notice unit: the pending notices by priority, one per kind at most (R181); the masked kinds (R183); the
attention line (R184); the set condition flags, the masked condition kinds and the last condition (R187). -/
structure Notices where
  pending : List PendingNotice
  masked : List NoticeKind
  attention : Bool
  conditionFlags : List ConditionKind
  conditionMasked : List ConditionKind
  lastCondition : Option ConditionRecord
deriving DecidableEq, Repr

/-! ### Link port (chapter 11) -/

/-- The receiver with what it has assembled (R192): LEN from KIND on, KIND and the stored payload from BODY on, and in
CHECK the CRC's high byte once it has come. -/
inductive Receiver where
  | hunt
  | length
  | kind (len : Nat)
  | body (len : Nat) (kind : Byte) (stored : List Byte)
  | check (kind : Byte) (payload : List Byte) (crcHigh : Option Byte)
deriving DecidableEq, Repr

/-- A reply going out, in the fields of its frame behind SYNC: LEN, KIND, the payload and the CRC (R191, R198). -/
structure Reply where
  len : Byte
  kind : Byte
  payload : List Byte
  crc : Word16
deriving DecidableEq, Repr

/-- R200. -/
inductive ResetKind where
  | powerOn | restart
deriving DecidableEq, Repr

/-- The link port. `sending` is present while the transmitter sends the head's reply (R195); `holding` is set while a PARK or
RESTART that has been served holds the head and has no reply yet (R196, R197). -/
structure Link where
  receiver : Receiver
  gapMs : Nat
  queue : List Request
  holding : Bool
  sending : Option Reply
  dropped : Bool
  badFrame : Bool
  lastReset : ResetKind
deriving DecidableEq, Repr

/-! ### The machine -/

/-- Everything the module holds, the commands that wait, and the count of free choices drawn (log 5). -/
structure State where
  est : Estimator
  policy : Policy
  tracker : Tracker
  channels : Channels
  drive : Drive
  timers : Timers
  uptime : Nat
  secondMs : Nat
  flap : Flap
  blower : Blower
  filter : FilterRecord
  tally : Tally
  journal : Journal
  flash : Flash
  watch : WatchUnit
  notices : Notices
  link : Link
  freeCount : Nat
  pending : List Instr
deriving DecidableEq, Repr

/-- The reasons the machine stops with a fault. There are none: the spec names no event that stops the module, and
every fault it names is a state of a block (R123, R133, R163). -/
inductive Fault where
deriving DecidableEq, Repr

/-- The reasons a command has no meaning. -/
inductive Refusal where
  /-- Raised by an arm of `exec` whose command has no meaning yet: safe, the model stops. No arm raises it. -/
  | notModelled (mnemonic : String)
deriving DecidableEq, Repr

/-! ### The updates of the blocks: each replaces one block and leaves every other as it stands. -/

def State.withEst (s : State) (x : Estimator) : State := { s with est := x }
def State.withPolicy (s : State) (x : Policy) : State := { s with policy := x }
def State.withTracker (s : State) (x : Tracker) : State := { s with tracker := x }
def State.withChannels (s : State) (x : Channels) : State := { s with channels := x }
def State.withDrive (s : State) (x : Drive) : State := { s with drive := x }
def State.withTimers (s : State) (x : Timers) : State := { s with timers := x }
def State.withUptime (s : State) (x : Nat) : State := { s with uptime := x }
def State.withSecondMs (s : State) (x : Nat) : State := { s with secondMs := x }
def State.withFlap (s : State) (x : Flap) : State := { s with flap := x }
def State.withBlower (s : State) (x : Blower) : State := { s with blower := x }
def State.withFilter (s : State) (x : FilterRecord) : State := { s with filter := x }
def State.withTally (s : State) (x : Tally) : State := { s with tally := x }
def State.withJournal (s : State) (x : Journal) : State := { s with journal := x }
def State.withFlash (s : State) (x : Flash) : State := { s with flash := x }
def State.withWatch (s : State) (x : WatchUnit) : State := { s with watch := x }
def State.withNotices (s : State) (x : Notices) : State := { s with notices := x }
def State.withLink (s : State) (x : Link) : State := { s with link := x }
def State.withFreeCount (s : State) (x : Nat) : State := { s with freeCount := x }
def State.withPending (s : State) (x : List Instr) : State := { s with pending := x }

/-! ### The state after a power-on reset -/

/-- A channel record after a reset (R76), from its substitute default, its last value and its two times (R75). -/
def ChannelRecord.afterReset (substitute : Option Int) (last : Int) (stale lost : Nat) : ChannelRecord :=
  { state := .none, lastValue := last, substitute := substitute, staleTime := stale, lostTime := lost,
    ageMs := none, faultFlag := false, lastQuality := none }

/-- R75, R76. -/
def Channels.afterReset : Channels :=
  { opm := .afterReset (some 60) 60 5 30, ogs := .afterReset (some 150) 150 5 30,
    cpm := .afterReset (some 0) 0 5 30, cco := .afterReset (some 420) 420 10 60,
    crh := .afterReset (some 500) 500 5 30, ctm := .afterReset (some 200) 200 5 30,
    orh := .afterReset (some 700) 700 5 30, otm := .afterReset (some 100) 100 5 30,
    stm := .afterReset (some 50) 50 5 30, fpos := .afterReset none 1000 2 10 }

/-- R1, R2, R4. -/
def Estimator.afterReset : Estimator :=
  { epm := 0, egs := 0, eco := 6720, eah := 8000, freshCpm := none, freshCco := none, freshCrh := none,
    snapPm := true, snapCo2 := true, snapAh := true, gasSnapArmed := true, divPm := 0, divCo2 := 0, divAh := 0,
    pmAbove := 0, mixedPm := 0, mixedGas := 0, lastFlow := 0, fogMargin := -1850,
    cabin := { volume := 3000, occupants := 1, co2Reference := 420, drvExchange := 2600, krbExchange := 1300,
               weight := 64 } }

/-- R29, R34. -/
def Policy.afterReset : Policy :=
  { mode := .auto, target := 1000, basis := .start, held := false, lastChange := none, fogFlag := false,
    ceilingFlag := false, hold := .idle, purging := false, openSince := none, comfort := 2,
    limits := { co2Limit := 1200, co2Hard := 2000, fogMin := 1500, cleanPm := 15, cleanGas := 40,
                recircDwell := 300, decisionPeriod := 10, changeDwell := 30, holdMax := 180, releaseDelay := 15,
                purgeTime := 45 },
    demand := 2 }

/-- R57, R58, R73. -/
def Tracker.afterReset : Tracker :=
  { pm := { baseline := none, release := 0, openEpisode := none,
            settings := { jump := 25, level := 150, releaseCount := 5, maxDuration := 120 } },
    gas := { baseline := none, release := 0, openEpisode := none,
             settings := { jump := 60, level := 300, releaseCount := 5, maxDuration := 120 } },
    table := [], nextNumber := 1 }

/-- A door input after a reset that finds its contact at this level (R93, R94). -/
def DoorRecord.afterReset (closed : Bool) : DoorRecord :=
  { polarity := .normal, contactClosed := closed, accepted := none, debounce := some { closed := closed, ms := 0 },
    isOpen := false }

/-- R93, R97, R98. R97 says that the DRIVE age is not running after a reset and gives it no value: that the field holds 0 is the model's
choice (DESIGN CHOICE, log 34). -/
def Drive.afterReset (drvClosed krbClosed : Bool) : Drive :=
  { drv := .afterReset drvClosed, krb := .afterReset krbClosed, lastSpeed := 0, engine := none, ageMs := 0,
    freshness := .none, vehicle := .halted, stopFlag := false }

/-- R106 to R110: EST, DEC and CKPT loaded by the reset, HOLD and PURGE STOPPED. -/
def Timers.afterReset : Timers :=
  { est := some 1000, dec := some 10000, hold := none, purge := none, ckpt := some 600 }

/-- R112, with the line levels the reset finds. -/
def Flap.afterReset (inhibit faultLine ready : Bool) : Flap :=
  { mode := .timed, travelTime := 4000, moveTimeout := 6000, state := .idle, target := 1000, setPoint := 1000,
    heldPosition := 1000, failCount := 0, moveTimer := none, driveInFlight := none, readyFallen := false,
    homingWaiting := false, towardFresh := false, towardRecirc := false, demand := 1000,
    inhibit := inhibit, faultLine := faultLine, ready := ready }

/-- R132, R133, with the stall level the reset finds. -/
def Blower.afterReset (stall : Bool) : Blower := { level := 2, fault := false, stall := stall }

/-- R137. -/
def FilterRecord.afterReset : FilterRecord :=
  { kind := .none, fitDay := 0, pmCap := 25000, gasCap := some 50000, etaPmBase := 950, etaGasBase := some 900,
    pmLoad := 0, gasLoad := 0, pmAcc := 0, gasAcc := 0, suspect := false, state := .none }

/-- R146; also what SHIFT START leaves but for the active flag (R149). -/
def Tally.zero : Tally :=
  { active := false, seconds := 0, pmDose := 0, gasDose := 0, overLimit := 0, stops := 0, episodes := 0 }

/-- R155. -/
def Journal.afterReset : Journal :=
  { state := .scanning, activeSector := none, writePosition := 0, nextSequence := 1, newest := none, retired := [],
    failCounts := ⟨0, 0, 0, 0, 0, 0, 0, 0⟩, write := none, pendingWrite := none, restartWaiting := false,
    checkpointInterval := 600, scanMs := 0 }

/-- R171. -/
def WatchSlot.afterReset : WatchSlot :=
  { quantity := .channel .opm, kind := .above, level := 0, hysteresis := 0, scope := .off, armed := false,
    firstHit := none }

/-- R171. -/
def WatchUnit.afterReset : WatchUnit :=
  { slot1 := .afterReset, slot2 := .afterReset, slot3 := .afterReset, slot4 := .afterReset }

/-- R181, R183, R187. -/
def Notices.afterReset : Notices :=
  { pending := [], masked := [.moveDone], attention := false, conditionFlags := [],
    conditionMasked := [.inputClamped, .estimateSaturated, .substituted, .zeroFlow, .tableClamped],
    lastCondition := none }

/-- R190, R192, R194, R198, R200. In HUNT the gap is not timed (R193): that its field holds 0 is the model's choice (DESIGN CHOICE, log
34). -/
def Link.afterReset (kind : ResetKind) : Link :=
  { receiver := .hunt, gapMs := 0, queue := [], holding := false, sending := none, dropped := false,
    badFrame := false, lastReset := kind }

/-- The values both kinds of reset give (each chapter's "After reset" columns), with the lines the reset finds, the
flash as it stands (R153, R168), and the command queue and free count as they stand. -/
def State.resetWith (kind : ResetKind) (lines : ResetLines) (flash : Flash) (freeCount : Nat)
    (pending : List Instr) : State :=
  { est := .afterReset, policy := .afterReset, tracker := .afterReset, channels := .afterReset,
    drive := .afterReset lines.drvClosed lines.krbClosed, timers := .afterReset, uptime := 0, secondMs := 0,
    flap := .afterReset lines.inhibit lines.faultLine lines.ready, blower := .afterReset lines.stall,
    filter := .afterReset, tally := .zero, journal := .afterReset, flash := flash, watch := .afterReset,
    notices := .afterReset, link := .afterReset kind, freeCount := freeCount, pending := pending }

/-- The machine after a power-on reset, with every line released, both contacts open and READY low, and a flash
that holds nothing (DESIGN CHOICE, log 8). -/
def State.reset : State :=
  State.resetWith .powerOn
    { inhibit := false, faultLine := false, ready := false, stall := false, drvClosed := false, krbClosed := false }
    [] 0 []

end Sys2Proof.Machine
end

