-- ==== Sys2Proof/Config.lean ====
section
/-! DEFINITION. The values the spec fixes at manufacture without stating them, and the choices it leaves open.
Each is an opaque constant: nothing can be proved about its value (notes/assumptions/4.md to 7.md, 11.md and 30.md). -/

namespace Sys2Proof.Config

/-- The hardware issue an IDENT reply carries, fixed at manufacture (R200). A free value, log 4. -/
opaque hardwareIssue : BitVec 8

/-- The firmware issue an IDENT reply carries, fixed at manufacture (R200). A free value, log 4. -/
opaque firmwareIssue : BitVec 16

/-- The module's serial number, fixed at manufacture (R200). A free value, log 4. -/
opaque serialNumber : BitVec 32

/-- The choices no rule makes, drawn one after another: the order of the door events and the decision
inside one CABIN request (R4, R95). Free values, log 5. -/
opaque freeChoice : Nat → Nat

/-- Whether a TIMED homing whose time (travel time times 5/4) is no whole number of milliseconds is rounded
up, by travel time (R127 states no rounding). A free value, log 6. -/
opaque homingRoundsUp : Nat → Bool

/-- The ten bytes that stand for an absent last-condition record in a CONDITIONS reply (R199 states none):
kind, quantity code, uptime, value. A free value, log 7. -/
opaque absentConditionRecord : BitVec 80

/-- The four bytes that stand for an absent last change in a STATE reply, whose presence bit is clear (R201 states none).
A free value, log 7. -/
opaque absentLastChange : BitVec 32

/-- The 60 bytes that the fields of a journal record fill, from its sequence, kind and snapshot (R154, which gives their layout no
table). A free value, log 11. -/
opaque recordBody : Nat → Machine.RecordKind → Machine.Snapshot → Vector Byte 60

/-- The third byte of a PLUME-OPEN detail, between the number and the source (R72 and R199 give it no content). A free value,
log 30. -/
opaque plumeOpenSpare : Byte

end Sys2Proof.Config
end

