-- ==== Sys2Proof/Machine/Ops.lean ====
section
/-! DEFINITION. The shared operations: the roundings of the Introduction ("Rounding"), saturating counts, the channel, door,
slot and sector accessors, the flash (R153), the bytes and the CRC of a journal record (R154), and the interval channels
(R106). -/

namespace Sys2Proof.Machine

/-! ### Rounding and ranges (00_scope, "Rounding") -/

/-- a / b for b > 0, to the nearest integer, halves away from zero. -/
def nearest (a b : Int) : Int :=
  if 0 ≤ a then (2 * a + b) / (2 * b) else -((2 * (-a) + b) / (2 * b))

/-- a / b for b > 0, toward zero. -/
def truncated (a b : Int) : Int := Int.tdiv a b

/-- x set to the nearer end of lo..hi when it lies outside. -/
def clampInt (lo hi x : Int) : Int := if x < lo then lo else if hi < x then hi else x

/-- x set to the nearer end of lo..hi when it lies outside. -/
def clampNat (lo hi x : Nat) : Nat := if x < lo then lo else if hi < x then hi else x

/-- a / b rounded up, for b > 0. -/
def ceilDiv (a b : Nat) : Nat := (a + b - 1) / b

/-- The largest value of a 32-bit count. -/
def max32 : Nat := 4294967295

/-- a + b, stopping at the maximum m. -/
def saturatingAdd (m a b : Nat) : Nat := if m < a + b then m else a + b

end Sys2Proof.Machine

namespace Sys2Proof

/-! ### The channels of R75 -/

/-- The ten channels in the order of R75. -/
def Channel.all : List Channel := [.opm, .ogs, .cpm, .cco, .crh, .ctm, .orh, .otm, .stm, .fpos]

/-- The channel's code, 0 to 9 in the order of R75 (R199). -/
def Channel.code : Channel → Nat
  | .opm => 0
  | .ogs => 1
  | .cpm => 2
  | .cco => 3
  | .crh => 4
  | .ctm => 5
  | .orh => 6
  | .otm => 7
  | .stm => 8
  | .fpos => 9

/-- The range of a channel, in its display unit (R75). -/
def Channel.range : Channel → Int × Int
  | .opm => (0, 1000)
  | .ogs => (0, 2000)
  | .cpm => (0, 1000)
  | .cco => (300, 5000)
  | .crh => (0, 1000)
  | .ctm => (-300, 600)
  | .orh => (0, 1000)
  | .otm => (-300, 600)
  | .stm => (-300, 600)
  | .fpos => (0, 1000)

/-- A value clamped to the range of a channel (R80, R89). -/
def Channel.clamp (c : Channel) (x : Int) : Int := Machine.clampInt c.range.1 c.range.2 x

end Sys2Proof

namespace Sys2Proof.Machine

/-! ### Accessors -/

/-- The record of a channel. -/
def Channels.get (cs : Channels) : Channel → ChannelRecord
  | .opm => cs.opm
  | .ogs => cs.ogs
  | .cpm => cs.cpm
  | .cco => cs.cco
  | .crh => cs.crh
  | .ctm => cs.ctm
  | .orh => cs.orh
  | .otm => cs.otm
  | .stm => cs.stm
  | .fpos => cs.fpos

/-- The records with one replaced. -/
def Channels.set (cs : Channels) (c : Channel) (r : ChannelRecord) : Channels :=
  match c with
  | .opm => { cs with opm := r }
  | .ogs => { cs with ogs := r }
  | .cpm => { cs with cpm := r }
  | .cco => { cs with cco := r }
  | .crh => { cs with crh := r }
  | .ctm => { cs with ctm := r }
  | .orh => { cs with orh := r }
  | .otm => { cs with otm := r }
  | .stm => { cs with stm := r }
  | .fpos => { cs with fpos := r }

/-- The value a channel hands to its consumers (R77): the substitute in NONE and LOST, for FPOS the last value (R86). -/
def ChannelRecord.usable (r : ChannelRecord) : Int :=
  match r.state with
  | .live | .stale => r.lastValue
  | .none | .lost => r.substitute.getD r.lastValue

/-- NONE or LOST: the usable value counts as a substitute (R77). -/
def ChannelRecord.onSubstitute (r : ChannelRecord) : Bool :=
  match r.state with
  | .live | .stale => false
  | .none | .lost => true

/-- The usable value of a channel in this state (R77). -/
def State.usable (s : State) (c : Channel) : Int := (s.channels.get c).usable

/-- The state with one channel record replaced. -/
def State.setChannel (s : State) (c : Channel) (r : ChannelRecord) : State :=
  s.withChannels (s.channels.set c r)

/-- The record of a door. -/
def Drive.door (d : Drive) : Door → DoorRecord
  | .drv => d.drv
  | .krb => d.krb

/-- The drive state with one door record replaced. -/
def Drive.setDoor (d : Drive) (which : Door) (r : DoorRecord) : Drive :=
  match which with
  | .drv => { d with drv := r }
  | .krb => { d with krb := r }

/-- A door is OPEN (R93). -/
def Drive.anyOpen (d : Drive) : Bool := d.drv.isOpen || d.krb.isOpen

/-- The reported speed (R97). -/
def Drive.reportedSpeed (d : Drive) : Nat :=
  match d.freshness with
  | .fresh | .stale => d.lastSpeed
  | .none | .silent => 0

/-- The vehicle state is PARKED (R98). -/
def State.isParked (s : State) : Bool := s.drive.vehicle == .parked

/-- The record of a detector. -/
def Tracker.detector (t : Tracker) : DetectorId → DetectorRecord
  | .pm => t.pm
  | .gas => t.gas

/-- The tracker with one detector record replaced. -/
def Tracker.setDetector (t : Tracker) (which : DetectorId) (r : DetectorRecord) : Tracker :=
  match which with
  | .pm => { t with pm := r }
  | .gas => { t with gas := r }

/-- An episode is open (R57). -/
def Tracker.anyOpen (t : Tracker) : Bool := t.pm.openEpisode.isSome || t.gas.openEpisode.isSome

/-- The watch slot of a number (R171). -/
def WatchUnit.get (w : WatchUnit) : SlotNumber → WatchSlot
  | .one => w.slot1
  | .two => w.slot2
  | .three => w.slot3
  | .four => w.slot4

/-- The watch unit with one slot replaced. -/
def WatchUnit.set (w : WatchUnit) (n : SlotNumber) (x : WatchSlot) : WatchUnit :=
  match n with
  | .one => { w with slot1 := x }
  | .two => { w with slot2 := x }
  | .three => { w with slot3 := x }
  | .four => { w with slot4 := x }

/-- The four slots in slot order (R180). -/
def SlotNumber.all : List SlotNumber := [.one, .two, .three, .four]

/-- A slot number as the requests name it, 1 to 4 (R171). -/
def SlotNumber.toNat : SlotNumber → Nat
  | .one => 1
  | .two => 2
  | .three => 3
  | .four => 4

/-- The fail count of a sector (R155). -/
def FailCounts.get (f : FailCounts) : Nat → Nat
  | 0 => f.s0
  | 1 => f.s1
  | 2 => f.s2
  | 3 => f.s3
  | 4 => f.s4
  | 5 => f.s5
  | 6 => f.s6
  | _ => f.s7

/-- The fail counts with one sector's replaced. -/
def FailCounts.set (f : FailCounts) (sector n : Nat) : FailCounts :=
  match sector with
  | 0 => { f with s0 := n }
  | 1 => { f with s1 := n }
  | 2 => { f with s2 := n }
  | 3 => { f with s3 := n }
  | 4 => { f with s4 := n }
  | 5 => { f with s5 := n }
  | 6 => { f with s6 := n }
  | _ => { f with s7 := n }

/-! ### The flash (R153): 8 sectors of 16 slots, an unlisted slot reading ERASED. -/

/-- What the slot of this number holds. -/
def Flash.read : Flash → Nat → Slot
  | [], _ => .erased
  | (k, x) :: rest, n => if k = n then x else Flash.read rest n

/-- The flash with one slot holding x; an ERASED slot is unlisted. -/
def Flash.write : Flash → Nat → Slot → Flash
  | [], n, x => if x = .erased then [] else [(n, x)]
  | (k, y) :: rest, n, x =>
    if n < k then (if x = .erased then (k, y) :: rest else (n, x) :: (k, y) :: rest)
    else if n = k then (if x = .erased then rest else (n, x) :: rest)
    else (k, y) :: Flash.write rest n x

/-- Every listed number above `low`, rising, below 128, and no listed slot ERASED. -/
def Flash.wfAbove : Option Nat → Flash → Bool
  | _, [] => true
  | low, (k, x) :: rest =>
    (match low with | none => true | some b => decide (b < k)) && decide (k < 128) && decide (x ≠ .erased)
      && Flash.wfAbove (some k) rest

/-- The canonical form of the flash: numbers strictly rising, below 128, no ERASED entry. -/
def Flash.wf (f : Flash) : Bool := Flash.wfAbove none f

/-- The number of a slot in ring order (R153). -/
def slotNumber (sector slot : Nat) : Nat := 16 * sector + slot

/-- The slots of a sector. -/
def sectorSlots : List Nat := [0, 1, 2, 3, 4, 5, 6, 7, 8, 9, 10, 11, 12, 13, 14, 15]

/-- The sectors in ring order from sector 0 (R153). -/
def allSectors : List Nat := [0, 1, 2, 3, 4, 5, 6, 7]

/-- What an erase that passes leaves: every slot of the sector ERASED (R153). -/
def Flash.eraseSector (f : Flash) (sector : Nat) : Flash :=
  sectorSlots.foldl (fun g i => g.write (slotNumber sector i) .erased) f

/-- What a cut or failed erase leaves, slot by slot; a slot the list does not reach is untouched (R159, R168). -/
def Flash.spoilSector (f : Flash) (sector : Nat) (left : List SlotOutcome) : Flash :=
  sectorSlots.foldl
    (fun g i =>
      match left[i]?.getD .untouched with
      | .untouched => g
      | .damaged => g.write (slotNumber sector i) .damaged
      | .complete => g.write (slotNumber sector i) .erased) f

/-- What a cut or failed program of a record leaves in its slot (R161, R168). -/
def Flash.spoilSlot (f : Flash) (sector slot : Nat) (r : JournalRecord) (left : SlotOutcome) : Flash :=
  match left with
  | .untouched => f
  | .damaged => f.write (slotNumber sector slot) .damaged
  | .complete => f.write (slotNumber sector slot) (.record r)

/-! ### Journal records (R154) -/

/-- The first 62 bytes of a record's slot: the 60 that its fields fill, then two of 0xFF (R154). -/
def recordCovered (sequence : Nat) (kind : RecordKind) (content : Snapshot) : List Byte :=
  (Config.recordBody sequence kind content).toList ++ [0xFF#8, 0xFF#8]

/-- The CRC of a record: that of link frames, over the first 62 bytes of the slot (R154, R191). -/
def recordCrc (sequence : Nat) (kind : RecordKind) (content : Snapshot) : Word16 :=
  crc16 (recordCovered sequence kind content)

/-- The 64 bytes of a record's slot, its CRC in the last two (R154). -/
def JournalRecord.bytes (r : JournalRecord) : List Byte :=
  recordCovered r.sequence r.kind r.content ++ bytes16 r.crc

/-- The CRC in the slot is the one its first 62 bytes give (R153, R154). -/
def JournalRecord.crcGood (r : JournalRecord) : Bool := decide (r.crc = recordCrc r.sequence r.kind r.content)

/-- The record of a VALID slot: its CRC is good and its sequence is neither 0 nor 4,294,967,295; every other slot is ERASED or
DAMAGED (R153). -/
def Slot.valid? : Slot → Option JournalRecord
  | .record r => if r.crcGood = false ∨ r.sequence = 0 ∨ r.sequence = max32 then none else some r
  | .erased | .damaged => none

/-! ### Interval channels (R106): loading is the assignment of a count, stopping that of `none`. -/

/-- The count a timer reports: its milliseconds to run in whole seconds, rounded up; 0 while STOPPED (R106). -/
def reportedCount : Option Nat → Nat
  | none => 0
  | some ms => ceilDiv ms 1000

/-! ### The flow table and the saturation table (R6, R23) -/

/-- The flow of the clean blower at each level, in m3/h (R6). -/
def flowTable : Nat → Int
  | 0 => 0
  | 1 => 60
  | 2 => 100
  | 3 => 140
  | 4 => 180
  | 5 => 230
  | 6 => 280
  | _ => 340

/-- The saturation humidity at -20, -15, ... 45 degrees, in mg/m3 (R23). -/
def satTable : List Int :=
  [880, 1390, 2140, 3240, 4850, 6800, 9400, 12830, 17300, 23050, 30380, 39630, 51190, 65500]

/-- sat(T) for T in tenths of a degree, clamped to -200..450 (R23). -/
def sat (t : Int) : Int :=
  let u := clampInt (-200) 450 t + 200
  let i := (u / 50).toNat
  let r := u - 50 * (u / 50)
  let low := satTable[i]?.getD 0
  match satTable[i + 1]? with
  | none => low
  | some high => low + (high - low) * r / 50

/-- The lookup of T raises TABLE-CLAMPED (R23). -/
def satClamps (t : Int) : Bool := decide (t < -200) || decide (450 < t)

end Sys2Proof.Machine
end

