-- ==== Sys2Proof/Machine/Flags.lean ====
section
/-! DEFINITION. The notice unit: pending notices and their merging, masks and the attention line, condition flags
(R181 to R187), and the link status flags of a reply (R198). -/

namespace Sys2Proof.Machine

/-- The notice kinds, highest priority first (R181). -/
def NoticeKind.all : List NoticeKind :=
  [.flapFault, .blowerFault, .co2Ceiling, .fogAlert, .journalFail, .plumeOpen, .plumeLong, .ventLimited,
   .sensorLost, .filter, .watch, .condition, .moveDone]

/-- The priority of a kind, 1 highest (R181). -/
def NoticeKind.priority : NoticeKind → Nat
  | .flapFault => 1
  | .blowerFault => 2
  | .co2Ceiling => 3
  | .fogAlert => 4
  | .journalFail => 5
  | .plumeOpen => 6
  | .plumeLong => 7
  | .ventLimited => 8
  | .sensorLost => 9
  | .filter => 10
  | .watch => 11
  | .condition => 12
  | .moveDone => 13

/-- The kind of a notice. -/
def Notice.kind : Notice → NoticeKind
  | .flapFault _ => .flapFault
  | .blowerFault => .blowerFault
  | .co2Ceiling _ => .co2Ceiling
  | .fogAlert _ => .fogAlert
  | .journalFail => .journalFail
  | .plumeOpen _ _ => .plumeOpen
  | .plumeLong _ => .plumeLong
  | .ventLimited => .ventLimited
  | .sensorLost _ => .sensorLost
  | .filter _ => .filter
  | .watch _ => .watch
  | .condition _ => .condition
  | .moveDone _ => .moveDone

/-- The condition kinds in the order of the condition flags (R199). -/
def ConditionKind.all : List ConditionKind :=
  [.inputClamped, .estimateSaturated, .substituted, .diverged, .zeroFlow, .tableClamped]

/-- The members of either set, in the order of `order`, none twice (R182). -/
def unionIn {α : Type} [DecidableEq α] (order a b : List α) : List α :=
  order.filter fun x => decide (x ∈ a) || decide (x ∈ b)

/-- The detail after a raising merges into a pending notice: a union for a set, else the carried one (R182). -/
def Notice.merge (stored carried : Notice) : Notice :=
  match stored, carried with
  | .sensorLost a, .sensorLost b => .sensorLost (unionIn Channel.all a b)
  | .watch a, .watch b => .watch (unionIn SlotNumber.all a b)
  | .condition a, .condition b => .condition (unionIn ConditionKind.all a b)
  | _, n => n

/-- The pending notices after a raising, by priority (R182). -/
def raiseIn (n : Notice) : List PendingNotice → List PendingNotice
  | [] => [⟨n, false⟩]
  | p :: rest =>
    if p.notice.kind = n.kind then ⟨p.notice.merge n, true⟩ :: rest
    else if n.kind.priority < p.notice.kind.priority then ⟨n, false⟩ :: p :: rest
    else p :: raiseIn n rest

/-- At least one unmasked notice is pending (R184). -/
def attentionDue (masked : List NoticeKind) (pending : List PendingNotice) : Bool :=
  pending.any fun p => !decide (p.notice.kind ∈ masked)

/-- The notice unit with new pending notices and masks, its attention line worked out again (R184). -/
def Notices.update (u : Notices) (masked : List NoticeKind) (pending : List PendingNotice) : Notices :=
  { u with masked := masked, pending := pending, attention := attentionDue masked pending }

/-- A raising (R182). -/
def raise (n : Notice) (s : State) : State :=
  s.withNotices (s.notices.update s.notices.masked (raiseIn n s.notices.pending))

/-- The notice unit after an occurrence of a condition kind, but for the CONDITION notice (R187, steps 1 and 2). -/
def Notices.recordCondition (u : Notices) (k : ConditionKind) (q : Option Quantity) (uptime : Nat) (v : Int) : Notices :=
  { u with conditionFlags := unionIn ConditionKind.all u.conditionFlags [k],
           lastCondition := if k ∈ u.conditionMasked then u.lastCondition else some ⟨k, q, uptime, v⟩ }

/-- An occurrence of a condition kind with its quantity code and value (R187). -/
def occur (k : ConditionKind) (q : Option Quantity) (v : Int) (s : State) : State :=
  let t := s.withNotices (s.notices.recordCondition k q s.uptime v)
  if k ∈ s.notices.conditionMasked then t else raise (.condition [k]) t

/-- A saturation lookup of the temperature t that the channel c supplied, for its TABLE-CLAMPED (R23). -/
def noteLookup (c : Channel) (t : Int) (s : State) : State :=
  if satClamps t then occur .tableClamped (some (.channel c)) t s else s

/-- The link status byte of a reply built now (R198). -/
def State.linkStatus (s : State) : Byte :=
  BitVec.ofNat 8 (s.link.dropped.toNat + 2 * s.link.badFrame.toNat + 4 * s.notices.attention.toNat
    + 8 * s.isParked.toNat)

end Sys2Proof.Machine
end

