-- ==== Sys2Proof/Machine/Actuator.lean ====
section
/-! DEFINITION. The actuator drive: the flap channel in its four drive modes, faults, recovery, the blower (chapter 6). -/

namespace Sys2Proof.Machine

/-! ### Position (R113) -/

/-- p moved toward t by floor(|t - p| * e / d) (R113). -/
def movedToward (p t : Int) (e d : Nat) : Int :=
  if p ≤ t then p + (t - p) * e / d else p - (p - t) * e / d

/-- The position of a TIMED flap by its set point and its drive in flight (R113). -/
def Flap.timedPosition (f : Flap) : Int :=
  match f.driveInFlight with
  | none => f.setPoint
  | some d =>
    if f.state = .homing then min 1000 (d.start + 1000 * d.elapsed / f.travelTime)
    else movedToward d.start d.destination d.elapsed d.duration

/-- The actual position, given the usable value of FPOS (R113). -/
def Flap.position (f : Flap) (fpos : Int) : Int :=
  match f.state with
  | .fault | .disabled => f.heldPosition
  | _ =>
    match f.mode with
    | .tracked | .edge => fpos
    | .timed => f.timedPosition
    | .direct => f.demand

/-- The actual flap position in this state (R113). -/
def State.flapPosition (s : State) : Int := s.flap.position (s.usable .fpos)

/-! ### Starting and completing a move (R115 to R122) -/

/-- A started move timer (R124). -/
def Flap.newTimer (f : Flap) : Option MoveTimer := some { elapsed := 0, limit := f.moveTimeout }

/-- The issue of a demand in TRACKED or EDGE: demand output, set point, READY fallen clear, move timer started
(R117, R119). -/
def Flap.issue (f : Flap) (t : Int) : Flap :=
  { f with demand := t, setPoint := t, readyFallen := false, moveTimer := f.newTimer }

/-- The flap with both drive lines off and no drive in flight (R120, R123). -/
def Flap.linesOff (f : Flap) : Flap := { f with towardFresh := false, towardRecirc := false, driveInFlight := none }

/-- A TIMED drive from p to t (R120). -/
def Flap.startDrive (f : Flap) (p t : Int) : Flap :=
  { f with state := .moving, towardFresh := decide (p < t), towardRecirc := decide (t < p),
           driveInFlight := some { start := p, destination := t, towardFresh := decide (p < t),
                                   duration := ceilDiv ((t - p).natAbs * f.travelTime) 1000, elapsed := 0 } }

/-- The start of a due move by the drive mode's rule (R117, R119, R120, R122). -/
def Flap.startMove (f : Flap) : Flap :=
  match f.mode with
  | .tracked =>
    if f.ready then { f.issue f.target with state := .moving }
    else { f with state := .waitReady, moveTimer := f.newTimer }
  | .edge => { f.issue f.target with state := .moving }
  | .timed => f.startDrive f.setPoint f.target
  | .direct => { f with demand := f.target, setPoint := f.target }

/-- A move is due and may start: IDLE, INHIBIT released, target not the set point (R115). -/
def Flap.moveDue (f : Flap) : Bool :=
  decide (f.state = .idle) && !f.inhibit && decide (f.target ≠ f.setPoint)

/-- The test for a due move, at an entry to IDLE and at the other events of R115. -/
def Flap.testDue (f : Flap) : Flap := if f.moveDue then f.startMove else f

/-- The flap standing, its move timer stopped (R117). -/
def Flap.toIdle (f : Flap) : Flap := { f with state := .idle, moveTimer := none }

/-- A completion: the flap, as `f` leaves it, enters IDLE, MOVE-DONE is raised with the position at that event, and a due
move is tested for (R117, R119, R120, R128). -/
def completeMove (f : Flap) (s : State) : State :=
  let g := f.toIdle
  let t := raise (.moveDone (g.position (s.usable .fpos))) (s.withFlap g)
  t.withFlap t.flap.testDue

/-- The end of a TIMED drive at its destination: the set point becomes it, the line goes off (R120). -/
def Flap.driveEnded (f : Flap) (destination : Int) : Flap := { f.linesOff with setPoint := destination }

/-- A new target that reaches a TIMED flap while it is MOVING with INHIBIT released: the drive is halted at the
computed position, and a new one starts unless the flap stands at the target (R121). -/
def retargetTimed (f : Flap) (t : Int) (s : State) : State :=
  let reached := f.timedPosition
  let g := f.driveEnded reached
  if t = reached then completeMove g s else s.withFlap (g.startDrive reached t)

/-- The air policy hands a new target to the drive (R115, R118, R119, R121). -/
def flapTarget (t : Int) (s : State) : State :=
  let f := { s.flap with target := t }
  match f.state with
  | .idle => s.withFlap f.testDue
  | .waitReady => s.withFlap (if t = f.setPoint then f.toIdle else f)
  | .moving =>
    if f.inhibit then s.withFlap f
    else
      match f.mode with
      | .edge => s.withFlap (f.issue t)
      | .timed => retargetTimed f t s
      | .tracked | .direct => s.withFlap f
  | .homing | .fault | .disabled => s.withFlap f

/-! ### Faults (R123, R124) -/

/-- The flap stopped at the position p: timer stopped, lines off, a TIMED drive in flight ended at p, the position held
(R123, R128). -/
def Flap.stopAt (f : Flap) (p : Int) : Flap :=
  { f.linesOff with
    setPoint := if f.driveInFlight.isSome then p else f.setPoint,
    heldPosition := p, moveTimer := none, homingWaiting := false }

/-- The entry to FAULT (R123). -/
def enterFlapFault (cause : FlapCause) (s : State) : State :=
  raise (.flapFault cause) (s.withFlap { s.flap.stopAt s.flapPosition with state := .fault })

/-! ### Recovery (R126 to R128) -/

/-- A successful homing (R128). -/
def homingSuccess (s : State) : State :=
  completeMove { s.flap.linesOff with setPoint := 1000, failCount := 0, homingWaiting := false } s

/-- A failed homing (R128). -/
def homingFail (cause : FlapCause) (s : State) : State :=
  let f := { s.flap.stopAt s.flapPosition with failCount := s.flap.failCount + 1 }
  if f.failCount < 3 then raise (.flapFault cause) (s.withFlap { f with state := .fault })
  else raise (.flapFault .disabled) (s.withFlap { f with state := .disabled })

/-- The duration of a TIMED homing: travel time times 5/4, a fraction rounded either way (R127, log 6). -/
def homingDuration (travelTime : Nat) : Nat :=
  if travelTime * 5 % 4 = 0 then travelTime * 5 / 4
  else if Config.homingRoundsUp travelTime then travelTime * 5 / 4 + 1 else travelTime * 5 / 4

/-- The TIMED homing drive from the held position (R127). -/
def Flap.homingDrive (f : Flap) : TimedDrive :=
  { start := f.heldPosition, destination := 1000, towardFresh := true,
    duration := homingDuration f.travelTime, elapsed := 0 }

/-- A homing starts by the drive mode (R127); a FAULT line that stands asserted makes it fail in the same event, undriven
(R126). -/
def startHoming (s : State) : State :=
  let f := { s.flap with state := .homing, homingWaiting := false }
  match f.mode with
  | .tracked =>
    if f.faultLine then homingFail .line (s.withFlap f)
    else if f.ready then s.withFlap (f.issue 1000)
    else s.withFlap { f with homingWaiting := true, moveTimer := f.newTimer }
  | .edge =>
    if f.faultLine then homingFail .line (s.withFlap f) else s.withFlap (f.issue 1000)
  | .timed =>
    let g := { f with driveInFlight := some f.homingDrive }
    if f.faultLine then homingFail .line (s.withFlap g) else s.withFlap { g with towardFresh := true }
  | .direct =>
    if f.faultLine then homingFail .line (s.withFlap f)
    else homingSuccess (s.withFlap { f with demand := 1000 })

/-! ### The lines (R116, R117, R119, R123) -/

/-- INHIBIT is asserted (R116). -/
def inhibitAsserted (s : State) : State :=
  if s.flap.inhibit then s
  else
    let f := { s.flap with inhibit := true }
    s.withFlap (if f.state = .waitReady then f.toIdle else f)

/-- INHIBIT is released (R116, R122). -/
def inhibitReleased (s : State) : State :=
  if s.flap.inhibit then
    let f := { s.flap with inhibit := false }
    if f.state = .idle then
      s.withFlap (if f.mode = .direct then { f with demand := f.target, setPoint := f.target } else f.testDue)
    else s.withFlap f
  else s

/-- An assertion of the FAULT line acts by flap state (R123). -/
def faultLineActs (s : State) : State :=
  match s.flap.state with
  | .idle | .waitReady | .moving => enterFlapFault .line s
  | .homing => homingFail .line s
  | .fault | .disabled => s

/-- The FAULT line is asserted (R123). -/
def faultLineAsserted (s : State) : State :=
  if s.flap.faultLine then s else faultLineActs (s.withFlap { s.flap with faultLine := true })

/-- The FAULT line is released: its level alone changes (R123). -/
def faultLineReleased (s : State) : State := s.withFlap { s.flap with faultLine := false }

/-- READY, now at this level, has just changed; a TRACKED flap is MOVING, or HOMING with its demand issued: falling is
noted, and rising after a fall is the completion (R117, R127). -/
def trackedReady (high : Bool) (complete : State → State) (s : State) : State :=
  if high then (if s.flap.readyFallen then complete s else s)
  else s.withFlap { s.flap with readyFallen := true }

/-- What a READY transition does (R117, R119, R127). -/
def readyActs (high : Bool) (s : State) : State :=
  match s.flap.state, s.flap.mode with
  | .waitReady, _ => if high then s.withFlap { s.flap.issue s.flap.target with state := .moving } else s
  | .moving, .tracked => trackedReady high (fun t => completeMove t.flap t) s
  | .moving, .edge => completeMove s.flap s
  | .homing, .tracked =>
    if s.flap.homingWaiting then
      (if high then s.withFlap { s.flap.issue 1000 with homingWaiting := false } else s)
    else trackedReady high homingSuccess s
  | .homing, .edge => homingSuccess s
  | _, _ => s

/-- READY rises or falls to this level (R117). -/
def readyChanged (high : Bool) (s : State) : State :=
  if s.flap.ready = high then s else readyActs high (s.withFlap { s.flap with ready := high })

/-! ### The ends of timers and drives (R120, R124, R127) -/

/-- The move timer reaches the move timeout (R124). -/
def moveTimedOut (s : State) : State :=
  if s.flap.moveTimer.isNone then s
  else
    match s.flap.state with
    | .waitReady | .moving => enterFlapFault .timeout s
    | .homing => homingFail .timeout s
    | .idle | .fault | .disabled => s

/-- The drive time of a TIMED move has run (R120). -/
def timedDriveEnded (s : State) : State :=
  match s.flap.state, s.flap.driveInFlight with
  | .moving, some d => completeMove (s.flap.driveEnded d.destination) s
  | _, _ => s

/-- The drive time of a TIMED homing has run (R127, R128). -/
def timedHomingEnded (s : State) : State :=
  match s.flap.state, s.flap.driveInFlight with
  | .homing, some _ => homingSuccess s
  | _, _ => s

/-! ### The ACTUATOR request (R114, R129) -/

/-- A drive mode change in IDLE, before the test for a due move: entering DIRECT, the demand output takes the set point
unless INHIBIT is asserted (R129). The positions of the other modes are worked out by R113. -/
def Flap.enterMode (f : Flap) : Flap :=
  if f.mode = .direct ∧ f.inhibit = false then { f with demand := f.setPoint } else f

/-- A taken ACTUATOR request with its clamped fields (R114, R115, R129). -/
def storeActuator (mode : DriveMode) (travelTime moveTimeout : Nat) (s : State) : State :=
  let changed := decide (mode ≠ s.flap.mode)
  let f := { s.flap with mode := mode, travelTime := travelTime, moveTimeout := moveTimeout }
  match f.state with
  | .idle => s.withFlap (if changed then f.enterMode.testDue else f.testDue)
  | .waitReady => s.withFlap (if changed then f.toIdle.enterMode.testDue else f)
  | .moving | .homing | .fault | .disabled => s.withFlap f

/-! ### The blower (R132, R133) -/

/-- The air policy hands the drive a new blower demand, which is output at once; a level that rises from 0 against an
asserted stall input puts the blower in FAULT (R132, R133). -/
def blowerDemand (d : Nat) (s : State) : State :=
  let b := s.blower
  if b.level = 0 ∧ 0 < d ∧ b.stall = true ∧ b.fault = false then
    raise .blowerFault (s.withBlower { b with level := d, fault := true })
  else s.withBlower { b with level := d }

/-- What an asserted stall input does (R133). -/
def stallActs (s : State) : State :=
  if 0 < s.blower.level ∧ s.blower.fault = false then
    raise .blowerFault (s.withBlower { s.blower with fault := true })
  else s

/-- The stall input is asserted (R133). -/
def stallAsserted (s : State) : State :=
  if s.blower.stall then s else stallActs (s.withBlower { s.blower with stall := true })

/-- The stall input is released (R133). -/
def stallReleased (s : State) : State := s.withBlower { s.blower with stall := false, fault := false }

end Sys2Proof.Machine
end

