-- ==== Sys2Proof/Machine/Filter.lean ====
section
/-! DEFINITION. The filter account and the shift tally (chapter 7): derived values, captured load, SUSPECT, the fit, the tally. -/

namespace Sys2Proof.Machine

/-! ### Derived values (R139) -/

/-- The particle efficiency in per-mille (R139). -/
def FilterRecord.etaPm (r : FilterRecord) : Nat :=
  match r.kind with
  | .none => 0
  | .particle | .combined => r.etaPmBase

/-- The gas efficiency in per-mille (R139). -/
def FilterRecord.etaGas (r : FilterRecord) : Nat :=
  match r.kind with
  | .none | .particle => 0
  | .combined =>
    let cap := r.gasCap.getD 0
    r.etaGasBase.getD 0 * (cap - min r.gasLoad cap) / cap

/-- The flow derate in per-mille (R139). -/
def FilterRecord.derate (r : FilterRecord) : Nat :=
  match r.kind with
  | .none => 1000
  | .particle | .combined => 1000 - 400 * min r.pmLoad r.pmCap / r.pmCap

/-- The state that follows from the loads (R138, R141). -/
def FilterRecord.stateOfLoads (r : FilterRecord) : FilterState :=
  match r.kind with
  | .none => .none
  | .particle =>
    if r.pmCap ≤ r.pmLoad then .spent else if r.pmCap * 4 ≤ r.pmLoad * 5 then .worn else .inService
  | .combined =>
    let cap := r.gasCap.getD 0
    if r.pmCap ≤ r.pmLoad ∨ cap ≤ r.gasLoad then .spent
    else if r.pmCap * 4 ≤ r.pmLoad * 5 ∨ cap * 4 ≤ r.gasLoad * 5 then .worn
    else .inService

/-! ### Captured load (R140) -/

/-- One accumulator unit: 3600 * 16 * 1000 (R140). -/
def loadUnit : Nat := 57600000

/-- A load and its accumulator after a step (R140). -/
def addLoad (load acc step : Nat) : Nat × Nat :=
  if loadUnit ≤ acc + step then
    (if load = max32 then (max32, 0) else (load + 1, acc + step - loadUnit))
  else (load, acc + step)

/-- The step of one side: floor(Q * M * eta / 1000) (R140). -/
def loadStep (flow mixed : Int) (eta : Nat) : Nat := (flow * mixed * eta / 1000).toNat

/-- The record after one update's captured load, steps 1 to 3 (R140). -/
def FilterRecord.captured (r : FilterRecord) (flow mixedPm mixedGas : Int) : FilterRecord :=
  let pm := addLoad r.pmLoad r.pmAcc (loadStep flow mixedPm r.etaPm)
  let gas := addLoad r.gasLoad r.gasAcc (loadStep flow mixedGas r.etaGas)
  let loaded := { r with pmLoad := pm.1, pmAcc := pm.2, gasLoad := gas.1, gasAcc := gas.2 }
  { loaded with state := loaded.stateOfLoads }

/-- FILTER raised with a state's detail, when the state is WORN or SPENT (R141, R151). -/
def raiseFilterState (x : FilterState) (s : State) : State :=
  match x with
  | .worn => raise (.filter .worn) s
  | .spent => raise (.filter .spent) s
  | .none | .inService => s

/-- The completion of an update reaches the filter account: captured load, and FILTER on a new state (R140, R141). -/
def captureLoad (s : State) : State :=
  if s.filter.kind = .none then s
  else
    let r := s.filter.captured s.est.lastFlow s.est.mixedPm s.est.mixedGas
    let t := s.withFilter r
    if r.state = s.filter.state then t else raiseFilterState r.state t

/-- The estimator sets SUSPECT (R22, R142). -/
def setSuspect (s : State) : State := raise (.filter .suspect) (s.withFilter { s.filter with suspect := true })

/-- The adoption of a stored record and tally (R151). -/
def adopt (stored : Snapshot) (s : State) : State :=
  let t := raiseFilterState stored.filter.state ((s.withFilter stored.filter).withTally stored.tally)
  if stored.filter.suspect then raise (.filter .suspect) t else t

/-! ### The shift tally (R147, R148) -/

/-- The tally after one counted update, with the estimates just published and co2_limit (R147). -/
def Tally.counted (t : Tally) (epm egs eco : Int) (co2Limit : Nat) : Tally :=
  { t with seconds := saturatingAdd max32 t.seconds 1,
           pmDose := saturatingAdd max32 t.pmDose epm.toNat,
           gasDose := saturatingAdd max32 t.gasDose egs.toNat,
           overLimit := if (co2Limit * 16 : Int) < eco then saturatingAdd max32 t.overLimit 1 else t.overLimit }

/-- The completion of an update reaches the tally (R147). -/
def tallyUpdate (s : State) : State :=
  if s.tally.active then
    s.withTally (s.tally.counted s.est.epm s.est.egs s.est.eco s.policy.limits.co2Limit)
  else s

/-- A stop start reaches the tally (R148). -/
def tallyStop (s : State) : State :=
  if s.tally.active then s.withTally { s.tally with stops := saturatingAdd 65535 s.tally.stops 1 } else s

/-- An episode opening reaches the tally (R148). -/
def tallyEpisode (s : State) : State :=
  if s.tally.active then s.withTally { s.tally with episodes := saturatingAdd 65535 s.tally.episodes 1 } else s

end Sys2Proof.Machine
end

