-- ==== Sys2Proof/Machine/Operands.lean ====
section
/-! DEFINITION. The operands of the requests and the codes of the replies: the enumerations of sections 11.4 and 11.6, read
from a number (an unknown value is none) and written as one, and the sets given bit by bit. An enumeration is numbered
from 0 in the order in which the catalogue lists its values (R191). -/

namespace Sys2Proof

/-- A channel code, 0 to 9 in the order of R75 (R199). -/
def Channel.ofCode (n : Nat) : Option Channel := Channel.all[n]?

end Sys2Proof

namespace Sys2Proof.Machine

/-- A sample's quality, numbered in the order of R78 (log 21). -/
def Quality.ofCode : Nat → Option Quality
  | 0 => some .good
  | 1 => some .warming
  | 2 => some .fault
  | _ => none

/-- The last quality in a CHANNELS reply: absent, GOOD, WARMING, FAULT (section 11.6). -/
def qualityCode : Option Quality → Nat
  | none => 0
  | some .good => 1
  | some .warming => 2
  | some .fault => 3

/-- The channel state in a CHANNELS reply (section 11.6). -/
def ChannelState.code : ChannelState → Nat
  | .none => 0
  | .live => 1
  | .stale => 2
  | .lost => 3

/-- NORMAL, INVERTED (R199). -/
def Polarity.ofCode : Nat → Option Polarity
  | 0 => some .normal
  | 1 => some .inverted
  | _ => none

/-- AUTO, FRESH, RECIRC, DEFROST (R199). -/
def PolicyMode.ofCode : Nat → Option PolicyMode
  | 0 => some .auto
  | 1 => some .fresh
  | 2 => some .recirc
  | 3 => some .defrost
  | _ => none

/-- The mode in a STATE reply. -/
def PolicyMode.code : PolicyMode → Nat
  | .auto => 0
  | .fresh => 1
  | .recirc => 2
  | .defrost => 3

/-- The basis in a STATE reply. -/
def Basis.code : Basis → Nat
  | .start => 0
  | .fogOverride => 1
  | .ceiling => 2
  | .plumeHold => 3
  | .openAir => 4
  | .ventilate => 5
  | .ventLimited => 6
  | .modeFresh => 7
  | .modeRecirc => 8
  | .modeDefrost => 9
  | .parked => 10

/-- The hold machine in a STATE reply. -/
def HoldState.code : HoldState → Nat
  | .idle => 0
  | .holding => 1
  | .trailing => 2
  | .lapsed => 3

/-- PM, GAS (R199). -/
def DetectorId.ofCode : Nat → Option DetectorId
  | 0 => some .pm
  | 1 => some .gas
  | _ => none

/-- PM, GAS in a record and a notice detail. -/
def DetectorId.code : DetectorId → Nat
  | .pm => 0
  | .gas => 1

/-- The end cause in an episode record: absent, RELEASED, LIMIT, CHANNEL-LOST. -/
def endCauseCode : Option EpisodeEnd → Nat
  | none => 0
  | some e =>
    match e.cause with
    | .released => 1
    | .limit => 2
    | .channelLost => 3

/-- RUN, STOP (R199). -/
def Engine.ofCode : Nat → Option Engine
  | 0 => some .run
  | 1 => some .stop
  | _ => none

/-- The engine state in a STATE reply: absent, RUN, STOP. -/
def engineCode : Option Engine → Nat
  | none => 0
  | some .run => 1
  | some .stop => 2

/-- The DRIVE freshness in a STATE reply. -/
def Freshness.code : Freshness → Nat
  | .none => 0
  | .fresh => 1
  | .stale => 2
  | .silent => 3

/-- The vehicle state in a STATE reply. -/
def VehicleState.code : VehicleState → Nat
  | .moving => 0
  | .halted => 1
  | .atStop => 2
  | .parked => 3

/-- TRACKED, EDGE, TIMED, DIRECT (R199). -/
def DriveMode.ofCode : Nat → Option DriveMode
  | 0 => some .tracked
  | 1 => some .edge
  | 2 => some .timed
  | 3 => some .direct
  | _ => none

/-- The drive mode in a STATE reply. -/
def DriveMode.code : DriveMode → Nat
  | .tracked => 0
  | .edge => 1
  | .timed => 2
  | .direct => 3

/-- The flap state in a STATE reply. -/
def FlapState.code : FlapState → Nat
  | .idle => 0
  | .waitReady => 1
  | .moving => 2
  | .homing => 3
  | .fault => 4
  | .disabled => 5

/-- NONE, PARTICLE, COMBINED (R199). -/
def FilterKind.ofCode : Nat → Option FilterKind
  | 0 => some .none
  | 1 => some .particle
  | 2 => some .combined
  | _ => Option.none

/-- The filter kind in the filter record layout. -/
def FilterKind.code : FilterKind → Nat
  | .none => 0
  | .particle => 1
  | .combined => 2

/-- The filter state in a reply. -/
def FilterState.code : FilterState → Nat
  | .none => 0
  | .inService => 1
  | .worn => 2
  | .spent => 3

/-- The write phase in a STATE reply: none, ERASING, PROGRAMMING. -/
def phaseCode : Option WriteInFlight → Nat
  | none => 0
  | some w =>
    match w.phase with
    | .erasing _ => 1
    | .programming _ _ _ => 2

/-- A record kind in a STATE reply: CHECKPOINT, FIT, PARK after 0 for none. -/
def RecordKind.code : RecordKind → Nat
  | .checkpoint => 1
  | .fit => 2
  | .park => 3

/-- A quantity code: the channels, then EPM, EGS, ECO, EAH, FOG, SPEED (R199). -/
def Quantity.ofCode : Nat → Option Quantity
  | 10 => some .epm
  | 11 => some .egs
  | 12 => some .eco
  | 13 => some .eah
  | 14 => some .fog
  | 15 => some .speed
  | n => (Channel.ofCode n).map .channel

/-- The code of a quantity (R199). -/
def Quantity.code : Quantity → Nat
  | .channel c => c.code
  | .epm => 10
  | .egs => 11
  | .eco => 12
  | .eah => 13
  | .fog => 14
  | .speed => 15

/-- ABOVE, BELOW, CROSS-UP, CROSS-DOWN (section 11.6). -/
def WatchKind.ofCode : Nat → Option WatchKind
  | 0 => some .above
  | 1 => some .below
  | 2 => some .crossUp
  | 3 => some .crossDown
  | _ => none

/-- The kind in a slot descriptor. -/
def WatchKind.code : WatchKind → Nat
  | .above => 0
  | .below => 1
  | .crossUp => 2
  | .crossDown => 3

/-- OFF, STOP, ALWAYS; a scope code of 3 is unknown (section 11.6). -/
def WatchScope.ofCode : Nat → Option WatchScope
  | 0 => some .off
  | 1 => some .stop
  | 2 => some .always
  | _ => none

/-- The scope in a slot descriptor. -/
def WatchScope.code : WatchScope → Nat
  | .off => 0
  | .stop => 1
  | .always => 2

/-- A slot number, 1 to 4 (R178). -/
def SlotNumber.ofCode : Nat → Option SlotNumber
  | 1 => some .one
  | 2 => some .two
  | 3 => some .three
  | 4 => some .four
  | _ => none

/-- The slots of a WATCH CLEAR set, slot n at bit n - 1 (R199). -/
def slotsOf (set : Byte) : List SlotNumber := SlotNumber.all.filter fun n => set.getLsbD (n.toNat - 1)

/-- The kinds of a NOTICE MASK set, the kind of priority p at bit p - 1 (R199). -/
def noticeKindsOf (set : Word16) : List NoticeKind := NoticeKind.all.filter fun k => set.getLsbD (k.priority - 1)

/-- A condition kind's bit in the condition flags (R199). -/
def ConditionKind.code : ConditionKind → Nat
  | .inputClamped => 0
  | .estimateSaturated => 1
  | .substituted => 2
  | .diverged => 3
  | .zeroFlow => 4
  | .tableClamped => 5

/-- The condition kinds of a mask set, in the bit order of the condition flags (R199). -/
def conditionKindsOf (set : Byte) : List ConditionKind := ConditionKind.all.filter fun k => set.getLsbD k.code

/-- LINE and the other details of FLAP-FAULT, TIMEOUT, LINE, DISABLED (R199). -/
def FlapCause.code : FlapCause → Nat
  | .timeout => 0
  | .line => 1
  | .disabled => 2

/-- WORN, SPENT, SUSPECT (R199). -/
def FilterNotice.code : FilterNotice → Nat
  | .worn => 0
  | .spent => 1
  | .suspect => 2

/-- POWER-ON, RESTART (R199). -/
def ResetKind.code : ResetKind → Nat
  | .powerOn => 0
  | .restart => 1

/-! ### Numeric fields, clamped (00_scope, "Settings, clamping and refusal") -/

/-- A numeric field clamped to lo..hi. -/
def field {w : Nat} (lo hi : Nat) (x : BitVec w) : Nat := clampNat lo hi x.toNat

/-- A numeric field lies outside lo..hi, so that taking it clamps it. -/
def clamps {w : Nat} (lo hi : Nat) (x : BitVec w) : Bool := decide (x.toNat < lo) || decide (hi < x.toNat)

end Sys2Proof.Machine
end

