-- ==== Sys2Proof/Machine/Watch.lean ====
section
/-! DEFINITION. The watch unit: evaluation, hits and the stop end (chapter 9). -/

namespace Sys2Proof.Machine

/-- An evaluation of this slot on this value gives a hit (R174, R175). -/
def WatchSlot.hits (w : WatchSlot) (v : Int) : Bool :=
  match w.kind with
  | .above => decide (w.level < v)
  | .below => decide (v < w.level)
  | .crossUp => w.armed && decide (w.level < v)
  | .crossDown => w.armed && decide (v < w.level)

/-- The armed flag after an evaluation on this value (R174, R175). -/
def WatchSlot.armedAfter (w : WatchSlot) (v : Int) : Bool :=
  match w.kind with
  | .above | .below => w.armed
  | .crossUp => if w.armed then !decide (w.level < v) else decide (v ≤ w.level - w.hysteresis)
  | .crossDown => if w.armed then !decide (v < w.level) else decide (w.level + w.hysteresis ≤ v)

/-- A slot after an evaluation on this value at this uptime (R174 to R176). -/
def WatchSlot.evaluated (w : WatchSlot) (v : Int) (uptime : Nat) : WatchSlot :=
  { w with armed := w.armedAfter v,
           firstHit := if w.hits v && w.firstHit.isNone then some ⟨uptime, v⟩ else w.firstHit }

/-- The evaluation of one slot on this value; a first hit raises WATCH (R176). A slot in OFF is not evaluated (R173). -/
def evaluateSlot (n : SlotNumber) (v : Int) (s : State) : State :=
  let w := s.watch.get n
  if w.scope = .off then s
  else
    let t := s.withWatch (s.watch.set n (w.evaluated v s.uptime))
    if w.hits v && w.firstHit.isNone then raise (.watch [n]) t else t

/-- The evaluation of one slot if it watches this quantity. -/
def deliverTo (q : Quantity) (v : Int) (n : SlotNumber) (s : State) : State :=
  if (s.watch.get n).quantity = q then evaluateSlot n v s else s

/-- A delivery of a quantity: every slot that watches it is evaluated (R173). -/
def deliver (q : Quantity) (v : Int) (s : State) : State :=
  deliverTo q v .four (deliverTo q v .three (deliverTo q v .two (deliverTo q v .one s)))

/-- The present value of a quantity (R173). -/
def State.present (s : State) : Quantity → Int
  | .channel c => s.usable c
  | .epm => s.est.epm
  | .egs => s.est.egs
  | .eco => s.est.eco
  | .eah => s.est.eah
  | .fog => s.est.fogMargin
  | .speed => s.drive.reportedSpeed

/-- The evaluation of one slot on its quantity's present value (R178, R179). -/
def evaluatePresent (n : SlotNumber) (s : State) : State :=
  evaluateSlot n (s.present (s.watch.get n).quantity) s

/-- A slot after a stop end (R177). -/
def WatchSlot.atStopEnd (w : WatchSlot) : WatchSlot :=
  if w.scope = .stop then { w with scope := .off, armed := false } else w

/-- A stop end reaches the watch unit (R101, R177). -/
def watchStopEnd (s : State) : State :=
  s.withWatch { slot1 := s.watch.slot1.atStopEnd, slot2 := s.watch.slot2.atStopEnd,
                slot3 := s.watch.slot3.atStopEnd, slot4 := s.watch.slot4.atStopEnd }

/-- A slot with its hit and armed flags cleared (R178, R179). -/
def WatchSlot.cleared (w : WatchSlot) : WatchSlot := { w with armed := false, firstHit := none }

/-- What WATCH CLEAR does to one slot of its set (R179). Where R179 and the table of R180 say different things, the model follows R179
with R175 and R176, which is the model's choice (log 33): a clear whose own evaluation finds the present value at or beyond the arm
level arms a CROSS slot again, so that a delivery which follows may hit it; and a clear that finds the condition of an ABOVE or
BELOW slot true is itself the first hit, so that a delivery which follows changes nothing. -/
def clearSlot (n : SlotNumber) (s : State) : State :=
  evaluatePresent n (s.withWatch (s.watch.set n (s.watch.get n).cleared))

/-- What WATCH SET does to the slot it names (R178). -/
def writeSlot (n : SlotNumber) (w : WatchSlot) (s : State) : State :=
  evaluatePresent n (s.withWatch (s.watch.set n w.cleared))

end Sys2Proof.Machine
end

