-- ==== Sys2Proof/Machine/Policy.lean ====
section
/-! DEFINITION. The air policy: working values, admissibility, the decision and the override check, the hold machine, the
purge machine and the blower demand (chapter 2). -/

namespace Sys2Proof.Machine

/-! ### Blower demand (R53, R54) -/

/-- The demand that the inputs of R53 give. -/
def State.demandDue (s : State) : Nat :=
  let p := s.policy
  let purge := if p.purging then 7 else 0
  if s.isParked then 0
  else
    match p.mode with
    | .auto =>
      min 7 (max (max p.comfort 1) (max purge (if p.basis = .ventLimited then p.comfort + 2 else 0)))
    | .fresh | .recirc => max p.comfort purge
    | .defrost => 7

/-- A recomputation of the blower demand; a demand already held hands nothing on (R54). -/
def recomputeDemand (s : State) : State :=
  if s.demandDue = s.policy.demand then s
  else blowerDemand s.demandDue (s.withPolicy { s.policy with demand := s.demandDue })

/-! ### Target and basis (R30, R44) -/

/-- The target takes this value; a change records the last change and is handed to the actuator drive (R30). -/
def setTarget (t : Int) (s : State) : State :=
  if t = s.policy.target then s
  else flapTarget t (s.withPolicy { s.policy with target := t, lastChange := some s.uptime })

/-- A basis is recorded; VENT-LIMITED after another basis raises its notice (R44). -/
def recordBasis (b : Basis) (s : State) : State :=
  let t := s.withPolicy { s.policy with basis := b }
  if b = .ventLimited ∧ s.policy.basis ≠ .ventLimited then raise .ventLimited t else t

/-- The held flag takes this value (R29, R43). -/
def setHeld (h : Bool) (s : State) : State := s.withPolicy { s.policy with held := h }

/-- A target applied at once: basis recorded, held flag cleared (R32, R42, R45). -/
def applyNow (t : Int) (b : Basis) (s : State) : State := setTarget t (setHeld false (recordBasis b s))

/-- The change dwell has passed since the last change (R43). -/
def State.dwellPassed (s : State) : Bool :=
  match s.policy.lastChange with
  | none => true
  | some c => decide ((s.policy.limits.changeDwell : Int) ≤ (s.uptime : Int) - c)

/-- A target of base 4, 5 or 6, subject to the change dwell (R43). -/
def applyDwelled (t : Int) (b : Basis) (s : State) : State :=
  if t = s.policy.target ∨ s.dwellPassed then applyNow t b s else setHeld true (recordBasis b s)

/-! ### Fog test and ceiling test (R40, R41) -/

/-- The fog test holds: the stored margin is below floor(fog_min / 2) (R40). -/
def State.fogHolds (s : State) : Bool := decide (s.est.fogMargin < (s.policy.limits.fogMin / 2 : Nat))

/-- The fog test with its flag and notice (R40). -/
def fogTest (s : State) : State :=
  let t := s.withPolicy { s.policy with fogFlag := s.fogHolds }
  if s.fogHolds && !s.policy.fogFlag then raise (.fogAlert s.est.fogMargin) t else t

/-- The ceiling test holds: ECO at or above co2_hard * 16 (R41). -/
def State.ceilingHolds (s : State) : Bool := decide ((s.policy.limits.co2Hard * 16 : Nat) ≤ s.est.eco)

/-- The ceiling test with its flag and notice (R41). -/
def ceilingTest (s : State) : State :=
  let t := s.withPolicy { s.policy with ceilingFlag := s.ceilingHolds }
  if s.ceilingHolds && !s.policy.ceilingFlag then raise (.co2Ceiling s.est.eco) t else t

/-! ### Steady-state arithmetic (R36 to R38) -/

/-- The air flow at a blower level and a derate, 0 while the blower is in FAULT (R6, R36). -/
def flowOf (level derate : Nat) (fault : Bool) : Int := if fault then 0 else flowTable level * derate / 1000

/-- The flow with the blower and the filter as they stand (R6, R36). -/
def State.flow (s : State) : Int := flowOf s.blower.level s.filter.derate s.blower.fault

/-- The exchange coefficient of a flow (R7). -/
def exchange (q : Int) (volume : Nat) : Int := q * 65536000 / (3600 * volume)

/-- The carbon dioxide source per second (R14). -/
def sourceCo2 (c : CabinSettings) : Int := c.occupants * 80000 / c.volume

/-- The humidity source per second (R14). -/
def sourceAh (c : CabinSettings) : Int := c.occupants * 11110 / c.volume

/-- The outside humidity from the usable values of OTM and ORH (R8, R36). -/
def State.outsideAh (s : State) : Int := sat (s.usable .otm) * s.usable .orh / 1000

/-- The working values of one evaluation (R36). -/
structure WorkingValues where
  k : Int
  gCo : Int
  gAh : Int
  oCo : Int
  oAh : Int
  screen : Int
deriving DecidableEq, Repr

/-- The working values at this flow from the inputs as they stand (R36). -/
def State.workingValues (s : State) (q : Int) : WorkingValues :=
  { k := exchange q s.est.cabin.volume, gCo := sourceCo2 s.est.cabin, gAh := sourceAh s.est.cabin,
    oCo := s.est.cabin.co2Reference * 16, oAh := s.outsideAh, screen := sat (s.usable .stm) }

/-- The two lookups of an evaluation, OTM first and STM second, for their TABLE-CLAMPED (R36). -/
def noteWorkingLookups (s : State) : State :=
  noteLookup .stm (s.usable .stm) (noteLookup .otm (s.usable .otm) s)

/-- A candidate above 0 is admissible (R37). -/
def admissible (w : WorkingValues) (l : Limits) (f : Int) : Bool :=
  decide (w.k ≠ 0)
    && decide (w.oCo + w.gCo * 65536000 / (w.k * f) ≤ l.co2Limit * 16)
    && decide (l.fogMin ≤ w.screen - (w.oAh + w.gAh * 65536000 / (w.k * f)))

/-- The candidate 0 is admissible, from the present estimates (R38). -/
def admissibleZero (w : WorkingValues) (l : Limits) (eco eah : Int) : Bool :=
  decide (eco + w.gCo * l.recircDwell ≤ l.co2Limit * 16)
    && decide (l.fogMin ≤ w.screen - (eah + w.gAh * l.recircDwell))

/-- The target of base 2: the lowest of 500, 750 and 1000 that is admissible, else 1000 (R42). -/
def ceilingTarget (w : WorkingValues) (l : Limits) : Int :=
  if admissible w l 500 then 500 else if admissible w l 750 then 750 else 1000

/-- The lowest admissible candidate, if there is one (R42, base 5). -/
def lowestCandidate (w : WorkingValues) (l : Limits) (eco eah : Int) : Option Int :=
  if admissibleZero w l eco eah then some 0
  else if admissible w l 125 then some 125
  else if admissible w l 250 then some 250
  else if admissible w l 500 then some 500
  else if admissible w l 750 then some 750
  else if admissible w l 1000 then some 1000
  else none

/-! ### The open-air test (R42 base 4, R46) -/

/-- The street-canyon condition: at least three records whose start is at least uptime - 300 (R46). -/
def State.streetCanyon (s : State) : Bool :=
  decide (3 ≤ (s.tracker.table.filter fun e => decide (s.uptime ≤ e.start + 300)).length)

/-- The open-air test (R42, base 4). -/
def State.openAir (s : State) : Bool :=
  decide (s.usable .opm ≤ s.policy.limits.cleanPm) && decide (s.usable .ogs ≤ s.policy.limits.cleanGas)
    && !s.channels.opm.onSubstitute && !s.channels.ogs.onSubstitute && !s.tracker.anyOpen && !s.streetCanyon

/-! ### The decision (R32, R39, R42) -/

/-- The bases of R42 below FOG-OVERRIDE, with the working values formed (log 12). -/
def autoBelowFog (s : State) : State :=
  let w := s.workingValues s.flow
  if s.policy.ceilingFlag then applyNow (ceilingTarget w s.policy.limits) .ceiling s
  else if s.policy.hold = .holding ∨ s.policy.hold = .trailing then applyNow 0 .plumeHold s
  else if s.openAir then applyDwelled 1000 .openAir s
  else
    match lowestCandidate w s.policy.limits s.est.eco s.est.eah with
    | some f => applyDwelled f .ventilate s
    | none => applyDwelled 1000 .ventLimited s

/-- The decision by mode, after the fog test (R32, R42). -/
def decideByMode (s : State) : State :=
  match s.policy.mode with
  | .auto => if s.policy.fogFlag then applyNow 1000 .fogOverride s else autoBelowFog (noteWorkingLookups s)
  | .fresh => applyNow 1000 .modeFresh s
  | .recirc => if s.policy.ceilingFlag then applyNow 500 .ceiling s else applyNow 0 .modeRecirc s
  | .defrost => applyNow 1000 .modeDefrost s

/-- A full decision; none runs while PARKED (R39). -/
def fullDecision (s : State) : State :=
  if s.isParked then s else recomputeDemand (decideByMode (fogTest s))

/-- What the override check does in AUTO and RECIRC once the two tests are made (R45). The flow is the one the update's stage 1
has just stored (R36). -/
def applyOverride (s : State) : State :=
  match s.policy.mode with
  | .auto =>
    if s.policy.fogFlag then applyNow 1000 .fogOverride s
    else if s.policy.ceilingFlag then
      applyNow (ceilingTarget (s.workingValues s.est.lastFlow) s.policy.limits) .ceiling (noteWorkingLookups s)
    else s
  | .recirc => if s.policy.ceilingFlag ∧ s.policy.target = 0 then applyNow 500 .ceiling s else s
  | .fresh | .defrost => s

/-- The override check at the completion of an update (R45). -/
def overrideCheck (s : State) : State := recomputeDemand (applyOverride (ceilingTest (fogTest s)))

/-! ### The hold machine (R47 to R49) -/

/-- The hold machine takes a new state, with HOLD as given, and a full decision runs (R47, R49). -/
def holdMove (h : HoldState) (timer : Option Nat) (s : State) : State :=
  fullDecision ((s.withTimers { s.timers with hold := timer }).withPolicy { s.policy with hold := h })

/-- An episode opens (R47). -/
def holdEpisodeOpens (s : State) : State :=
  match s.policy.hold with
  | .idle | .trailing => holdMove .holding (some (s.policy.limits.holdMax * 1000)) s
  | .holding | .lapsed => s

/-- An episode closes (R47). -/
def holdEpisodeCloses (s : State) : State :=
  if s.tracker.anyOpen then s
  else
    match s.policy.hold with
    | .holding =>
      if s.policy.limits.releaseDelay = 0 then holdMove .idle none s
      else holdMove .trailing (some (s.policy.limits.releaseDelay * 1000)) s
    | .lapsed => holdMove .idle s.timers.hold s
    | .idle | .trailing => s

/-- The number of the lowest-numbered open episode, the first OPEN record of the table (R48, R60, log 15). -/
def Tracker.lowestOpen (t : Tracker) : Nat :=
  match t.table.find? fun e => e.ending.isNone with
  | some e => e.number
  | none => 0

/-- HOLD expires (R48); a STOPPED HOLD has no expiry (R106). -/
def holdExpired (s : State) : State :=
  if s.timers.hold.isNone then s
  else
    match s.policy.hold with
    | .holding => holdMove .lapsed none (raise (.plumeLong s.tracker.lowestOpen) s)
    | .trailing => holdMove .idle none s
    | .idle | .lapsed => s.withTimers { s.timers with hold := none }

/-! ### The purge machine (R50 to R52) -/

/-- A purge ends: IDLE, PURGE stopped, the demand recomputed (R51, R52). -/
def endPurge (s : State) : State :=
  recomputeDemand ((s.withTimers { s.timers with purge := none }).withPolicy { s.policy with purging := false })

/-- A purge starts (R50). -/
def startPurge (s : State) : State :=
  recomputeDemand ((s.withTimers { s.timers with purge := some (s.policy.limits.purgeTime * 1000) }).withPolicy
    { s.policy with purging := true })

/-- A door-open event reaches the purge machine, the doors as it has left them (R50, R52). -/
def purgeDoorOpened (s : State) : State :=
  let t := if s.policy.purging then endPurge s else s
  if s.drive.drv.isOpen && s.drive.krb.isOpen then t
  else t.withPolicy { t.policy with openSince := some t.uptime }

/-- A closing that leaves no door open starts a purge (R50). -/
def State.purgeDue (s : State) : Bool :=
  match s.policy.openSince with
  | none => false
  | some o => !s.policy.purging && decide ((5 : Int) ≤ (s.uptime : Int) - o)
      && decide (s.policy.limits.purgeTime ≠ 0) && !s.isParked

/-- A door-closed event reaches the purge machine, the doors as it has left them (R50). -/
def purgeDoorClosed (s : State) : State :=
  if s.drive.anyOpen then s
  else
    let t := if s.purgeDue then startPurge s else s
    t.withPolicy { t.policy with openSince := none }

/-- PURGE expires (R51); a STOPPED PURGE has no expiry (R106). -/
def purgeExpired (s : State) : State := if s.timers.purge.isNone then s else endPurge s

/-- The level at or below which EPM ends a purge (R51). -/
def State.cleaningLevel (s : State) : Int := s.usable .opm * 16 * (1000 - s.filter.etaPm) / 1000 + 80

/-- The cleaning test at the completion of an update (R51). -/
def purgeCleaning (s : State) : State :=
  if s.policy.purging ∧ s.est.epm ≤ s.cleaningLevel then endPurge s else s

/-! ### PARK and the leaving of PARKED (R33) -/

/-- PARK reaches the policy, the vehicle state PARKED already (R33). -/
def policyPark (s : State) : State :=
  let t := applyNow 1000 .parked s
  let u := t.withPolicy { t.policy with fogFlag := false, purging := false }
  recomputeDemand (u.withTimers { u.timers with purge := none })

/-- The wake reaches the policy (R33). -/
def policyWake (s : State) : State := fullDecision (recomputeDemand s)

end Sys2Proof.Machine
end

