-- ==== Sys2Proof/Machine/Tracker.lean ====
section
/-! DEFINITION. The plume tracker: the two detectors and the episode table (chapter 3). -/

namespace Sys2Proof.Machine

/-! ### The episode table (R60 to R62) -/

/-- The number after n in the numbering sequence (R61). -/
def nextEpisodeNumber (n : Nat) : Nat := if n = 65535 then 1 else n + 1

/-- The table without its oldest CLOSED record (R62). -/
def evictOldestClosed : List Episode → List Episode
  | [] => []
  | e :: rest => if e.ending.isSome then rest else e :: evictOldestClosed rest

/-- The table after a record joins at its end; a full table first loses its oldest CLOSED record (R62). Where one detector closes and the
other opens, the table then holds the same records in either order, as R74 says, but in one case: of a full table whose closing record
stands ahead of every CLOSED one, R62 itself removes different records by the order. DESIGN CHOICE (log 32): R62 is followed there. -/
def joinTable (e : Episode) (table : List Episode) : List Episode :=
  (if table.length < 16 then table else evictOldestClosed table) ++ [e]

/-- The record is the OPEN record of this detector (R59, R60). -/
def Episode.isOpenOf (d : DetectorId) (e : Episode) : Bool := decide (e.source = d) && e.ending.isNone

/-- The table with the OPEN record of a detector changed; a detector has one at most (R57, R60). -/
def updateRecord (d : DetectorId) (change : Episode → Episode) : List Episode → List Episode
  | [] => []
  | e :: rest => if e.isOpenOf d then change e :: rest else e :: updateRecord d change rest

/-- The start of the OPEN record of a detector. -/
def startOf (d : DetectorId) (table : List Episode) : Option Nat := (table.find? (Episode.isOpenOf d)).map (·.start)

/-- The excess of a sample over the frozen baseline (R59). -/
def excess (v b : Int) : Nat := (v - b).toNat

/-- A record after a sample of its episode: peak and dose (R66, steps 1 and 2). -/
def Episode.sampled (value v b : Int) (e : Episode) : Episode :=
  { e with peak := max e.peak value, dose := saturatingAdd max32 e.dose (excess v b) }

/-- A record closed at this uptime (R67, R68). -/
def Episode.closed (uptime : Nat) (cause : EndCause) (e : Episode) : Episode :=
  { e with ending := some ⟨uptime, cause⟩ }

/-! ### The detectors (R63 to R69) -/

/-- An episode opens on the sample `value`, v in internal units, over the baseline b (R65). -/
def openEpisode (d : DetectorId) (value v b : Int) (s : State) : State :=
  let n := s.tracker.nextNumber
  let e : Episode :=
    { number := n, source := d, start := s.uptime, ending := none, peak := value, baselineAtOpen := b / 16,
      dose := saturatingAdd max32 0 (excess v b) }
  let t := { s.tracker.setDetector d { s.tracker.detector d with openEpisode := some n, release := 0 } with
             table := joinTable e s.tracker.table, nextNumber := nextEpisodeNumber n }
  tallyEpisode (holdEpisodeOpens (raise (.plumeOpen n d) (s.withTracker t)))

/-- The open episode of a detector closes (R67 to R69). -/
def closeEpisode (d : DetectorId) (cause : EndCause) (s : State) : State :=
  let t := { s.tracker.setDetector d { s.tracker.detector d with openEpisode := none, release := 0 } with
             table := updateRecord d (Episode.closed s.uptime cause) s.tracker.table }
  holdEpisodeCloses (s.withTracker t)

/-- A sample opens an episode (R64). -/
def DetectorSettings.opens (x : DetectorSettings) (v b : Int) : Bool :=
  decide (b + x.jump * 16 ≤ v) || decide ((x.level * 16 : Int) ≤ v)

/-- The release count after a sample of an open episode (R66, step 3). -/
def releaseAfter (r : DetectorRecord) (v b : Int) : Nat :=
  if v ≤ b + r.settings.jump * 8 then r.release + 1 else 0

/-- The cause by which a sample closes the open episode, after the steps of R66, if it does (R67). -/
def closingCause (x : DetectorSettings) (release start uptime : Nat) : Option EndCause :=
  if x.releaseCount ≤ release then some .released
  else if (x.maxDuration : Int) ≤ (uptime : Int) - start then some .limit
  else none

/-- A sample reaches an OPEN detector (R66, R67). -/
def sampleOpen (d : DetectorId) (value v b : Int) (s : State) : State :=
  let r := s.tracker.detector d
  let release := releaseAfter r v b
  let t := s.withTracker
    { s.tracker.setDetector d { r with release := release } with
      table := updateRecord d (Episode.sampled value v b) s.tracker.table }
  match closingCause r.settings release ((startOf d s.tracker.table).getD s.uptime) s.uptime with
  | some cause => closeEpisode d cause t
  | none => t

/-- A sample reaches a QUIET detector whose baseline is b (R64). -/
def sampleQuiet (d : DetectorId) (value v b : Int) (s : State) : State :=
  let r := s.tracker.detector d
  if r.settings.opens v b then openEpisode d value v b s
  else s.withTracker (s.tracker.setDetector d { r with baseline := some (b + truncated (v - b) 64) })

/-- An accepted sample reaches its detector (R63). -/
def detectorSample (d : DetectorId) (value : Int) (s : State) : State :=
  let r := s.tracker.detector d
  let v := value * 16
  match r.baseline with
  | none => s.withTracker (s.tracker.setDetector d { r with baseline := some v })
  | some b =>
    match r.openEpisode with
    | none => sampleQuiet d value v b s
    | some _ => sampleOpen d value v b s

/-- The detector's channel enters LOST (R68). -/
def detectorLost (d : DetectorId) (s : State) : State :=
  let t := s.withTracker (s.tracker.setDetector d { s.tracker.detector d with baseline := none })
  match (s.tracker.detector d).openEpisode with
  | some _ => closeEpisode d .channelLost t
  | none => t

/-! ### EPISODES (R71) -/

/-- A record qualifies for a from-number (R71). -/
def Episode.qualifies (g : Nat) (e : Episode) : Bool :=
  decide (g = 0) || decide (((e.number : Int) - g) % 65535 < 32768)

/-- The qualifying records in table order (R71). -/
def Tracker.qualifying (t : Tracker) (g : Nat) : List Episode := t.table.filter (Episode.qualifies g)

end Sys2Proof.Machine
end

