-- ==== Sys2Proof/Machine/Replies.lean ====
section
/-! DEFINITION. The replies: the result codes (R198), the layouts of sections 11.4 and 11.6 byte by byte, and the building and
sending of a reply. -/

namespace Sys2Proof.Machine

/-- The result codes (R198). -/
inductive ResultCode where
  | done | doneClamped | refusedUnknown | refusedLength | refusedValue | refusedState | empty
deriving DecidableEq, Repr

/-- The code of a result (R198). -/
def ResultCode.code : ResultCode → Byte
  | .done => 0#8
  | .doneClamped => 1#8
  | .refusedUnknown => 2#8
  | .refusedLength => 3#8
  | .refusedValue => 4#8
  | .refusedState => 5#8
  | .empty => 6#8

/-- DONE-CLAMPED if any field was clamped, otherwise DONE. -/
def doneOr (clamped : Bool) : ResultCode := if clamped then .doneClamped else .done

/-! ### Fields of a reply (R191): high byte first, signed in two's complement -/

/-- One byte. -/
def out8 (x : Nat) : List Byte := [BitVec.ofNat 8 x]

/-- Two bytes. -/
def out16 (x : Int) : List Byte := bytes16 (BitVec.ofInt 16 x)

/-- Four bytes. -/
def out32 (x : Int) : List Byte := bytes32 (BitVec.ofInt 32 x)

/-- The bits of a set: bit `bit x` for each member x. -/
def bitsOf {α : Type} (bit : α → Nat) (members : List α) : Nat := members.foldl (fun n x => n ||| (1 <<< bit x)) 0

/-! ### The bodies after the head (R199) -/

/-- IDENT (R199, R200). -/
def identBody (s : State) : List Byte :=
  out16 24 ++ [Config.hardwareIssue] ++ bytes16 Config.firmwareIssue ++ bytes32 Config.serialNumber
    ++ out8 s.link.lastReset.code

/-- The filter record layout, from offset 2 (section 11.6). -/
def filterBody (s : State) : List Byte :=
  let r := s.filter
  out8 r.kind.code ++ out16 r.fitDay ++ out32 r.pmCap ++ out32 ((r.gasCap.getD 0 : Nat) : Int) ++ out16 r.etaPmBase
    ++ out16 ((r.etaGasBase.getD 0 : Nat) : Int) ++ out32 r.pmLoad ++ out32 r.gasLoad ++ out32 r.pmAcc
    ++ out32 r.gasAcc ++ out8 (r.state.code + 4 * r.suspect.toNat) ++ out16 r.etaPm ++ out16 r.etaGas ++ out16 r.derate

/-- One slot of the WATCH READ layout: descriptor, level, hysteresis, first-hit uptime and value, 0 while absent. -/
def WatchSlot.out (w : WatchSlot) : List Byte :=
  out8 (16 * w.quantity.code + 4 * w.kind.code + w.scope.code) ++ out32 w.level ++ out16 w.hysteresis
    ++ (match w.firstHit with
        | none => out32 0 ++ out32 0
        | some h => out32 h.uptime ++ out32 h.value)

/-- The hit flag of slot n at bit 2n - 2 and its armed flag at bit 2n - 1 (section 11.6). -/
def watchFlags (u : WatchUnit) : Nat :=
  SlotNumber.all.foldl
    (fun x n => x + ((u.get n).firstHit.isSome.toNat + 2 * (u.get n).armed.toNat) * 4 ^ (n.toNat - 1)) 0

/-- The WATCH READ layout, from offset 2 (section 11.6). -/
def watchBody (s : State) : List Byte :=
  out8 (watchFlags s.watch) ++ s.watch.slot1.out ++ s.watch.slot2.out ++ s.watch.slot3.out ++ s.watch.slot4.out

/-- The four bytes of a notice detail (R199). The third byte of PLUME-OPEN's, which the table leaves unnamed, is a free value; that
the one-byte code of FLAP-FAULT and FILTER stands in the low byte, after three zero bytes, is the model's choice (log 30). -/
def Notice.detail : Notice → List Byte
  | .flapFault c => out32 c.code
  | .blowerFault => out32 0
  | .co2Ceiling eco => out32 eco
  | .fogAlert m => out32 m
  | .journalFail => out32 0
  | .plumeOpen n d => out16 n ++ [Config.plumeOpenSpare] ++ out8 d.code
  | .plumeLong n => out32 n
  | .ventLimited => out32 0
  | .sensorLost l => out32 (bitsOf Channel.code l)
  | .filter d => out32 d.code
  | .watch l => out32 (bitsOf (fun n : SlotNumber => n.toNat - 1) l)
  | .condition l => out32 (bitsOf ConditionKind.code l)
  | .moveDone p => out32 p

/-- NOTICE FETCH: kind by its priority, repeated flag, detail (R199). -/
def noticeBody (p : PendingNotice) : List Byte :=
  out8 p.notice.kind.priority ++ out8 p.repeated.toNat ++ p.notice.detail

/-- The last-condition record of a CONDITIONS reply; an absent record's bytes are a free value (R199, log 7). -/
def conditionRecordBody : Option ConditionRecord → List Byte
  | none =>
    out8 0 ++ [Config.absentConditionRecord.extractLsb' 72 8, Config.absentConditionRecord.extractLsb' 64 8]
      ++ bytes32 (Config.absentConditionRecord.extractLsb' 32 32)
      ++ bytes32 (Config.absentConditionRecord.extractLsb' 0 32)
  | some r =>
    out8 1 ++ out8 r.kind.code ++ out8 (match r.quantity with | none => 255 | some q => q.code) ++ out32 r.uptime
      ++ out32 r.value

/-- CONDITIONS: flags, masks, record (R188, R199). -/
def conditionsBody (s : State) : List Byte :=
  out8 (bitsOf ConditionKind.code s.notices.conditionFlags)
    ++ out8 (bitsOf ConditionKind.code s.notices.conditionMasked) ++ conditionRecordBody s.notices.lastCondition

/-- The last change in a STATE reply; the bytes of an absent one, whose presence bit is clear, are a free value (R201, log 7). -/
def lastChangeBytes : Option Nat → List Byte
  | none => bytes32 Config.absentLastChange
  | some u => out32 u

/-- The RUNNING bit of an interval channel, for the STATE layout. -/
def runningBit (t : Option Nat) : Nat := t.isSome.toNat

/-- The STATE layout, from offset 2 to 31: estimates, times, policy, drive state (section 11.6). -/
def stateBodyHead (s : State) : List Byte :=
  let p := s.policy
  let d := s.drive
  let t := s.timers
  out16 s.est.epm ++ out16 s.est.egs ++ out32 s.est.eco ++ out16 s.est.eah ++ out32 s.est.fogMargin
    ++ out32 s.uptime ++ lastChangeBytes p.lastChange
    ++ out8 (p.mode.code + 4 * p.hold.code + 16 * p.purging.toNat + 32 * p.held.toNat + 64 * p.fogFlag.toNat
        + 128 * p.ceilingFlag.toNat)
    ++ out8 (p.basis.code + 128 * p.lastChange.isSome.toNat)
    ++ out16 p.target ++ out8 (p.comfort + 16 * p.demand)
    ++ out8 (d.vehicle.code + 4 * d.stopFlag.toNat + 8 * d.drv.isOpen.toNat + 16 * d.krb.isOpen.toNat
        + 32 * d.freshness.code)
    ++ out8 d.reportedSpeed
    ++ out8 (engineCode d.engine + 4 * runningBit t.est + 8 * runningBit t.dec + 16 * runningBit t.hold
        + 32 * runningBit t.purge + 64 * runningBit t.ckpt)

/-- The STATE layout, from offset 32 to 63: counts, detectors, actuator, filter, journal, notices (section 11.6). -/
def stateBodyTail (s : State) : List Byte :=
  let t := s.timers
  let f := s.flap
  let j := s.journal
  out16 (reportedCount t.est) ++ out16 (reportedCount t.dec) ++ out16 (reportedCount t.hold)
    ++ out16 (reportedCount t.purge) ++ out16 ((t.ckpt.getD 0 : Nat) : Int)
    ++ out8 (s.tracker.pm.openEpisode.isSome.toNat + 2 * s.tracker.gas.openEpisode.isSome.toNat)
    ++ out16 ((s.tracker.pm.openEpisode.getD 0 : Nat) : Int) ++ out16 ((s.tracker.gas.openEpisode.getD 0 : Nat) : Int)
    ++ out8 (f.mode.code + 4 * f.state.code + 32 * f.failCount)
    ++ out8 (f.inhibit.toNat + 2 * f.ready.toNat + 4 * f.faultLine.toNat + 8 * s.blower.fault.toNat + 16 * s.blower.level)
    ++ out16 f.target ++ out16 f.setPoint ++ out16 s.flapPosition
    ++ out8 (s.filter.state.code + 4 * s.filter.suspect.toNat + 8 * s.tally.active.toNat
        + 16 * (decide (j.state = .failed)).toNat + 32 * phaseCode j.write)
    ++ out8 ((match j.pendingWrite with | none => 0 | some w => w.kind.code)
        + 4 * (match j.newest with | none => 0 | some n => n.kind.code))
    ++ out8 (bitsOf id j.retired) ++ out32 ((match j.newest with | none => 0 | some n => n.sequence : Nat) : Int)
    ++ out16 (bitsOf (fun p : PendingNotice => p.notice.kind.priority - 1) s.notices.pending)

/-- STATE (R201). -/
def stateBody (s : State) : List Byte := stateBodyHead s ++ stateBodyTail s

/-- The age a CHANNELS reply gives, in whole seconds (R92, R202). -/
def ChannelRecord.reportedAge (r : ChannelRecord) : Nat :=
  match r.state with
  | .none => 0
  | _ => min 65535 (r.ageMs.getD 0 / 1000)

/-- A two-bit code above a signed 14-bit value (R202). -/
def packed14 (code : Nat) (v : Int) : List Byte := bytes16 (BitVec.ofNat 2 code ++ BitVec.ofInt 14 v)

/-- One channel's six bytes (R202). -/
def ChannelRecord.out (r : ChannelRecord) : List Byte :=
  packed14 r.state.code r.usable ++ packed14 (qualityCode r.lastQuality) r.lastValue ++ out16 r.reportedAge

/-- CHANNELS (R92, R202). -/
def channelsBody (s : State) : List Byte :=
  out16 (bitsOf Channel.code (Channel.all.filter fun c => (s.channels.get c).faultFlag))
    ++ Channel.all.flatMap fun c => (s.channels.get c).out

/-- An episode record's 19 bytes (section 11.6). -/
def Episode.out (e : Episode) : List Byte :=
  out16 e.number ++ out8 (e.source.code + 2 * e.ending.isSome.toNat + 4 * endCauseCode e.ending) ++ out32 e.start
    ++ out32 ((match e.ending with | none => 0 | some x => x.time : Nat) : Int) ++ out16 e.peak
    ++ out16 e.baselineAtOpen ++ out32 e.dose

/-- EPISODES: the more flag and the first three qualifying records (R71). -/
def episodesBody (found : List Episode) : List Byte :=
  out8 (decide (3 < found.length)).toNat ++ (found.take 3).flatMap Episode.out

/-- SHIFT when DONE: the active flag and the six counts and sums (R149). -/
def shiftBody (t : Tally) : List Byte :=
  out8 t.active.toNat ++ out32 t.seconds ++ out32 t.pmDose ++ out32 t.gasDose ++ out32 t.overLimit ++ out16 t.stops
    ++ out16 t.episodes

/-! ### Sending (R195 to R198) -/

/-- The reply's KIND: the request's plus 0x80, modulo 256 (R191). -/
def replyKind (code : Byte) : Byte := code + 0x80#8

/-- The reply of this KIND and payload, with the LEN and the CRC of its frame (R191). -/
def Reply.of (kind : Byte) (payload : List Byte) : Reply :=
  { len := lenByte payload, kind := kind, payload := payload, crc := frameCrc kind payload }

/-- The frame that the transmitter sends for a reply, byte by byte: SYNC, LEN, KIND, the payload, the CRC high byte first (R191). -/
def Reply.frame (r : Reply) : List Byte := 0xA5#8 :: r.len :: r.kind :: (r.payload ++ bytes16 r.crc)

/-- A reply to the request of this code is built and framed, with DROPPED and BADFRAME copied into its head and cleared, and the
transmitter begins to send it; the head no longer holds (R195, R196, R198). -/
def sendReply (code : Byte) (result : ResultCode) (body : List Byte) (s : State) : State :=
  s.withLink { s.link with
    sending := some (.of (replyKind code) (result.code :: s.linkStatus :: body)),
    holding := false, dropped := false, badFrame := false }

/-- The journal releases a held PARK (R160, R163, R196). -/
def releasePark (s : State) : State := sendReply 0x17#8 .done [] s

/-- The journal releases a RESTART (R163, R167, R197). -/
def releaseRestart (s : State) : State := sendReply 0x19#8 .done [] s

/-- A RESTART has been released and its reply is going out: the reset follows, and no trigger is taken any more (R169, log 14). -/
def State.restartReleased (s : State) : Bool :=
  s.link.sending.isSome && decide (s.link.queue.head? = some .restart)

end Sys2Proof.Machine
end

