-- ==== Sys2Proof/Machine/Journal.lean ====
section
/-! DEFINITION. The checkpoint journal: triggers, writes, sector switches, completions, FAILED, the start-up scan (chapter 8). -/

namespace Sys2Proof.Machine

/-! ### FAILED (R163) -/

/-- The write in flight or the pending write owes a PARK reply (R163). -/
def Journal.owesPark (j : Journal) : Bool :=
  (match j.write with | none => false | some w => w.parkOwed)
    || (match j.pendingWrite with | none => false | some w => w.parkOwed)

/-- The entry to FAILED: the writes are gone, JOURNAL-FAIL is raised, an owed PARK reply is sent and a waiting RESTART is
released, whose replies are built with the notice pending (R163, R184, log 17). -/
def enterFailed (s : State) : State :=
  let j := s.journal
  let t := raise .journalFail
    (s.withJournal { j with state := .failed, write := none, pendingWrite := none, restartWaiting := false })
  let u := if j.owesPark then releasePark t else t
  if j.restartWaiting then releaseRestart u else u

/-! ### The target of a write (R157, R158) -/

/-- The first slot of the active sector from the write position upward that reads ERASED (R157). -/
def State.erasedSlot (s : State) (sector : Nat) : Option Nat :=
  sectorSlots.find? fun i =>
    decide (s.journal.writePosition ≤ i) && decide (s.flash.read (slotNumber sector i) = .erased)

/-- The write in flight, `w`, is programmed into this slot with the next sequence; the last sequence no VALID record may
carry leads to FAILED instead (R157). -/
def beginProgram (w : WriteInFlight) (sector slot : Nat) (s : State) : State :=
  let j := s.journal
  if j.nextSequence = max32 then enterFailed (s.withJournal { j with write := some w })
  else
    s.withJournal { j with write := some { w with phase := .programming sector slot j.nextSequence },
                           nextSequence := j.nextSequence + 1 }

/-- The sectors in ring order after one (R153, R158). -/
def ringAfter (sector : Nat) : List Nat := allSectors.map fun i => (sector + 1 + i) % 8

/-- A sector may be erased: not retired, not the active one, not the newest record's (R158, step 2). -/
def Journal.mayErase (j : Journal) (sector : Nat) : Bool :=
  !decide (sector ∈ j.retired) && !decide (j.activeSector = some sector)
    && !decide (j.newest.map (·.sector) = some sector)

/-- Step 2 and 3 of a switch for the write `w`, over the sectors in the order given (R158). -/
def chooseSector (w : WriteInFlight) (order : List Nat) (s : State) : State :=
  match order.find? s.journal.mayErase with
  | some c => s.withJournal { s.journal with write := some { w with phase := .erasing c } }
  | none => enterFailed (s.withJournal { s.journal with write := some w })

/-- A retirement leaves fewer than two sectors (R163). -/
def Journal.tooFewLeft (j : Journal) : Bool := decide (8 < j.retired.length + 2)

/-- A sector joins the retired list, which holds no duplicates (R155). -/
def Journal.retire (j : Journal) (sector : Nat) : Journal :=
  if sector ∈ j.retired then j else { j with retired := j.retired ++ [sector] }

/-- The journal with the active sector retired if it has failed twice or more (R158, step 1). -/
def Journal.retireActive (j : Journal) : Journal :=
  match j.activeSector with
  | some a => if 2 ≤ j.failCounts.get a then j.retire a else j
  | none => j

/-- The ring order in which a switch searches (R158, step 2). -/
def Journal.searchOrder (j : Journal) : List Nat :=
  match j.activeSector with
  | some a => ringAfter a
  | none => allSectors

/-- A sector switch for the write `w` (R158). -/
def switchSector (w : WriteInFlight) (s : State) : State :=
  let j := s.journal.retireActive
  let t := s.withJournal { j with write := some w }
  if decide (j.retired ≠ s.journal.retired) && j.tooFewLeft then enterFailed t
  else chooseSector w j.searchOrder t

/-- The write `w` looks for its target (R157). -/
def seekTarget (w : WriteInFlight) (s : State) : State :=
  match s.journal.activeSector with
  | none => switchSector w s
  | some a =>
    match s.erasedSlot a with
    | some i => beginProgram w a i s
    | none => switchSector w s

/-- The start of a write with a fresh snapshot (R157). The phase stands for none until the target is found, in this same
event. -/
def startWrite (kind : RecordKind) (parkOwed : Bool) (s : State) : State :=
  seekTarget { kind := kind, snapshot := { filter := s.filter, tally := s.tally }, parkOwed := parkOwed,
               phase := .erasing 0 } s

/-! ### Triggers (R156, R157) -/

/-- A trigger merged into the pending write (R156). -/
def mergePending (kind : RecordKind) (parkOwed : Bool) : Option PendingWrite → PendingWrite
  | none => { kind := kind, parkOwed := parkOwed }
  | some p =>
    { kind := if p.kind = .fit ∨ kind = .fit then .fit else kind, parkOwed := p.parkOwed || parkOwed }

/-- A trigger reaches the journal (R157); none is taken once a RESTART has been released (R169, log 14), and none reaches a
journal in SCANNING (R157, log 14). -/
def trigger (kind : RecordKind) (parkOwed : Bool) (s : State) : State :=
  if s.restartReleased then s
  else
    match s.journal.state with
    | .scanning => s
    | .failed => if parkOwed then releasePark s else s
    | .ready =>
      match s.journal.write with
      | none => startWrite kind parkOwed s
      | some _ =>
        s.withJournal { s.journal with pendingWrite := some (mergePending kind parkOwed s.journal.pendingWrite) }

/-! ### Completions (R159 to R161) -/

/-- An erase passes (R159). -/
def erasePassed (s : State) : State :=
  match s.journal.write with
  | some w =>
    match w.phase with
    | .erasing c =>
      beginProgram w c 0
        ((s.withFlash (s.flash.eraseSector c)).withJournal
          { s.journal with activeSector := some c, failCounts := s.journal.failCounts.set c 0, writePosition := 0 })
    | .programming _ _ _ => s
  | none => s

/-- An erase fails and leaves the sector's slots so (R159). -/
def eraseFailed (left : List SlotOutcome) (s : State) : State :=
  match s.journal.write with
  | some w =>
    match w.phase with
    | .erasing c =>
      let t := (s.withFlash (s.flash.spoilSector c left)).withJournal (s.journal.retire c)
      if t.journal.tooFewLeft then enterFailed t else chooseSector w (ringAfter c) t
    | .programming _ _ _ => s
  | none => s

/-- The record a write in flight programs with a sequence, with the CRC of its bytes (R154). -/
def WriteInFlight.record (w : WriteInFlight) (sequence : Nat) : JournalRecord :=
  { sequence := sequence, kind := w.kind, content := w.snapshot, crc := recordCrc sequence w.kind w.snapshot }

/-- The pending write becomes the write in flight and starts (R160, step 5). -/
def startPending (s : State) : State :=
  match s.journal.pendingWrite with
  | some p => startWrite p.kind p.parkOwed (s.withJournal { s.journal with pendingWrite := none })
  | none => s

/-- A waiting RESTART is released when no write is in flight (R160, step 6). -/
def releaseWaiting (s : State) : State :=
  if s.journal.restartWaiting ∧ s.journal.write.isNone then
    releaseRestart (s.withJournal { s.journal with restartWaiting := false })
  else s

/-- A program passes (R160). -/
def programPassed (s : State) : State :=
  match s.journal.write with
  | some w =>
    match w.phase with
    | .programming k i n =>
      let t := (s.withFlash (s.flash.write (slotNumber k i) (.record (w.record n)))).withJournal
        { s.journal with newest := some { sector := k, sequence := n, kind := w.kind }, writePosition := i + 1,
                         write := none }
      releaseWaiting (startPending (if w.parkOwed then releasePark t else t))
    | .erasing _ => s
  | none => s

/-- A program fails and leaves its slot so (R161). -/
def programFailed (left : SlotOutcome) (s : State) : State :=
  match s.journal.write with
  | some w =>
    match w.phase with
    | .programming k i n =>
      seekTarget w
        ((s.withFlash (s.flash.spoilSlot k i (w.record n) left)).withJournal
          { s.journal with failCounts := s.journal.failCounts.set k (s.journal.failCounts.get k + 1),
                           writePosition := i + 1 })
    | .erasing _ => s
  | none => s

/-! ### RESTART (R167) -/

/-- A RESTART may be released at once (R167). -/
def Journal.releasesRestart (j : Journal) : Bool := j.write.isNone || decide (j.state = .failed)

/-! ### The start-up scan (R165) -/

/-- A VALID record with its slot number. -/
structure Found where
  number : Nat
  stored : JournalRecord
deriving DecidableEq, Repr

/-- The newer of what was found so far and a slot (R165). -/
def newer (best : Option Found) (n : Nat) (x : Slot) : Option Found :=
  match x.valid? with
  | none => best
  | some r =>
    match best with
    | none => some ⟨n, r⟩
    | some b => if b.stored.sequence < r.sequence then some ⟨n, r⟩ else best

/-- The VALID record with the highest sequence (R165). -/
def Flash.newestValid (f : Flash) : Option Found := f.foldl (fun b kx => newer b kx.1 kx.2) none

/-- The adoption of the record the scan found: steps 1 to 4 (R165). -/
def adoptFound (x : Found) (s : State) : State :=
  adopt x.stored.content
    (s.withJournal { s.journal with
      newest := some { sector := x.number / 16, sequence := x.stored.sequence, kind := x.stored.kind },
      activeSector := some (x.number / 16), writePosition := x.number % 16 + 1,
      nextSequence := x.stored.sequence + 1 })

/-- The scan ends: what it found is adopted, and the journal enters READY (R165, steps 1 to 5). -/
def endScan (s : State) : State :=
  let t := match s.flash.newestValid with
    | some x => adoptFound x s
    | none => s
  t.withJournal { t.journal with state := .ready }

/-! ### What a power-on reset cuts (R168) -/

/-- The flash after a power-on reset has cut the operation under way (R168). -/
def State.flashAfterCut (s : State) (cut : List SlotOutcome) : Flash :=
  match s.journal.write with
  | none => s.flash
  | some w =>
    match w.phase with
    | .erasing c => s.flash.spoilSector c cut
    | .programming k i n => s.flash.spoilSlot k i (w.record n) (cut[i]?.getD .untouched)

end Sys2Proof.Machine
end

