-- ==== Sys2Proof/Machine/Sensors.lean ====
section
/-! DEFINITION. The sensor front end and what its deliveries do: samples, ageing, the CHANNEL request (chapter 4); the fog
margin, the fresh measurements and the gas snap of the estimator (R3, R20, R25). -/

namespace Sys2Proof.Machine

/-! ### The estimator's part of a delivery -/

/-- The measured cabin humidity from these values of CTM and CRH (R24). -/
def measuredAh (ctm crh : Int) : Int := sat ctm * crh / 1000

/-- The fog margin from these values of STM, CTM and CRH (R25). -/
def marginOf (stm ctm crh : Int) : Int := sat stm - measuredAh ctm crh

/-- The fog margin is recomputed, with its two lookups, stored and delivered (R25). -/
def recomputeMargin (s : State) : State :=
  let m := marginOf (s.usable .stm) (s.usable .ctm) (s.usable .crh)
  let t := noteLookup .stm (s.usable .stm) (noteLookup .ctm (s.usable .ctm) s)
  deliver .fog m (t.withEst { t.est with fogMargin := m })

/-- The first OGS sample of value v that is accepted while not PARKED sets EGS (R20). -/
def gasSnap (v : Int) (s : State) : State :=
  if s.est.gasSnapArmed ∧ s.isParked = false then
    deliver .egs (v * 16) (s.withEst { s.est with egs := v * 16, gasSnapArmed := false })
  else s

/-! ### Samples (R79 to R81) -/

/-- The consumers of a channel other than the watch unit take an accepted value (R81). FPOS is read where the
position is worked out (R113, R130). -/
def consumeSample (c : Channel) (v : Int) (s : State) : State :=
  match c with
  | .opm => detectorSample .pm v s
  | .ogs => gasSnap v (detectorSample .gas v s)
  | .cpm => s.withEst { s.est with freshCpm := some v }
  | .cco => s.withEst { s.est with freshCco := some v }
  | .crh => recomputeMargin (s.withEst { s.est with freshCrh := some v })
  | .ctm | .stm => recomputeMargin s
  | .orh | .otm | .fpos => s

/-- The record of a channel after an accepted value (R79). -/
def ChannelRecord.accepted (r : ChannelRecord) (v : Int) : ChannelRecord :=
  { r with state := .live, lastValue := v, ageMs := some 0, faultFlag := false, lastQuality := some .good }

/-- A GOOD sample: clamped, accepted, delivered (R79 to R81). -/
def acceptSample (c : Channel) (raw : Int) (s : State) : State :=
  let v := c.clamp raw
  let t := if v = raw then s else occur .inputClamped (some (.channel c)) raw s
  deliver (.channel c) v (consumeSample c v (t.setChannel c ((t.channels.get c).accepted v)))

/-- A sample record reaches its channel (R79). -/
def takeSample (c : Channel) (raw : Int) (q : Quality) (s : State) : State :=
  let r := s.channels.get c
  match q with
  | .good => acceptSample c raw s
  | .warming => s.setChannel c { r with lastQuality := some .warming }
  | .fault => s.setChannel c { r with lastQuality := some .fault, faultFlag := true }

/-! ### Ageing (R82, R83) -/

/-- The consumers of a channel other than the watch unit take its loss (R83). -/
def consumeLoss (c : Channel) (s : State) : State :=
  match c with
  | .opm => detectorLost .pm s
  | .ogs => detectorLost .gas s
  | .crh | .ctm | .stm => recomputeMargin s
  | .cpm | .cco | .orh | .otm | .fpos => s

/-- A channel enters LOST at the age its record holds (R83). -/
def enterLost (c : Channel) (s : State) : State :=
  let t := raise (.sensorLost [c]) (s.setChannel c { s.channels.get c with state := .lost })
  deliver (.channel c) (t.usable c) (consumeLoss c t)

/-- A channel's age reaches its lost time (R83). -/
def lostExpired (c : Channel) (s : State) : State :=
  let r := s.channels.get c
  match r.state with
  | .live | .stale => enterLost c (s.setChannel c { r with ageMs := some (r.lostTime * 1000) })
  | .none | .lost => s

/-- A LIVE channel's age reaches its stale time; with equal times it passes straight to LOST (R82). -/
def staleExpired (c : Channel) (s : State) : State :=
  let r := s.channels.get c
  match r.state with
  | .live =>
    if r.lostTime = r.staleTime then lostExpired c s
    else s.setChannel c { r with state := .stale, ageMs := some (r.staleTime * 1000) }
  | .none | .stale | .lost => s

/-! ### The CHANNEL request (R89 to R91) -/

/-- The state a running age gives under a record's times: LOST at the lost time, STALE at the stale time, else LIVE (R90). -/
def ChannelRecord.stateOfAge (r : ChannelRecord) : ChannelState :=
  let age := r.ageMs.getD 0
  if r.lostTime * 1000 ≤ age then .lost else if r.staleTime * 1000 ≤ age then .stale else .live

/-- A changed time brings the state of a channel whose age is running into agreement with it (R90). -/
def recheckAge (c : Channel) (s : State) : State :=
  let r := s.channels.get c
  match r.state with
  | .live | .stale =>
    (match r.stateOfAge with
     | .lost => enterLost c s
     | x => s.setChannel c { r with state := x })
  | .none | .lost => s

/-- A new substitute of a NONE or LOST channel becomes its usable value (R91). -/
def substituteChanged (c : Channel) (s : State) : State :=
  let t := match c with
    | .crh | .ctm | .stm => recomputeMargin s
    | .opm | .ogs | .cpm | .cco | .orh | .otm | .fpos => s
  deliver (.channel c) (s.usable c) t

/-- A taken CHANNEL request with its clamped fields; the substitute is absent for FPOS (R86, R89 to R91). -/
def storeChannel (c : Channel) (substitute : Option Int) (stale lost : Nat) (s : State) : State :=
  let r := s.channels.get c
  let t := s.setChannel c { r with substitute := substitute, staleTime := stale, lostTime := lost }
  if r.onSubstitute then (if substitute = r.substitute then t else substituteChanged c t)
  else if stale = r.staleTime ∧ lost = r.lostTime then t
  else recheckAge c t

end Sys2Proof.Machine
end

