-- ==== Sys2Proof/Machine/Vehicle.lean ====
section
/-! DEFINITION. The drive state: door contacts, DRIVE age, vehicle states, PARK and the leaving of PARKED (chapter 5), and
the estimator's part of the wake (R27). -/

namespace Sys2Proof.Machine

/-! ### Vehicle states (R99 to R101) -/

/-- The vehicle state takes this value. -/
def setVehicle (v : VehicleState) (s : State) : State := s.withDrive { s.drive with vehicle := v }

/-- An entry to MOVING; with the stop flag set the stop ends (R101). -/
def enterMoving (s : State) : State :=
  let t := s.withDrive { s.drive with vehicle := .moving, stopFlag := false }
  if s.drive.stopFlag then watchStopEnd t else t

/-- An entry to AT-STOP; with the stop flag clear a stop starts (R100). -/
def enterAtStop (s : State) : State :=
  let t := s.withDrive { s.drive with vehicle := .atStop, stopFlag := true }
  if s.drive.stopFlag then t else tallyStop t

/-- The entry a standing truck makes: AT-STOP with a door open, else HALTED (R99, R103). -/
def enterStanding (s : State) : State := if s.drive.anyOpen then enterAtStop s else setVehicle .halted s

/-- A reported speed moves the vehicle state (R99). -/
def vehicleSpeed (s : State) : State :=
  match s.drive.vehicle with
  | .parked => s
  | .moving => if 5 < s.drive.reportedSpeed then s else enterStanding s
  | .halted | .atStop => if 5 < s.drive.reportedSpeed then enterMoving s else s

/-- The reported speed was `old`; where it has changed, the new one is delivered (R97). The vehicle state takes it first, so that a
stop end (R101) closes the STOP slots before the watch unit evaluates SPEED; R97 and R177 leave that order open, and it is the
model's choice (log 31). -/
def speedDelivered (old : Nat) (s : State) : State :=
  if s.drive.reportedSpeed = old then s
  else deliver .speed s.drive.reportedSpeed (vehicleSpeed s)

/-- A door-open event moves the vehicle state (R100). -/
def vehicleDoorOpened (s : State) : State :=
  match s.drive.vehicle with
  | .halted => enterAtStop s
  | .moving | .atStop | .parked => s

/-! ### Doors (R94, R95) -/

/-- The door state that the accepted level and the polarity give (R93). -/
def DoorRecord.opens (d : DoorRecord) : Bool :=
  match d.accepted with
  | none => false
  | some closed =>
    match d.polarity with
    | .normal => closed
    | .inverted => !closed

/-- The door state is worked out again; a change is delivered to the vehicle state and the purge machine (R95). -/
def reworkDoor (which : Door) (s : State) : State :=
  let d := s.drive.door which
  if d.opens = d.isOpen then s
  else
    let t := s.withDrive (s.drive.setDoor which { d with isOpen := d.opens })
    if d.opens then purgeDoorOpened (vehicleDoorOpened t) else purgeDoorClosed t

/-- A record after its contact takes this level (R94). -/
def DoorRecord.contact (d : DoorRecord) (closed : Bool) : DoorRecord :=
  { d with contactClosed := closed,
           debounce := if d.accepted = some closed then none else some { closed := closed, ms := 0 } }

/-- The contact of a door takes a level (R94). -/
def contactChanged (which : Door) (closed : Bool) (s : State) : State :=
  let d := s.drive.door which
  if d.contactClosed = closed then s else s.withDrive (s.drive.setDoor which (d.contact closed))

/-- The level of a running debounce has stood for 50 ms and is accepted (R94, R95). -/
def debounceAccepted (which : Door) (s : State) : State :=
  let d := s.drive.door which
  match d.debounce with
  | none => s
  | some b => reworkDoor which (s.withDrive (s.drive.setDoor which { d with accepted := some b.closed, debounce := none }))

/-! ### The DRIVE age (R97) -/

/-- The DRIVE age reaches 5 s (R97). -/
def driveStale (s : State) : State :=
  match s.drive.freshness with
  | .fresh => s.withDrive { s.drive with freshness := .stale, ageMs := 5000 }
  | .none | .stale | .silent => s

/-- The DRIVE age reaches 30 s (R97). -/
def driveSilent (s : State) : State :=
  match s.drive.freshness with
  | .fresh | .stale =>
    speedDelivered s.drive.reportedSpeed (s.withDrive { s.drive with freshness := .silent, ageMs := 30000 })
  | .none | .silent => s

/-! ### PARK and the leaving of PARKED (R102, R103) -/

/-- EST, DEC and CKPT stopped (R102, R106). -/
def stopPaced (s : State) : State := s.withTimers { s.timers with est := none, dec := none, ckpt := none }

/-- EST, DEC and CKPT loaded with their reloads (R103, R107, R108, R110). -/
def loadPaced (s : State) : State :=
  s.withTimers { s.timers with est := some 1000, dec := some (s.policy.limits.decisionPeriod * 1000),
                               ckpt := some s.journal.checkpointInterval }

/-- The wake reaches the estimator (R27). -/
def estimatorWake (s : State) : State :=
  s.withEst { s.est with snapPm := true, snapCo2 := true, snapAh := true, divPm := 0, divCo2 := 0, divAh := 0,
                         pmAbove := 0 }

/-- The vehicle state on leaving PARKED: HALTED or AT-STOP, then MOVING above 5 km/h (R103, step 1). -/
def leaveStanding (s : State) : State :=
  let t := enterStanding s
  if 5 < t.drive.reportedSpeed then enterMoving t else t

/-- The leaving of PARKED (R103). -/
def leaveParked (s : State) : State := policyWake (estimatorWake (loadPaced (leaveStanding s)))

/-- PARK, in any state but PARKED, the request holding the head: the trigger may release it (R102, R196). -/
def takePark (s : State) : State :=
  trigger .park true (policyPark (stopPaced (setVehicle .parked (s.withLink { s.link with holding := true }))))

/-- A taken DRIVE with its clamped speed (R96). -/
def takeDrive (speed : Nat) (engine : Engine) (s : State) : State :=
  let old := s.drive.reportedSpeed
  let t := s.withDrive { s.drive with lastSpeed := speed, engine := some engine, ageMs := 0, freshness := .fresh }
  speedDelivered old (if s.isParked && decide (engine = .run) then leaveParked t else t)

end Sys2Proof.Machine
end

