-- ==== Sys2Proof/Machine/Update.lean ====
section
/-! DEFINITION. The estimator update: its twelve stages and its completion (R5 to R24). -/

namespace Sys2Proof.Machine

/-! ### The stages of one quantity (R9 to R16) -/

/-- Stage 4, the mixed inlet (R9). -/
def mixed (x outside e : Int) : Int := (x * outside + (1000 - x) * e) / 1000

/-- Stage 5, the supply after a filter of this efficiency (R10). -/
def supply (m eta : Int) : Int := m * (1000 - eta) / 1000

/-- An exchange of coefficient c, in 1/65536, toward `other` (R11, R12, R13). -/
def exchanged (c other e : Int) : Int := nearest (c * (other - e)) 65536

/-- What the update reads for every quantity: flap position, exchange coefficient, door sum, leak coefficient. -/
structure Coefficients where
  x : Int
  k : Int
  door : Int
  leak : Int
deriving DecidableEq, Repr

/-- Stages 4 to 10 of one quantity: its sum (R9 to R15). -/
def stageSum (c : Coefficients) (outside eta source e : Int) : Int :=
  e + exchanged c.k (supply (mixed c.x outside e) eta) e + exchanged c.door outside e + exchanged c.leak outside e
    + source

/-- Stage 11, the correction toward a measurement; a set snap flag gives weight 256 (R16). -/
def corrected (sum : Int) (measurement : Option Int) (snap : Bool) (weight : Nat) : Int :=
  match measurement with
  | none => sum
  | some c => sum + nearest ((c - sum) * (if snap then 256 else weight)) 256

/-- A snap flag after stage 11: cleared by a correction (R16). -/
def snapAfter (measurement : Option Int) (snap : Bool) : Bool := snap && measurement.isNone

/-- The update counts for divergence: it corrected with the snap flag clear (R21). -/
def compared (measurement : Option Int) (snap : Bool) : Bool := measurement.isSome && !snap

/-- The difference of the measurement to the sum; 0 without a measurement. -/
def difference (sum : Int) (measurement : Option Int) : Int :=
  match measurement with
  | none => 0
  | some c => ((c - sum).natAbs : Int)

/-- The divergence count as an update counts it, before a restart at 30 (R21). -/
def counted (sum : Int) (measurement : Option Int) (snap : Bool) (threshold : Int) (count : Nat) : Nat :=
  if compared measurement snap then (if threshold < difference sum measurement then count + 1 else 0) else count

/-- A count restarts at 0 when it reaches 30 (R21). -/
def restarted (count : Nat) : Nat := if count = 30 then 0 else count

/-- The PM above count as an update counts it, before a restart (R22). -/
def countedAbove (sum : Int) (measurement : Option Int) (snap : Bool) (threshold : Int) (above : Nat) : Nat :=
  match measurement with
  | none => above
  | some c =>
    if snap then above
    else if threshold < ((c - sum).natAbs : Int) then (if sum < c then above + 1 else above) else 0

/-! ### The inputs (R5) -/

/-- D, the door exchanges of the OPEN doors (R12). -/
def State.doorExchange (s : State) : Int :=
  (if s.drive.drv.isOpen then (s.est.cabin.drvExchange : Int) else 0)
    + (if s.drive.krb.isOpen then (s.est.cabin.krbExchange : Int) else 0)

/-- L, the leak coefficient at the reported speed (R13). -/
def leakCoefficient (speed : Nat) : Int := 20 + 10 * ((min speed 130 / 10 : Nat) : Int)

/-- The coefficients of an update with flow q (R7, R9, R12, R13). -/
def State.coefficients (s : State) (q : Int) : Coefficients :=
  { x := s.flapPosition, k := exchange q s.est.cabin.volume, door := s.doorExchange,
    leak := leakCoefficient s.drive.reportedSpeed }

/-- The four sums of stage 10 (R15). -/
structure Sums where
  pm : Int
  gas : Int
  co2 : Int
  ah : Int
deriving DecidableEq, Repr

/-- Stages 1 to 10 (R6 to R15). -/
def State.sums (s : State) : Sums :=
  let c := s.coefficients s.flow
  { pm := stageSum c (s.usable .opm * 16) s.filter.etaPm 0 s.est.epm,
    gas := stageSum c (s.usable .ogs * 16) s.filter.etaGas 0 s.est.egs,
    co2 := stageSum c (s.est.cabin.co2Reference * 16) 0 (sourceCo2 s.est.cabin) s.est.eco,
    ah := stageSum c s.outsideAh 0 (sourceAh s.est.cabin) s.est.eah }

/-- The measurements of stage 11, where they exist (R16). -/
structure Measurements where
  pm : Option Int
  co2 : Option Int
  ah : Option Int
deriving DecidableEq, Repr

/-- The measurements an update corrects from (R16, R24). -/
def State.measurements (s : State) : Measurements :=
  { pm := s.est.freshCpm.map (· * 16),
    co2 := s.est.freshCco.map (· * 16),
    ah := if s.channels.ctm.onSubstitute then none
      else s.est.freshCrh.map fun crh => measuredAh s.channels.ctm.lastValue crh }

/-- The estimates as stage 11 leaves them, before the clamp of stage 12. -/
def State.unclamped (s : State) : Sums :=
  let m := s.measurements
  let x := s.sums
  let w := s.est.cabin.weight
  { pm := corrected x.pm m.pm s.est.snapPm w, gas := x.gas, co2 := corrected x.co2 m.co2 s.est.snapCo2 w,
    ah := corrected x.ah m.ah s.est.snapAh w }

/-- The counts an update gives before their restart: PM, CO2, AH, PM above (R21, R22). -/
structure Counts where
  pm : Nat
  co2 : Nat
  ah : Nat
  above : Nat
deriving DecidableEq, Repr

/-- R21, R22. -/
def State.counts (s : State) : Counts :=
  let m := s.measurements
  let x := s.sums
  { pm := counted x.pm m.pm s.est.snapPm 480 s.est.divPm,
    co2 := counted x.co2 m.co2 s.est.snapCo2 4800 s.est.divCo2,
    ah := counted x.ah m.ah s.est.snapAh 3000 s.est.divAh,
    above := countedAbove x.pm m.pm s.est.snapPm 480 s.est.pmAbove }

/-- The estimator as the update publishes it (R9, R16, R17, R19, R21, R22). -/
def State.updated (s : State) : Estimator :=
  let e := s.est
  let m := s.measurements
  let u := s.unclamped
  let n := s.counts
  let x := s.flapPosition
  { e with
    epm := clampInt 0 16000 u.pm, egs := clampInt 0 32000 u.gas, eco := clampInt 4800 80000 u.co2,
    eah := clampInt 0 65500 u.ah, freshCpm := none, freshCco := none, freshCrh := none,
    snapPm := snapAfter m.pm e.snapPm, snapCo2 := snapAfter m.co2 e.snapCo2, snapAh := snapAfter m.ah e.snapAh,
    divPm := restarted n.pm, divCo2 := restarted n.co2, divAh := restarted n.ah,
    pmAbove := if n.pm = 30 then 0 else n.above,
    mixedPm := mixed x (s.usable .opm * 16) e.epm, mixedGas := mixed x (s.usable .ogs * 16) e.egs,
    lastFlow := s.flow }

/-! ### Conditions, in the order of R18 -/

/-- ZERO-FLOW, when the blower is in FAULT (R6). -/
def noteZeroFlow (s : State) : State :=
  if s.blower.fault then occur .zeroFlow none s.blower.level s else s

/-- SUBSTITUTED for one outside channel, when its usable value is a substitute (R8). -/
def noteSubstituted (c : Channel) (s : State) : State :=
  if (s.channels.get c).onSubstitute then occur .substituted (some (.channel c)) (s.usable c) s else s

/-- TABLE-CLAMPED for CTM, when the measured cabin humidity is formed (R18, R24). -/
def noteCtmLookup (s : State) : State :=
  if s.measurements.ah.isSome then noteLookup .ctm s.channels.ctm.lastValue s else s

/-- DIVERGED for one estimate, when its count has reached 30 (R21). -/
def noteDiverged (q : Quantity) (count : Nat) (diff : Int) (s : State) : State :=
  if count = 30 then occur .diverged (some q) diff s else s

/-- ESTIMATE-SATURATED for one estimate outside its range (R17). -/
def noteSaturated (q : Quantity) (lo hi v : Int) (s : State) : State :=
  if v < lo ∨ hi < v then occur .estimateSaturated (some q) v s else s

/-- SUSPECT, when the PM count and the above count stand at 30 (R22). -/
def noteSuspect (n : Counts) (s : State) : State := if n.pm = 30 ∧ n.above = 30 then setSuspect s else s

/-- Conditions 1 to 4 of R18. -/
def noteInputs (s : State) : State :=
  noteCtmLookup (noteLookup .otm (s.usable .otm)
    (noteSubstituted .otm (noteSubstituted .orh (noteSubstituted .ogs (noteSubstituted .opm (noteZeroFlow s))))))

/-- Condition 5 of R18, with SUSPECT in the event of the PM occurrence (R22); `s` is the state the update began from. -/
def noteDivergences (s t : State) : State :=
  let n := s.counts
  let m := s.measurements
  let x := s.sums
  noteDiverged .eah n.ah (difference x.ah m.ah)
    (noteDiverged .eco n.co2 (difference x.co2 m.co2)
      (noteSuspect n (noteDiverged .epm n.pm (difference x.pm m.pm) t)))

/-- Condition 6 of R18; `s` is the state the update began from. -/
def noteSaturations (s t : State) : State :=
  let u := s.unclamped
  noteSaturated .eah 0 65500 u.ah
    (noteSaturated .eco 4800 80000 u.co2 (noteSaturated .egs 0 32000 u.gas (noteSaturated .epm 0 16000 u.pm t)))

/-! ### The update (R5, R19) -/

/-- The twelve stages: the conditions in order, and the published values. -/
def runStages (s : State) : State := (noteSaturations s (noteDivergences s (noteInputs s))).withEst s.updated

/-- The watch unit evaluates the slots on the four estimates (R19). -/
def deliverEstimates (s : State) : State :=
  deliver .eah s.est.eah (deliver .eco s.est.eco (deliver .egs s.est.egs (deliver .epm s.est.epm s)))

/-- CKPT expires: it loads itself again, and the journal takes a CHECKPOINT trigger (R110). -/
def ckptFires (s : State) : State :=
  trigger .checkpoint false (s.withTimers { s.timers with ckpt := some s.journal.checkpointInterval })

/-- CKPT counts one update (R110). -/
def ckptCounts (s : State) : State :=
  match s.timers.ckpt with
  | none => s
  | some n => if n ≤ 1 then ckptFires s else s.withTimers { s.timers with ckpt := some (n - 1) }

/-- The completion of an update reaches the filter account, the tally, the policy, the purge machine and the watch unit, and
CKPT counts it (R19, R110). -/
def completeUpdate (s : State) : State :=
  ckptCounts (deliverEstimates (purgeCleaning (overrideCheck (tallyUpdate (captureLoad s)))))

/-- An EST expiry: EST loads itself again and one update runs; a STOPPED EST has no expiry (R5, R106, R107). -/
def estExpired (s : State) : State :=
  if s.timers.est.isNone then s
  else completeUpdate (runStages (s.withTimers { s.timers with est := some 1000 }))

/-- A DEC expiry: DEC loads itself again and a full decision runs; a STOPPED DEC has no expiry (R106, R108). -/
def decExpired (s : State) : State :=
  if s.timers.dec.isNone then s
  else fullDecision (s.withTimers { s.timers with dec := some (s.policy.limits.decisionPeriod * 1000) })

/-- A CKPT expiry; a STOPPED CKPT has none (R106, R110). -/
def ckptExpired (s : State) : State := if s.timers.ckpt.isNone then s else ckptFires s

end Sys2Proof.Machine
end

