-- ==== Sys2Proof/Machine/Requests.lean ====
section
/-! DEFINITION. What serving a request does: the effect its owner gives it and the reply built in the same event
(R195, R199), request by request. A refused request changes nothing but the link port's reply (R198). -/

namespace Sys2Proof.Machine

/-! ### IDENT (R164, R200) -/

/-- IDENT: an interval field is clamped to 60..3600 and stored; nothing else changes (R164, R200). -/
def serveIdent (interval : Option Word16) (s : State) : State :=
  match interval with
  | none => sendReply 0x01#8 .done (identBody s) s
  | some x =>
    sendReply 0x01#8 (doneOr (clamps 60 3600 x)) (identBody s)
      (s.withJournal { s.journal with checkpointInterval := field 60 3600 x })

/-! ### CABIN (R4, R39, R95) -/

/-- The six estimator settings, clamped (R4). -/
def cabinSettings (f : CabinFields) : CabinSettings :=
  { volume := field 2000 6000 f.volume, occupants := field 0 3 f.occupants,
    co2Reference := field 350 600 f.co2Reference, drvExchange := field 0 13107 f.drvExchange,
    krbExchange := field 0 13107 f.krbExchange, weight := field 0 256 f.weight }

/-- A field of CABIN is clamped (R4). -/
def cabinClamped (f : CabinFields) : Bool :=
  clamps 2000 6000 f.volume || clamps 0 3 f.occupants || clamps 350 600 f.co2Reference
    || clamps 0 13107 f.drvExchange || clamps 0 13107 f.krbExchange || clamps 0 256 f.weight

/-- The settings and both polarities stored together (R4, R93). -/
def storeCabin (c : CabinSettings) (drv krb : Polarity) (s : State) : State :=
  (s.withEst { s.est with cabin := c }).withDrive
    { s.drive with drv := { s.drive.drv with polarity := drv }, krb := { s.drive.krb with polarity := krb } }

/-- What a taken CABIN does after storing: each door worked out again and a full decision, in the order that a free value
picks, since no rule orders them (R4, R95, log 5). -/
def cabinEffects (order : Nat) (s : State) : State :=
  match order % 6 with
  | 0 => fullDecision (reworkDoor .krb (reworkDoor .drv s))
  | 1 => fullDecision (reworkDoor .drv (reworkDoor .krb s))
  | 2 => reworkDoor .krb (fullDecision (reworkDoor .drv s))
  | 3 => reworkDoor .drv (fullDecision (reworkDoor .krb s))
  | 4 => reworkDoor .krb (reworkDoor .drv (fullDecision s))
  | _ => reworkDoor .drv (reworkDoor .krb (fullDecision s))

/-- A taken CABIN: one free choice is drawn for its order (R4, log 5). -/
def takeCabin (c : CabinSettings) (drv krb : Polarity) (s : State) : State :=
  cabinEffects (Config.freeChoice s.freeCount) ((storeCabin c drv krb s).withFreeCount (s.freeCount + 1))

/-- CABIN; an unknown polarity refuses it whole (R4, R93). -/
def serveCabin (f : CabinFields) (s : State) : State :=
  match Polarity.ofCode f.drvPolarity.toNat, Polarity.ofCode f.krbPolarity.toNat with
  | some drv, some krb => sendReply 0x02#8 (doneOr (cabinClamped f)) [] (takeCabin (cabinSettings f) drv krb s)
  | _, _ => sendReply 0x02#8 .refusedValue [] s

/-! ### LIMITS (R34, R108) -/

/-- The eleven limits, clamped (R34). -/
def limitsOf (f : LimitsFields) : Limits :=
  { co2Limit := field 600 2000 f.co2Limit, co2Hard := field 800 5000 f.co2Hard, fogMin := field 0 10000 f.fogMin,
    cleanPm := field 0 200 f.cleanPm, cleanGas := field 0 500 f.cleanGas,
    recircDwell := field 60 1800 f.recircDwell, decisionPeriod := field 5 60 f.decisionPeriod,
    changeDwell := field 0 300 f.changeDwell, holdMax := field 30 900 f.holdMax,
    releaseDelay := field 0 120 f.releaseDelay, purgeTime := field 0 300 f.purgeTime }

/-- A field of LIMITS is clamped (R34). -/
def limitsClamped (f : LimitsFields) : Bool :=
  clamps 600 2000 f.co2Limit || clamps 800 5000 f.co2Hard || clamps 0 10000 f.fogMin || clamps 0 200 f.cleanPm
    || clamps 0 500 f.cleanGas || clamps 60 1800 f.recircDwell || clamps 5 60 f.decisionPeriod
    || clamps 0 300 f.changeDwell || clamps 30 900 f.holdMax || clamps 0 120 f.releaseDelay
    || clamps 0 300 f.purgeTime

/-- The limits stored, and DEC loaded with the new period if it is RUNNING (R34, R108). -/
def storeLimits (l : Limits) (s : State) : State :=
  let t := s.withPolicy { s.policy with limits := l }
  if s.timers.dec.isSome then t.withTimers { t.timers with dec := some (l.decisionPeriod * 1000) } else t

/-- A taken LIMITS (R34). -/
def takeLimits (l : Limits) (s : State) : State := fullDecision (storeLimits l s)

/-- LIMITS; a co2_limit above co2_hard after clamping refuses it (R34). -/
def serveLimits (f : LimitsFields) (s : State) : State :=
  let l := limitsOf f
  if l.co2Hard < l.co2Limit then sendReply 0x03#8 .refusedValue [] s
  else sendReply 0x03#8 (doneOr (limitsClamped f)) [] (takeLimits l s)

/-! ### MODE and COMFORT (R31, R35) -/

/-- A taken MODE: the mode already held changes nothing (R31). -/
def takeMode (m : PolicyMode) (s : State) : State :=
  if m = s.policy.mode then s else fullDecision (recomputeDemand (s.withPolicy { s.policy with mode := m }))

/-- MODE (R31). -/
def serveMode (m : Byte) (s : State) : State :=
  match PolicyMode.ofCode m.toNat with
  | some mode => sendReply 0x04#8 .done [] (takeMode mode s)
  | none => sendReply 0x04#8 .refusedValue [] s

/-- A taken COMFORT (R35). -/
def takeComfort (level : Nat) (s : State) : State := recomputeDemand (s.withPolicy { s.policy with comfort := level })

/-- COMFORT (R35). -/
def serveComfort (level : Byte) (s : State) : State :=
  sendReply 0x05#8 (doneOr (clamps 0 7 level)) [] (takeComfort (field 0 7 level) s)

/-! ### DRIVE (R96) -/

/-- DRIVE (R96). -/
def serveDrive (speed : Word16) (engine : Byte) (s : State) : State :=
  match Engine.ofCode engine.toNat with
  | some e => sendReply 0x06#8 (doneOr (clamps 0 250 speed)) [] (takeDrive (field 0 250 speed) e s)
  | none => sendReply 0x06#8 .refusedValue [] s

/-! ### CHANNEL (R86, R89) -/

/-- The substitute a CHANNEL request stores: clamped to the channel's range; FPOS has none (R86, R89). -/
def substituteOf (c : Channel) (x : Word16) : Option Int :=
  match c with
  | .fpos => none
  | .opm | .ogs | .cpm | .cco | .crh | .ctm | .orh | .otm | .stm => some (c.clamp x.toInt)

/-- The substitute field is clamped; that of FPOS decides nothing (R86, R89). -/
def substituteClamps (c : Channel) (x : Word16) : Bool :=
  match substituteOf c x with
  | none => false
  | some v => decide (v ≠ x.toInt)

/-- CHANNEL: substitute, stale time to 1..60, lost time to the clamped stale time..600 (R89). -/
def serveChannel (f : ChannelFields) (s : State) : State :=
  match Channel.ofCode f.code.toNat with
  | some c =>
    let stale := field 1 60 f.staleTime
    sendReply 0x07#8
      (doneOr (substituteClamps c f.substitute || clamps 1 60 f.staleTime || clamps stale 600 f.lostTime)) []
      (storeChannel c (substituteOf c f.substitute) stale (field stale 600 f.lostTime) s)
  | none => sendReply 0x07#8 .refusedValue [] s

/-! ### DETECTOR (R58) -/

/-- The four settings of a detector, clamped (R58). -/
def detectorSettings (f : DetectorFields) : DetectorSettings :=
  { jump := field 1 500 f.jump, level := field 1 2000 f.level, releaseCount := field 1 30 f.releaseCount,
    maxDuration := field 10 900 f.maxDuration }

/-- A field of DETECTOR is clamped (R58). -/
def detectorClamped (f : DetectorFields) : Bool :=
  clamps 1 500 f.jump || clamps 1 2000 f.level || clamps 1 30 f.releaseCount || clamps 10 900 f.maxDuration

/-- A taken DETECTOR stores the settings of the named detector (R58). -/
def storeDetector (d : DetectorId) (x : DetectorSettings) (s : State) : State :=
  s.withTracker (s.tracker.setDetector d { s.tracker.detector d with settings := x })

/-- DETECTOR (R58). -/
def serveDetector (f : DetectorFields) (s : State) : State :=
  match DetectorId.ofCode f.detector.toNat with
  | some d => sendReply 0x08#8 (doneOr (detectorClamped f)) [] (storeDetector d (detectorSettings f) s)
  | none => sendReply 0x08#8 .refusedValue [] s

/-! ### ACTUATOR and FLAP RECOVER (R114, R126) -/

/-- ACTUATOR: an unknown mode is judged before the flap state (R114). -/
def serveActuator (f : ActuatorFields) (s : State) : State :=
  match DriveMode.ofCode f.mode.toNat with
  | none => sendReply 0x09#8 .refusedValue [] s
  | some m =>
    if s.flap.state = .moving ∨ s.flap.state = .homing then sendReply 0x09#8 .refusedState [] s
    else
      sendReply 0x09#8 (doneOr (clamps 500 10000 f.travelTime || clamps 1000 20000 f.moveTimeout)) []
        (storeActuator m (field 500 10000 f.travelTime) (field 1000 20000 f.moveTimeout) s)

/-- FLAP RECOVER (R126). -/
def serveFlapRecover (s : State) : State :=
  if s.flap.state = .fault ∧ s.flap.inhibit = false then sendReply 0x0A#8 .done [] (startHoming s)
  else sendReply 0x0A#8 .refusedState [] s

/-! ### FILTER FIT and FILTER READ (R143, R145) -/

/-- The record that a taken FILTER FIT leaves (R143). -/
def fittedRecord (kind : FilterKind) (f : FilterFitFields) : FilterRecord :=
  let fresh : FilterRecord := { FilterRecord.afterReset with kind := kind, fitDay := f.fitDay.toNat }
  match kind with
  | .none => fresh
  | .particle =>
    { fresh with pmCap := field 1000 100000 f.pmCap, etaPmBase := field 500 999 f.etaPmBase, gasCap := none,
                 etaGasBase := none, state := .inService }
  | .combined =>
    { fresh with pmCap := field 1000 100000 f.pmCap, etaPmBase := field 500 999 f.etaPmBase,
                 gasCap := some (field 1000 200000 f.gasCap), etaGasBase := some (field 0 999 f.etaGasBase),
                 state := .inService }

/-- A used field of FILTER FIT is clamped (R143). -/
def fitClamped (kind : FilterKind) (f : FilterFitFields) : Bool :=
  match kind with
  | .none => false
  | .particle => clamps 1000 100000 f.pmCap || clamps 500 999 f.etaPmBase
  | .combined =>
    clamps 1000 100000 f.pmCap || clamps 500 999 f.etaPmBase || clamps 1000 200000 f.gasCap
      || clamps 0 999 f.etaGasBase

/-- FILTER FIT: the record is replaced, and the journal is asked for a FIT write (R143). -/
def serveFilterFit (f : FilterFitFields) (s : State) : State :=
  match FilterKind.ofCode f.kind.toNat with
  | some kind =>
    sendReply 0x0B#8 (doneOr (fitClamped kind f)) [] (trigger .fit false (s.withFilter (fittedRecord kind f)))
  | none => sendReply 0x0B#8 .refusedValue [] s

/-- FILTER READ (R145). -/
def serveFilterRead (s : State) : State := sendReply 0x0C#8 .done (filterBody s) s

/-! ### Watch slots (R178 to R180) -/

/-- The slot that WATCH SET writes (R178); an unknown enumeration value gives none. -/
def watchSlotOf (f : WatchSetFields) : Option WatchSlot :=
  match Quantity.ofCode f.quantity.toNat, WatchKind.ofCode f.kind.toNat, WatchScope.ofCode f.scope.toNat with
  | some q, some k, some x =>
    some { quantity := q, kind := k, level := f.level.toInt, hysteresis := f.hysteresis.toNat, scope := x,
           armed := false, firstHit := none }
  | _, _, _ => none

/-- WATCH SET (R178). -/
def serveWatchSet (f : WatchSetFields) (s : State) : State :=
  match SlotNumber.ofCode f.slot.toNat, watchSlotOf f with
  | some n, some w => sendReply 0x0D#8 .done [] (writeSlot n w s)
  | _, _ => sendReply 0x0D#8 .refusedValue [] s

/-- WATCH READ (R180). -/
def serveWatchRead (s : State) : State := sendReply 0x0E#8 .done (watchBody s) s

/-- The slots of a set are cleared in slot order (R179). -/
def clearSlots (l : List SlotNumber) (s : State) : State := l.foldl (fun t n => clearSlot n t) s

/-- WATCH CLEAR; bits 4 to 7 name no slot (R179, R199). -/
def serveWatchClear (slots : Byte) (s : State) : State :=
  if 16 ≤ slots.toNat then sendReply 0x0F#8 .refusedValue [] s
  else sendReply 0x0F#8 .done [] (clearSlots (slotsOf slots) s)

/-! ### Notices and conditions (R183, R185, R188) -/

/-- The pending notice a fetch chooses: of highest priority, among the unmasked or among all (R185). -/
def Notices.chosen (u : Notices) (includeMasked : Bool) : Option PendingNotice :=
  u.pending.find? fun p => includeMasked || !decide (p.notice.kind ∈ u.masked)

/-- The notice unit once a kind has been fetched (R185). -/
def Notices.fetched (u : Notices) (k : NoticeKind) : Notices :=
  u.update u.masked (u.pending.filter fun p => decide (p.notice.kind ≠ k))

/-- A fetch with its flag known (R185). -/
def fetchNotice (includeMasked : Bool) (s : State) : State :=
  match s.notices.chosen includeMasked with
  | some p => sendReply 0x10#8 .done (noticeBody p) (s.withNotices (s.notices.fetched p.notice.kind))
  | none => sendReply 0x10#8 .empty [] s

/-- NOTICE FETCH: the flag is clear (0) or set (1) (R185). -/
def serveNoticeFetch (includeMasked : Byte) (s : State) : State :=
  if includeMasked.toNat ≤ 1 then fetchNotice (decide (includeMasked.toNat = 1)) s
  else sendReply 0x10#8 .refusedValue [] s

/-- NOTICE MASK; bits 13 to 15 name no kind (R183, R199). -/
def serveNoticeMask (kinds : Word16) (s : State) : State :=
  if 8192 ≤ kinds.toNat then sendReply 0x11#8 .refusedValue [] s
  else sendReply 0x11#8 .done [] (s.withNotices (s.notices.update (noticeKindsOf kinds) s.notices.pending))

/-- The mask set of CONDITIONS names no seventh kind (R188, R199). -/
def conditionMaskKnown (masks : Option Byte) : Bool :=
  match masks with
  | none => true
  | some m => decide (m.toNat < 64)

/-- Step 1 of CONDITIONS (R188). -/
def maskConditions (masks : Option Byte) (s : State) : State :=
  match masks with
  | none => s
  | some m => s.withNotices { s.notices with conditionMasked := conditionKindsOf m }

/-- Step 3 of CONDITIONS (R188). -/
def clearConditions (clear : Bool) (s : State) : State :=
  if clear then s.withNotices { s.notices with conditionFlags := [] } else s

/-- CONDITIONS: masks, then the reply, then the clear (R188). The clear option is KEEP (0) or CLEAR (1). -/
def serveConditions (clear : Byte) (masks : Option Byte) (s : State) : State :=
  if clear.toNat ≤ 1 ∧ conditionMaskKnown masks = true then
    let t := maskConditions masks s
    sendReply 0x12#8 .done (conditionsBody t) (clearConditions (decide (clear.toNat = 1)) t)
  else sendReply 0x12#8 .refusedValue [] s

/-! ### Reads (R71, R92, R201) -/

/-- STATE (R201). -/
def serveState (s : State) : State := sendReply 0x13#8 .done (stateBody s) s

/-- CHANNELS (R92, R202). -/
def serveChannels (s : State) : State := sendReply 0x14#8 .done (channelsBody s) s

/-- EPISODES; with no qualifying record, EMPTY with the more flag clear (R71, R199). -/
def serveEpisodes (fromNumber : Word16) (s : State) : State :=
  let found := s.tracker.qualifying fromNumber.toNat
  sendReply 0x15#8 (if found.isEmpty then .empty else .done) (episodesBody found) s

/-! ### SHIFT (R149) -/

/-- SHIFT START (R149). -/
def shiftStart (s : State) : State :=
  if s.tally.active then sendReply 0x16#8 .refusedState [] s
  else
    let t : Tally := { Tally.zero with active := true }
    sendReply 0x16#8 .done (shiftBody t) (s.withTally t)

/-- SHIFT END: the reply holds the tally as it stood in that event, its active flag cleared (R149). -/
def shiftEnd (s : State) : State :=
  if s.tally.active then
    let t := { s.tally with active := false }
    sendReply 0x16#8 .done (shiftBody t) (s.withTally t)
  else sendReply 0x16#8 .refusedState [] s

/-- SHIFT READ (R149). -/
def shiftRead (s : State) : State := sendReply 0x16#8 .done (shiftBody s.tally) s

/-- SHIFT by its action: START, END, READ (R149). -/
def serveShift (action : Byte) (s : State) : State :=
  match action.toNat with
  | 0 => shiftStart s
  | 1 => shiftEnd s
  | 2 => shiftRead s
  | _ => sendReply 0x16#8 .refusedValue [] s

/-! ### PARK, WAKE and RESTART (R102, R103, R167, R196, R197) -/

/-- PARK: answered at once when PARKED already, else it holds the head until the journal releases it (R102, R196). -/
def servePark (s : State) : State := if s.isParked then sendReply 0x17#8 .done [] s else takePark s

/-- WAKE (R103). -/
def serveWake (s : State) : State :=
  if s.isParked then sendReply 0x18#8 .done [] (leaveParked s) else sendReply 0x18#8 .refusedState [] s

/-- RESTART: released at once, or held until the journal releases it (R167, R197). -/
def serveRestart (s : State) : State :=
  if s.journal.releasesRestart then releaseRestart s
  else (s.withLink { s.link with holding := true }).withJournal { s.journal with restartWaiting := true }

/-! ### Service (R199) -/

/-- What serving a request does. An unknown KIND and a wrong LEN are refused by the link port itself (R199). -/
def serveRequest (r : Request) (s : State) : State :=
  match r with
  | .unknown k => sendReply k .refusedUnknown [] s
  | .badLength k => sendReply k .refusedLength [] s
  | .ident x => serveIdent x s
  | .cabin f => serveCabin f s
  | .limits f => serveLimits f s
  | .mode m => serveMode m s
  | .comfort c => serveComfort c s
  | .drive v e => serveDrive v e s
  | .channel f => serveChannel f s
  | .detector f => serveDetector f s
  | .actuator f => serveActuator f s
  | .flapRecover => serveFlapRecover s
  | .filterFit f => serveFilterFit f s
  | .filterRead => serveFilterRead s
  | .watchSet f => serveWatchSet f s
  | .watchRead => serveWatchRead s
  | .watchClear n => serveWatchClear n s
  | .noticeFetch f => serveNoticeFetch f s
  | .noticeMask k => serveNoticeMask k s
  | .conditions c m => serveConditions c m s
  | .stateRead => serveState s
  | .channels => serveChannels s
  | .episodes g => serveEpisodes g s
  | .shift a => serveShift a s
  | .park => servePark s
  | .wake => serveWake s
  | .restart => serveRestart s

end Sys2Proof.Machine
end

