-- ==== Sys2Proof/Machine/Reset.lean ====
section
/-! DEFINITION. The two kinds of reset (00_scope, "Resets"; R168, R197). -/

namespace Sys2Proof.Machine

/-- A FAULT line or a stall input that stands asserted at a reset is taken as an assertion just after it (R123, R133,
log 9). -/
def standingLines (s : State) : State :=
  let t := if s.flap.faultLine then faultLineActs s else s
  if t.blower.stall then stallActs t else t

/-- A reset of either kind, with the lines it finds and the flash it leaves (R168, R197). -/
def resetModule (kind : ResetKind) (lines : ResetLines) (flash : Flash) (s : State) : State :=
  standingLines (State.resetWith kind lines flash s.freeCount s.pending)

/-- The lines and contacts as the module has them now. -/
def State.lines (s : State) : ResetLines :=
  { inhibit := s.flap.inhibit, faultLine := s.flap.faultLine, ready := s.flap.ready, stall := s.blower.stall,
    drvClosed := s.drive.drv.contactClosed, krbClosed := s.drive.krb.contactClosed }

/-- A power-on reset: it finds these lines, and has cut the journal's operation as the outcomes say (R168, R197). -/
def powerOn (lines : ResetLines) (cut : List SlotOutcome) (s : State) : State :=
  resetModule .powerOn lines (s.flashAfterCut cut) s

/-- The reset that follows a RESTART reply; no write is in flight then (R167, R197). -/
def restartReset (s : State) : State := resetModule .restart s.lines s.flash s

end Sys2Proof.Machine
end

