-- ==== Sys2Proof/Machine/Link.lean ====
section
/-! DEFINITION. The link port: the receiver, the request queue and service, the end of a reply (chapter 11), and the end of the
journal's scan, at which service begins (R165). -/

namespace Sys2Proof.Machine

/-! ### Queue and service (R194, R195) -/

/-- The head may be served: the scan has ended, the transmitter is idle, and no head holds the queue (R195). -/
def State.mayServe (s : State) : Bool :=
  !decide (s.journal.state = .scanning) && s.link.sending.isNone && !s.link.holding

/-- The head of the queue is served, if there is one and it may be (R195). -/
def serveHead (s : State) : State :=
  match s.link.queue with
  | r :: _ => if s.mayServe then serveRequest r s else s
  | [] => s

/-- A good frame's request joins the queue, or is discarded and sets DROPPED when both entries are occupied (R194). -/
def joinQueue (r : Request) (s : State) : State :=
  if s.link.queue.length < 2 then serveHead (s.withLink { s.link with queue := s.link.queue ++ [r] })
  else s.withLink { s.link with dropped := true }

/-- A good frame that carries this request is complete: it is delivered, and the receiver returns to HUNT (R192, R194). -/
def deliverFrame (r : Request) (s : State) : State :=
  joinQueue r (s.withLink { s.link with receiver := .hunt, gapMs := 0 })

/-! ### The receiver (R190, R192, R193) -/

/-- The receiver takes this state on a byte, and the gap is timed anew from that byte (R193). -/
def receiverTo (x : Receiver) (s : State) : State := s.withLink { s.link with receiver := x, gapMs := 0 }

/-- A frame is abandoned (R193). In HUNT the gap is not timed: that its field holds 0 is the model's choice (DESIGN CHOICE, log 34). -/
def abandonFrame (s : State) : State := s.withLink { s.link with receiver := .hunt, gapMs := 0, badFrame := true }

/-- The receiver after a byte of the payload is stored (R192, BODY). -/
def bodyAfter (len : Nat) (kind : Byte) (stored : List Byte) : Receiver :=
  if stored.length < len then .body len kind stored else .check kind stored none

/-- A byte reaches the receiver (R192). -/
def receiveByte (b : Byte) (s : State) : State :=
  match s.link.receiver with
  | .hunt => if b = 0xA5#8 then receiverTo .length s else s
  | .length => if 64 < b.toNat then abandonFrame s else receiverTo (.kind b.toNat) s
  | .kind len => receiverTo (if len = 0 then .check b [] none else .body len b []) s
  | .body len kind stored => receiverTo (bodyAfter len kind (stored ++ [b])) s
  | .check kind payload none => receiverTo (.check kind payload (some b)) s
  | .check kind payload (some high) =>
    if word16 high b = frameCrc kind payload then deliverFrame (decodeRequest kind payload) s else abandonFrame s

/-- One byte time on the line: a byte without its stop bit does not reach the receiver (R190). -/
def takeLineByte (s : State) : LineByte → State
  | .framed b => receiveByte b s
  | .noStop _ => s

/-- The bytes of the line arrive one after another (R190, R192). -/
def receiveBytes (bytes : List LineByte) (s : State) : State := bytes.foldl takeLineByte s

/-- The gap after a byte has passed; in HUNT it is not timed (R193). -/
def gapPassed (s : State) : State :=
  match s.link.receiver with
  | .hunt => s
  | .length | .kind _ | .body _ _ _ | .check _ _ _ => abandonFrame s

/-! ### The end of a reply and of the scan (R165, R195, R197) -/

/-- The head leaves the queue, and the next entry is served (R195). -/
def headLeaves (s : State) : State :=
  serveHead (s.withLink { s.link with queue := s.link.queue.tail, sending := none })

/-- The last byte of the reply going out is sent: after a RESTART's the module resets (R195, R197). -/
def replyLeaves (s : State) : State :=
  if s.link.sending.isNone then s
  else if s.link.queue.head? = some .restart then restartReset s
  else headLeaves s

/-- The journal's scan ends, and the link port begins to serve its queue (R165). -/
def scanEnds (s : State) : State := if s.journal.state = .scanning then serveHead (endScan s) else s

end Sys2Proof.Machine
end

