-- ==== Sys2Proof/Machine/Events.lean ====
section
/-! DEFINITION. The meaning of each command, one definition per row of the opcode table, in the table's order. Each answers the
next state: no command of this block stops the machine (NOTES.md, "Stops"). -/

namespace Sys2Proof.Machine

/-- What a step of the machine answers. -/
abbrev Result := Host.Outcome State Fault Refusal

/-! ### Link events -/

/-- POWER_ON_RESET (R197). -/
def execPowerOnReset (lines : ResetLines) (cut : List SlotOutcome) (s : State) : Result := .next (powerOn lines cut s)

/-- RECEIVE_FRAME (R192). -/
def execReceiveFrame (bytes : List LineByte) (s : State) : Result := .next (receiveBytes bytes s)

/-- GAP_TIMEOUT (R193). -/
def execGapTimeout (s : State) : Result := .next (gapPassed s)

/-- REPLY_SENT (R195). -/
def execReplySent (s : State) : Result := .next (replyLeaves s)

/-! ### Requests: each the arrival of a good frame that carries it (log 1) -/

/-- UNKNOWN_REQUEST (R199). -/
def execUnknownRequest (kind : Byte) (payload : List Byte) (s : State) : Result :=
  .next (deliverFrame (decodeRequest kind payload) s)

/-- IDENT (R200, R164). -/
def execIdent (interval : Option Word16) (s : State) : Result := .next (deliverFrame (.ident interval) s)

/-- CABIN (R4, R93). -/
def execCabin (f : CabinFields) (s : State) : Result := .next (deliverFrame (.cabin f) s)

/-- LIMITS (R34). -/
def execLimits (f : LimitsFields) (s : State) : Result := .next (deliverFrame (.limits f) s)

/-- MODE (R31). -/
def execMode (m : Byte) (s : State) : Result := .next (deliverFrame (.mode m) s)

/-- COMFORT (R35). -/
def execComfort (level : Byte) (s : State) : Result := .next (deliverFrame (.comfort level) s)

/-- DRIVE (R96). -/
def execDrive (speed : Word16) (engine : Byte) (s : State) : Result := .next (deliverFrame (.drive speed engine) s)

/-- CHANNEL (R89). -/
def execChannel (f : ChannelFields) (s : State) : Result := .next (deliverFrame (.channel f) s)

/-- DETECTOR (R58). -/
def execDetector (f : DetectorFields) (s : State) : Result := .next (deliverFrame (.detector f) s)

/-- ACTUATOR (R114). -/
def execActuator (f : ActuatorFields) (s : State) : Result := .next (deliverFrame (.actuator f) s)

/-- FLAP_RECOVER (R126). -/
def execFlapRecover (s : State) : Result := .next (deliverFrame .flapRecover s)

/-- FILTER_FIT (R143). -/
def execFilterFit (f : FilterFitFields) (s : State) : Result := .next (deliverFrame (.filterFit f) s)

/-- FILTER_READ (R145). -/
def execFilterRead (s : State) : Result := .next (deliverFrame .filterRead s)

/-- WATCH_SET (R178). -/
def execWatchSet (f : WatchSetFields) (s : State) : Result := .next (deliverFrame (.watchSet f) s)

/-- WATCH_READ (R180). -/
def execWatchRead (s : State) : Result := .next (deliverFrame .watchRead s)

/-- WATCH_CLEAR (R179). -/
def execWatchClear (slots : Byte) (s : State) : Result := .next (deliverFrame (.watchClear slots) s)

/-- NOTICE_FETCH (R185). -/
def execNoticeFetch (includeMasked : Byte) (s : State) : Result := .next (deliverFrame (.noticeFetch includeMasked) s)

/-- NOTICE_MASK (R183). -/
def execNoticeMask (kinds : Word16) (s : State) : Result := .next (deliverFrame (.noticeMask kinds) s)

/-- CONDITIONS (R188). -/
def execConditions (clear : Byte) (masks : Option Byte) (s : State) : Result :=
  .next (deliverFrame (.conditions clear masks) s)

/-- STATE (R201). -/
def execStateRead (s : State) : Result := .next (deliverFrame .stateRead s)

/-- CHANNELS (R92, R202). -/
def execChannels (s : State) : Result := .next (deliverFrame .channels s)

/-- EPISODES (R71). -/
def execEpisodes (fromNumber : Word16) (s : State) : Result := .next (deliverFrame (.episodes fromNumber) s)

/-- SHIFT_START (R149): SHIFT with action START. -/
def execShiftStart (s : State) : Result := .next (deliverFrame (.shift 0#8) s)

/-- SHIFT_END (R149): SHIFT with action END. -/
def execShiftEnd (s : State) : Result := .next (deliverFrame (.shift 1#8) s)

/-- SHIFT_READ (R149): SHIFT with action READ. -/
def execShiftRead (s : State) : Result := .next (deliverFrame (.shift 2#8) s)

/-- PARK (R102, R196). -/
def execPark (s : State) : Result := .next (deliverFrame .park s)

/-- WAKE (R103). -/
def execWake (s : State) : Result := .next (deliverFrame .wake s)

/-- RESTART (R167, R197). -/
def execRestart (s : State) : Result := .next (deliverFrame .restart s)

/-! ### Sensor events -/

/-- A sample record as the front end gets it: one that names no channel or no quality is discarded (R78). -/
def sampleArrives (code : Nat) (raw : Int) (quality : Nat) (s : State) : State :=
  match Channel.ofCode code, Quality.ofCode quality with
  | some c, some q => takeSample c raw q s
  | _, _ => s

/-- SAMPLE (R79). -/
def execSample (code : Nat) (raw : Int) (quality : Nat) (s : State) : Result := .next (sampleArrives code raw quality s)

/-- A reading of the position feedback input: GOOD inside its signal span, FAULT outside it (R86). -/
def fposRead (reading : Option Int) (s : State) : State :=
  match reading with
  | some x => takeSample .fpos x .good s
  | none => takeSample .fpos 0 .fault s

/-- FPOS_READ (R86). -/
def execFposRead (reading : Option Int) (s : State) : Result := .next (fposRead reading s)

/-- STALE_EXPIRY (R82). -/
def execStaleExpiry (c : Channel) (s : State) : Result := .next (staleExpired c s)

/-- LOST_EXPIRY (R83). -/
def execLostExpiry (c : Channel) (s : State) : Result := .next (lostExpired c s)

/-! ### Interval channels -/

/-- ESTIMATOR_UPDATE (R5). -/
def execEstimatorUpdate (s : State) : Result := .next (estExpired s)

/-- DEC_EXPIRY (R108). -/
def execDecExpiry (s : State) : Result := .next (decExpired s)

/-- HOLD_EXPIRY (R48). -/
def execHoldExpiry (s : State) : Result := .next (holdExpired s)

/-- PURGE_EXPIRY (R51). -/
def execPurgeExpiry (s : State) : Result := .next (purgeExpired s)

/-- CKPT_EXPIRY (R110). -/
def execCkptExpiry (s : State) : Result := .next (ckptExpired s)

/-! ### Flash completions -/

/-- ERASE_PASS (R159). -/
def execErasePass (s : State) : Result := .next (erasePassed s)

/-- ERASE_FAIL (R159). -/
def execEraseFail (left : List SlotOutcome) (s : State) : Result := .next (eraseFailed left s)

/-- PROGRAM_PASS (R160). -/
def execProgramPass (s : State) : Result := .next (programPassed s)

/-- PROGRAM_FAIL (R161). -/
def execProgramFail (left : SlotOutcome) (s : State) : Result := .next (programFailed left s)

/-- SCAN_END (R165). -/
def execScanEnd (s : State) : Result := .next (scanEnds s)

/-! ### Doors, DRIVE age, uptime -/

/-- CONTACT_CHANGE (R94). -/
def execContactChange (door : Door) (closed : Bool) (s : State) : Result := .next (contactChanged door closed s)

/-- DEBOUNCE_ACCEPT (R94). -/
def execDebounceAccept (door : Door) (s : State) : Result := .next (debounceAccepted door s)

/-- DRIVE_AGE_STALE (R97). -/
def execDriveAgeStale (s : State) : Result := .next (driveStale s)

/-- DRIVE_AGE_SILENT (R97). -/
def execDriveAgeSilent (s : State) : Result := .next (driveSilent s)

/-- A second of the time base passes: uptime rises by 1, and after 4,294,967,295 returns to 0 (R105, log 18). -/
def secondPasses (s : State) : State := (s.withUptime ((s.uptime + 1) % 4294967296)).withSecondMs 0

/-- UPTIME_TICK (R105). -/
def execUptimeTick (s : State) : Result := .next (secondPasses s)

/-! ### Flap and blower -/

/-- INHIBIT_ASSERT (R116). -/
def execInhibitAssert (s : State) : Result := .next (inhibitAsserted s)

/-- INHIBIT_RELEASE (R116). -/
def execInhibitRelease (s : State) : Result := .next (inhibitReleased s)

/-- FAULT_LINE_ASSERT (R123). -/
def execFaultLineAssert (s : State) : Result := .next (faultLineAsserted s)

/-- FAULT_LINE_RELEASE (R123). -/
def execFaultLineRelease (s : State) : Result := .next (faultLineReleased s)

/-- READY_CHANGE (R117, R119). -/
def execReadyChange (high : Bool) (s : State) : Result := .next (readyChanged high s)

/-- MOVE_TIMEOUT (R124). -/
def execMoveTimeout (s : State) : Result := .next (moveTimedOut s)

/-- TIMED_DRIVE_END (R120). -/
def execTimedDriveEnd (s : State) : Result := .next (timedDriveEnded s)

/-- TIMED_HOMING_END (R127, R128). -/
def execTimedHomingEnd (s : State) : Result := .next (timedHomingEnded s)

/-- STALL_ASSERT (R133). -/
def execStallAssert (s : State) : Result := .next (stallAsserted s)

/-- STALL_RELEASE (R133). -/
def execStallRelease (s : State) : Result := .next (stallReleased s)

/-- SHIFT_REFUSED_VALUE (R149): SHIFT with an action that is none of the three. -/
def execShiftRefusedValue (action : Byte) (s : State) : Result := .next (deliverFrame (.shift action) s)

end Sys2Proof.Machine
end

