-- ==== Sys2Proof/Machine/Dispatch.lean ====
section
/-! DEFINITION. The dispatch: one arm per command. -/

namespace Sys2Proof.Machine

/-- What a command does to everything but the queue. -/
def exec (i : Instr) (s : State) : Host.Outcome State Fault Refusal :=
  match i with
  | .powerOnReset lines cut => Sys2Proof.Machine.execPowerOnReset lines cut s
  | .receiveFrame bytes => Sys2Proof.Machine.execReceiveFrame bytes s
  | .gapTimeout => Sys2Proof.Machine.execGapTimeout s
  | .replySent => Sys2Proof.Machine.execReplySent s
  | .unknownRequest kind payload => Sys2Proof.Machine.execUnknownRequest kind payload s
  | .ident interval => Sys2Proof.Machine.execIdent interval s
  | .cabin f => Sys2Proof.Machine.execCabin f s
  | .limits f => Sys2Proof.Machine.execLimits f s
  | .mode m => Sys2Proof.Machine.execMode m s
  | .comfort level => Sys2Proof.Machine.execComfort level s
  | .drive speed engine => Sys2Proof.Machine.execDrive speed engine s
  | .channel f => Sys2Proof.Machine.execChannel f s
  | .detector f => Sys2Proof.Machine.execDetector f s
  | .actuator f => Sys2Proof.Machine.execActuator f s
  | .flapRecover => Sys2Proof.Machine.execFlapRecover s
  | .filterFit f => Sys2Proof.Machine.execFilterFit f s
  | .filterRead => Sys2Proof.Machine.execFilterRead s
  | .watchSet f => Sys2Proof.Machine.execWatchSet f s
  | .watchRead => Sys2Proof.Machine.execWatchRead s
  | .watchClear slots => Sys2Proof.Machine.execWatchClear slots s
  | .noticeFetch includeMasked => Sys2Proof.Machine.execNoticeFetch includeMasked s
  | .noticeMask kinds => Sys2Proof.Machine.execNoticeMask kinds s
  | .conditions clear masks => Sys2Proof.Machine.execConditions clear masks s
  | .stateRead => Sys2Proof.Machine.execStateRead s
  | .channels => Sys2Proof.Machine.execChannels s
  | .episodes fromNumber => Sys2Proof.Machine.execEpisodes fromNumber s
  | .shiftStart => Sys2Proof.Machine.execShiftStart s
  | .shiftEnd => Sys2Proof.Machine.execShiftEnd s
  | .shiftRead => Sys2Proof.Machine.execShiftRead s
  | .park => Sys2Proof.Machine.execPark s
  | .wake => Sys2Proof.Machine.execWake s
  | .restart => Sys2Proof.Machine.execRestart s
  | .sample channel raw quality => Sys2Proof.Machine.execSample channel raw quality s
  | .fposRead reading => Sys2Proof.Machine.execFposRead reading s
  | .staleExpiry c => Sys2Proof.Machine.execStaleExpiry c s
  | .lostExpiry c => Sys2Proof.Machine.execLostExpiry c s
  | .estimatorUpdate => Sys2Proof.Machine.execEstimatorUpdate s
  | .decExpiry => Sys2Proof.Machine.execDecExpiry s
  | .holdExpiry => Sys2Proof.Machine.execHoldExpiry s
  | .purgeExpiry => Sys2Proof.Machine.execPurgeExpiry s
  | .ckptExpiry => Sys2Proof.Machine.execCkptExpiry s
  | .erasePass => Sys2Proof.Machine.execErasePass s
  | .eraseFail left => Sys2Proof.Machine.execEraseFail left s
  | .programPass => Sys2Proof.Machine.execProgramPass s
  | .programFail left => Sys2Proof.Machine.execProgramFail left s
  | .scanEnd => Sys2Proof.Machine.execScanEnd s
  | .contactChange door closed => Sys2Proof.Machine.execContactChange door closed s
  | .debounceAccept door => Sys2Proof.Machine.execDebounceAccept door s
  | .driveAgeStale => Sys2Proof.Machine.execDriveAgeStale s
  | .driveAgeSilent => Sys2Proof.Machine.execDriveAgeSilent s
  | .uptimeTick => Sys2Proof.Machine.execUptimeTick s
  | .inhibitAssert => Sys2Proof.Machine.execInhibitAssert s
  | .inhibitRelease => Sys2Proof.Machine.execInhibitRelease s
  | .faultLineAssert => Sys2Proof.Machine.execFaultLineAssert s
  | .faultLineRelease => Sys2Proof.Machine.execFaultLineRelease s
  | .readyChange high => Sys2Proof.Machine.execReadyChange high s
  | .moveTimeout => Sys2Proof.Machine.execMoveTimeout s
  | .timedDriveEnd => Sys2Proof.Machine.execTimedDriveEnd s
  | .timedHomingEnd => Sys2Proof.Machine.execTimedHomingEnd s
  | .stallAssert => Sys2Proof.Machine.execStallAssert s
  | .stallRelease => Sys2Proof.Machine.execStallRelease s
  | .shiftRefusedValue action => Sys2Proof.Machine.execShiftRefusedValue action s

end Sys2Proof.Machine
end

