-- ==== Sys2Proof/Machine/Time.lean ====
section
/-! DEFINITION. One millisecond of the time base: what the block does when no command waits (log 2). Every clock advances, then
the events that have come due run, in one fixed order. -/

namespace Sys2Proof.Machine

/-! ### The clocks -/

/-- A channel's age runs in LIVE and STALE (R76, R83). -/
def ChannelRecord.aged (r : ChannelRecord) : ChannelRecord :=
  match r.state with
  | .live | .stale => { r with ageMs := r.ageMs.map (· + 1) }
  | .none | .lost => r

/-- The ten ages. -/
def Channels.aged (cs : Channels) : Channels :=
  { opm := cs.opm.aged, ogs := cs.ogs.aged, cpm := cs.cpm.aged, cco := cs.cco.aged, crh := cs.crh.aged,
    ctm := cs.ctm.aged, orh := cs.orh.aged, otm := cs.otm.aged, stm := cs.stm.aged, fpos := cs.fpos.aged }

/-- A running debounce (R94). -/
def DoorRecord.aged (d : DoorRecord) : DoorRecord :=
  { d with debounce := d.debounce.map fun b => { b with ms := b.ms + 1 } }

/-- The DRIVE age runs in FRESH and STALE (R97). -/
def Drive.aged (d : Drive) : Drive :=
  let ms := match d.freshness with
    | .fresh | .stale => d.ageMs + 1
    | .none | .silent => d.ageMs
  { d with drv := d.drv.aged, krb := d.krb.aged, ageMs := ms }

/-- The four timer channels; CKPT counts EST expiries (R106). -/
def Timers.aged (t : Timers) : Timers :=
  { t with est := t.est.map (· - 1), dec := t.dec.map (· - 1), hold := t.hold.map (· - 1), purge := t.purge.map (· - 1) }

/-- The move timer and the TIMED drive in flight (R112). -/
def Flap.aged (f : Flap) : Flap :=
  { f with moveTimer := f.moveTimer.map (fun t => { t with elapsed := t.elapsed + 1 }),
           driveInFlight := f.driveInFlight.map (fun d => { d with elapsed := min d.duration (d.elapsed + 1) }) }

/-- The gap is timed outside HUNT (R193). -/
def Link.aged (l : Link) : Link :=
  match l.receiver with
  | .hunt => l
  | .length | .kind _ | .body _ _ _ | .check _ _ _ => { l with gapMs := l.gapMs + 1 }

/-- The time since the scan began (R165). -/
def Journal.aged (j : Journal) : Journal :=
  match j.state with
  | .scanning => { j with scanMs := j.scanMs + 1 }
  | .ready | .failed => j

/-- Every clock one millisecond on. -/
def advanceClocks (s : State) : State :=
  (((((((s.withChannels s.channels.aged).withDrive s.drive.aged).withTimers s.timers.aged).withFlap s.flap.aged).withLink
    s.link.aged).withJournal s.journal.aged).withSecondMs (s.secondMs + 1))

/-! ### The events that come due, each judged on the state as the earlier ones have left it -/

/-- A second has passed (R105). -/
def dueSecond (s : State) : State := if 1000 ≤ s.secondMs then secondPasses s else s

/-- The scan ends within 2 s of the reset (R165, log 23). -/
def dueScan (s : State) : State := if 2000 ≤ s.journal.scanMs then scanEnds s else s

/-- The 20 ms gap has passed (R193). -/
def dueGap (s : State) : State := if 20 ≤ s.link.gapMs then gapPassed s else s

/-- A level has stood for 50 ms (R94). -/
def dueDebounce (which : Door) (s : State) : State :=
  match (s.drive.door which).debounce with
  | some b => if 50 ≤ b.ms then debounceAccepted which s else s
  | none => s

/-- The DRIVE age has reached 5 s (R97). -/
def dueDriveStale (s : State) : State := if 5000 ≤ s.drive.ageMs then driveStale s else s

/-- The DRIVE age has reached 30 s (R97). -/
def dueDriveSilent (s : State) : State := if 30000 ≤ s.drive.ageMs then driveSilent s else s

/-- A channel's age has reached its stale time, or its lost time (R82, R83). -/
def dueChannel (c : Channel) (s : State) : State :=
  let r := s.channels.get c
  let age := r.ageMs.getD 0
  if r.lostTime * 1000 ≤ age then lostExpired c s
  else if r.staleTime * 1000 ≤ age then staleExpired c s
  else s

/-- The ten channels in the order of R75. -/
def dueChannels (s : State) : State := Channel.all.foldl (fun t c => dueChannel c t) s

/-- A TIMED drive has run its time: a move's or a homing's (R120, R127). -/
def dueDrive (s : State) : State :=
  match s.flap.driveInFlight with
  | some d => if d.duration ≤ d.elapsed then timedHomingEnded (timedDriveEnded s) else s
  | none => s

/-- The move timer has reached the move timeout (R124). -/
def dueMove (s : State) : State :=
  match s.flap.moveTimer with
  | some t => if t.limit ≤ t.elapsed then moveTimedOut s else s
  | none => s

/-- EST has run its time (R107). -/
def dueEst (s : State) : State := if s.timers.est = some 0 then estExpired s else s

/-- DEC has run its time (R108). -/
def dueDec (s : State) : State := if s.timers.dec = some 0 then decExpired s else s

/-- HOLD has run its time (R48). -/
def dueHold (s : State) : State := if s.timers.hold = some 0 then holdExpired s else s

/-- PURGE has run its time (R51). -/
def duePurge (s : State) : State := if s.timers.purge = some 0 then purgeExpired s else s

/-- The events that have come due, in one fixed order (log 2). -/
def runDue (s : State) : State :=
  duePurge (dueHold (dueDec (dueEst (dueMove (dueDrive (dueChannels (dueDriveSilent (dueDriveStale
    (dueDebounce .krb (dueDebounce .drv (dueGap (dueScan (dueSecond s)))))))))))))

/-- One millisecond passes (log 2). -/
def millisecond (s : State) : State := runDue (advanceClocks s)

end Sys2Proof.Machine
end

