-- ==== Sys2Proof/Safety.lean ====
section
/-! DEFINITION. The terms the statements use: what a command may change, when a request is served at once and how it is
answered, how a reply's fields are read, and the properties that every step keeps. -/

namespace Sys2Proof.Machine

/-! ### Frames -/

/-- The parts of the state other than the command queue. -/
inductive Part where
  | est | policy | tracker | channels | drive | timers | uptime | secondMs | flap | blower | filter | tally
  | journal | flash | watch | notices | link | freeCount
deriving DecidableEq, Repr

/-- The two states agree in this part. -/
def Part.Same (p : Part) (s t : State) : Prop :=
  match p with
  | .est => t.est = s.est
  | .policy => t.policy = s.policy
  | .tracker => t.tracker = s.tracker
  | .channels => t.channels = s.channels
  | .drive => t.drive = s.drive
  | .timers => t.timers = s.timers
  | .uptime => t.uptime = s.uptime
  | .secondMs => t.secondMs = s.secondMs
  | .flap => t.flap = s.flap
  | .blower => t.blower = s.blower
  | .filter => t.filter = s.filter
  | .tally => t.tally = s.tally
  | .journal => t.journal = s.journal
  | .flash => t.flash = s.flash
  | .watch => t.watch = s.watch
  | .notices => t.notices = s.notices
  | .link => t.link = s.link
  | .freeCount => t.freeCount = s.freeCount

/-- From s to t nothing changes but the parts listed; the command queue does not change. -/
def OnlyChanges (parts : List Part) (s t : State) : Prop :=
  t.pending = s.pending ∧ ∀ p : Part, p ∉ parts → p.Same s t

/-! ### Requests and replies -/

/-- The request whose arrival a command is, for the request rows of the table. -/
def requestOf : Instr → Option Request
  | .unknownRequest kind payload => some (decodeRequest kind payload)
  | .ident x => some (.ident x)
  | .cabin f => some (.cabin f)
  | .limits f => some (.limits f)
  | .mode m => some (.mode m)
  | .comfort c => some (.comfort c)
  | .drive v e => some (.drive v e)
  | .channel f => some (.channel f)
  | .detector f => some (.detector f)
  | .actuator f => some (.actuator f)
  | .flapRecover => some .flapRecover
  | .filterFit f => some (.filterFit f)
  | .filterRead => some .filterRead
  | .watchSet f => some (.watchSet f)
  | .watchRead => some .watchRead
  | .watchClear n => some (.watchClear n)
  | .noticeFetch f => some (.noticeFetch f)
  | .noticeMask k => some (.noticeMask k)
  | .conditions c m => some (.conditions c m)
  | .stateRead => some .stateRead
  | .channels => some .channels
  | .episodes g => some (.episodes g)
  | .shiftStart => some (.shift 0#8)
  | .shiftEnd => some (.shift 1#8)
  | .shiftRead => some (.shift 2#8)
  | .shiftRefusedValue a => some (.shift a)
  | .park => some .park
  | .wake => some .wake
  | .restart => some .restart
  | .powerOnReset _ _ | .receiveFrame _ | .gapTimeout | .replySent | .sample _ _ _ | .fposRead _ | .staleExpiry _
  | .lostExpiry _ | .estimatorUpdate | .decExpiry | .holdExpiry | .purgeExpiry | .ckptExpiry | .erasePass
  | .eraseFail _ | .programPass | .programFail _ | .scanEnd | .contactChange _ _ | .debounceAccept _
  | .driveAgeStale | .driveAgeSilent | .uptimeTick | .inhibitAssert | .inhibitRelease | .faultLineAssert
  | .faultLineRelease | .readyChange _ | .moveTimeout | .timedDriveEnd | .timedHomingEnd | .stallAssert
  | .stallRelease => none

/-- The link port is free: a request that arrives is the head and is served in its own event (R195). -/
def PortFree (s : State) : Prop :=
  s.journal.state ≠ .scanning ∧ s.link.sending = none ∧ s.link.holding = false ∧ s.link.queue = []

/-- The link status of a reply built in the event from s to t: DROPPED and BADFRAME as they stood, ATTENTION and PARKED after
the event (R198). -/
def statusOf (s t : State) : Byte :=
  BitVec.ofNat 8 ((if s.link.dropped then 1 else 0) + (if s.link.badFrame then 2 else 0)
    + (if t.notices.attention then 4 else 0) + (if t.drive.vehicle = .parked then 8 else 0))

/-- The reply of this KIND and payload as R191 frames it: LEN the number of payload bytes, the CRC over LEN, KIND and the payload. -/
def replyByRules (kind : Byte) (payload : List Byte) : Reply :=
  { len := BitVec.ofNat 8 payload.length, kind := kind, payload := payload,
    crc := crc16 (BitVec.ofNat 8 payload.length :: kind :: payload) }

/-- In the event from s to t the request r arrives, is served, and its reply with this result code and body begins to go out, framed
with its LEN and CRC (R191, R195, R198). -/
def Answered (r : Request) (result : Nat) (body : List Byte) (s t : State) : Prop :=
  t.link = { s.link with
    receiver := .hunt, gapMs := 0, queue := [r],
    sending := some (replyByRules (r.code + 0x80#8) (BitVec.ofNat 8 result :: statusOf s t :: body)),
    dropped := false, badFrame := false }

/-- The unsigned number in n bytes of a payload from this offset on, high byte first (R191). -/
def fieldAt (l : List Byte) (offset n : Nat) : Nat :=
  ((l.drop offset).take n).foldl (fun x b => 256 * x + b.toNat) 0

/-- The bytes of a frame as they come off the line. -/
def onLine (l : List Byte) : List LineByte := l.map LineByte.framed

/-- A byte that neither ends a frame nor is discarded takes the receiver from one state to the next: SYNC in HUNT, a LEN of at most 64, KIND,
each byte of the payload, and the first byte of the CRC (R192). -/
def ByteStored (b : Byte) (before after : Receiver) : Prop :=
  match before with
  | .hunt => b = 0xA5#8 ∧ after = .length
  | .length => b.toNat ≤ 64 ∧ after = .kind b.toNat
  | .kind len => after = if len = 0 then .check b [] none else .body len b []
  | .body len kind stored =>
    after = if stored.length + 1 < len then .body len kind (stored ++ [b]) else .check kind (stored ++ [b]) none
  | .check kind payload none => after = .check kind payload (some b)
  | .check _ _ (some _) => False

/-- A frame's LEN is one its request allows (R199). -/
def allowedLengths (kind : Nat) : List Nat :=
  match kind with
  | 0x01 => [0, 2]
  | 0x02 => [13]
  | 0x03 => [22]
  | 0x04 => [1]
  | 0x05 => [1]
  | 0x06 => [3]
  | 0x07 => [7]
  | 0x08 => [8]
  | 0x09 => [5]
  | 0x0B => [15]
  | 0x0D => [8]
  | 0x0F => [1]
  | 0x10 => [1]
  | 0x11 => [2]
  | 0x12 => [1, 2]
  | 0x15 => [2]
  | 0x16 => [1]
  | _ => [0]

/-- The body of a SHIFT reply that is DONE: the active flag, then the six counts and sums of the tally, each at its offset (R149,
section 11.6). -/
def TallyAt (x : Tally) (body : List Byte) : Prop :=
  body.length = 21 ∧ fieldAt body 0 1 = (if x.active then 1 else 0) ∧ fieldAt body 1 4 = x.seconds % 2 ^ 32
    ∧ fieldAt body 5 4 = x.pmDose % 2 ^ 32 ∧ fieldAt body 9 4 = x.gasDose % 2 ^ 32
    ∧ fieldAt body 13 4 = x.overLimit % 2 ^ 32 ∧ fieldAt body 17 2 = x.stops % 2 ^ 16
    ∧ fieldAt body 19 2 = x.episodes % 2 ^ 16

/-- x brought to the nearer end of lo..hi. -/
def toRange (lo hi x : Nat) : Nat := max lo (min x hi)

/-- x lies outside lo..hi. -/
def Outside (lo hi x : Nat) : Prop := x < lo ∨ hi < x

/-- x lies outside lo..hi. -/
def OutsideInt (lo hi x : Int) : Prop := x < lo ∨ hi < x

/-- No write waits and no RESTART waits while no write is in flight (R156, R160, R167). -/
def JournalQuiet (j : Journal) : Prop := j.write = none → j.pendingWrite = none ∧ j.restartWaiting = false

/-- The default substitute, stale time and lost time of a channel (R75, R76); FPOS has no substitute (R86). -/
def channelDefaults : Channel → Option Int × Nat × Nat
  | .opm => (some 60, 5, 30)
  | .ogs => (some 150, 5, 30)
  | .cpm => (some 0, 5, 30)
  | .cco => (some 420, 10, 60)
  | .crh => (some 500, 5, 30)
  | .ctm => (some 200, 5, 30)
  | .orh => (some 700, 5, 30)
  | .otm => (some 100, 5, 30)
  | .stm => (some 50, 5, 30)
  | .fpos => (none, 2, 10)

/-- Every setting stands at its default: the cabin settings and polarities (R4, R93), the limits and the comfort level (R34, R35),
the detectors' settings (R58), the channels' (R76), the drive mode and its times (R114), the checkpoint interval (R164), the
masks (R183, R187), and each slot in OFF with the fields of R171. -/
def SettingsAtDefaults (t : State) : Prop :=
  t.est.cabin = { volume := 3000, occupants := 1, co2Reference := 420, drvExchange := 2600, krbExchange := 1300,
                  weight := 64 }
    ∧ (t.drive.drv.polarity = .normal ∧ t.drive.krb.polarity = .normal)
    ∧ t.policy.limits = { co2Limit := 1200, co2Hard := 2000, fogMin := 1500, cleanPm := 15, cleanGas := 40,
                          recircDwell := 300, decisionPeriod := 10, changeDwell := 30, holdMax := 180,
                          releaseDelay := 15, purgeTime := 45 }
    ∧ (t.policy.mode = .auto ∧ t.policy.comfort = 2)
    ∧ t.tracker.pm.settings = { jump := 25, level := 150, releaseCount := 5, maxDuration := 120 }
    ∧ t.tracker.gas.settings = { jump := 60, level := 300, releaseCount := 5, maxDuration := 120 }
    ∧ (∀ c : Channel, (t.channels.get c).substitute = (channelDefaults c).1
        ∧ (t.channels.get c).staleTime = (channelDefaults c).2.1 ∧ (t.channels.get c).lostTime = (channelDefaults c).2.2)
    ∧ (t.flap.mode = .timed ∧ t.flap.travelTime = 4000 ∧ t.flap.moveTimeout = 6000)
    ∧ t.journal.checkpointInterval = 600
    ∧ (t.notices.masked = [.moveDone] ∧ ∀ k : ConditionKind, k ∈ t.notices.conditionMasked ↔ k ≠ .diverged)
    ∧ ∀ n : SlotNumber, t.watch.get n =
        { quantity := .channel .opm, kind := .above, level := 0, hysteresis := 0, scope := .off, armed := false,
          firstHit := none }

/-- The start-up values of both kinds of reset, field by field, every setting at its default among them (R1, R2, R29, R57, R73, R76, R93,
R97, R98, R105 to R110, R112, R132, R133, R137, R146, R155, R171, R181, R184, R187, R190, R192, R194, R198). Only the levels of the lines and
contacts, the flash and the model's own count of free choices are not among them. That a FAULT line and a stall that stand asserted have acted
already, with their notices, is the model's choice (log 9); that the clocks behind the second and the scan start at 0 is the model's
(logs 2, 23), and so is that the DRIVE age and the gap, neither running, hold 0 (log 34). -/
def ResetValues (kind : ResetKind) (t : State) : Prop :=
  SettingsAtDefaults t
    ∧ t.est = {
        epm := 0, egs := 0, eco := 6720, eah := 8000, freshCpm := none, freshCco := none, freshCrh := none,
        snapPm := true, snapCo2 := true, snapAh := true, gasSnapArmed := true, divPm := 0, divCo2 := 0, divAh := 0,
        pmAbove := 0, mixedPm := 0, mixedGas := 0, lastFlow := 0, fogMargin := -1850, cabin := t.est.cabin }
    ∧ t.policy = {
        mode := t.policy.mode, target := 1000, basis := .start, held := false, lastChange := none, fogFlag := false,
        ceilingFlag := false, hold := .idle, purging := false, openSince := none, comfort := t.policy.comfort,
        limits := t.policy.limits, demand := 2 }
    ∧ (t.tracker.table = [] ∧ t.tracker.nextNumber = 1
      ∧ ∀ d : DetectorId, t.tracker.detector d = {
          baseline := none, release := 0, openEpisode := none, settings := (t.tracker.detector d).settings })
    ∧ (∀ c : Channel, t.channels.get c = {
        state := .none, lastValue := (channelDefaults c).1.getD 1000, substitute := (channelDefaults c).1,
        staleTime := (channelDefaults c).2.1, lostTime := (channelDefaults c).2.2, ageMs := none, faultFlag := false,
        lastQuality := none })
    ∧ (∀ door : Door, t.drive.door door = {
        polarity := .normal, contactClosed := (t.drive.door door).contactClosed, accepted := none,
        debounce := some { closed := (t.drive.door door).contactClosed, ms := 0 }, isOpen := false })
    ∧ (t.drive.lastSpeed = 0 ∧ t.drive.engine = none ∧ t.drive.ageMs = 0 ∧ t.drive.freshness = .none
      ∧ t.drive.vehicle = .halted ∧ t.drive.stopFlag = false)
    ∧ t.timers = { est := some 1000, dec := some 10000, hold := none, purge := none, ckpt := some 600 }
    ∧ (t.uptime = 0 ∧ t.secondMs = 0)
    ∧ t.flap = {
        mode := t.flap.mode, travelTime := t.flap.travelTime, moveTimeout := t.flap.moveTimeout,
        state := if t.flap.faultLine then .fault else .idle, target := 1000, setPoint := 1000, heldPosition := 1000,
        failCount := 0, moveTimer := none, driveInFlight := none, readyFallen := false, homingWaiting := false,
        towardFresh := false, towardRecirc := false, demand := 1000, inhibit := t.flap.inhibit,
        faultLine := t.flap.faultLine, ready := t.flap.ready }
    ∧ t.flapPosition = 1000
    ∧ t.blower = { level := 2, fault := t.blower.stall, stall := t.blower.stall }
    ∧ t.filter = {
        kind := .none, fitDay := 0, pmCap := 25000, gasCap := some 50000, etaPmBase := 950, etaGasBase := some 900,
        pmLoad := 0, gasLoad := 0, pmAcc := 0, gasAcc := 0, suspect := false, state := .none }
    ∧ t.tally = { active := false, seconds := 0, pmDose := 0, gasDose := 0, overLimit := 0, stops := 0, episodes := 0 }
    ∧ t.journal = {
        state := .scanning, activeSector := none, writePosition := 0, nextSequence := 1, newest := none, retired := [],
        failCounts := ⟨0, 0, 0, 0, 0, 0, 0, 0⟩, write := none, pendingWrite := none, restartWaiting := false,
        checkpointInterval := t.journal.checkpointInterval, scanMs := 0 }
    ∧ (t.notices.pending = (if t.flap.faultLine then [⟨.flapFault .line, false⟩] else [])
        ++ (if t.blower.stall then [⟨.blowerFault, false⟩] else [])
      ∧ (t.notices.attention = true ↔ t.flap.faultLine = true ∨ t.blower.stall = true)
      ∧ t.notices.conditionFlags = [] ∧ t.notices.lastCondition = none)
    ∧ t.link = {
        receiver := .hunt, gapMs := 0, queue := [], holding := false, sending := none, dropped := false,
        badFrame := false, lastReset := kind }

/-- A slot just written or cleared, evaluated on the present value v of its quantity (R173 to R175, R178, R179). -/
def slotAfresh (w : WatchSlot) (v : Int) (uptime : Nat) : WatchSlot :=
  match w.scope, w.kind with
  | .off, _ => { w with armed := false, firstHit := none }
  | _, .above => { w with armed := false, firstHit := if w.level < v then some ⟨uptime, v⟩ else none }
  | _, .below => { w with armed := false, firstHit := if v < w.level then some ⟨uptime, v⟩ else none }
  | _, .crossUp => { w with armed := decide (v ≤ w.level - w.hysteresis), firstHit := none }
  | _, .crossDown => { w with armed := decide (w.level + w.hysteresis ≤ v), firstHit := none }

/-- A slot after an evaluation on the value v at this uptime: the comparison of its kind, the armed flag of the CROSS kinds, and the
first hit (R173 to R176). -/
def slotEvaluated (w : WatchSlot) (v : Int) (uptime : Nat) : WatchSlot :=
  let hit := if w.firstHit = none then some ⟨uptime, v⟩ else w.firstHit
  match w.scope, w.kind with
  | .off, _ => w
  | _, .above => if w.level < v then { w with firstHit := hit } else w
  | _, .below => if v < w.level then { w with firstHit := hit } else w
  | _, .crossUp =>
    if w.armed = true then (if w.level < v then { w with armed := false, firstHit := hit } else w)
    else if v ≤ w.level - w.hysteresis then { w with armed := true } else w
  | _, .crossDown =>
    if w.armed = true then (if v < w.level then { w with armed := false, firstHit := hit } else w)
    else if w.level + w.hysteresis ≤ v then { w with armed := true } else w

/-- From s to t the value v of this quantity has been delivered to the watch unit: every slot that watches it is evaluated on v
(R172, R173). -/
def Delivered (q : Quantity) (v : Int) (s t : State) : Prop :=
  ∀ n : SlotNumber, (s.watch.get n).quantity = q → t.watch.get n = slotEvaluated (s.watch.get n) v s.uptime

/-- The estimate of one quantity before stage 12, from its present value e: x flap position, k exchange coefficient, d door
sum, l leak, o outside value, eta efficiency, g source (R9 to R15). -/
def sumByRules (x k d l o eta g e : Int) : Int :=
  let m := (x * o + (1000 - x) * e) / 1000
  let supplied := m * (1000 - eta) / 1000
  e + nearest (k * (supplied - e)) 65536 + nearest (d * (o - e)) 65536 + nearest (l * (o - e)) 65536 + g

/-- The correction of stage 11 of a sum toward a fresh measurement in internal units (R16). -/
def correctedByRules (fresh : Option Int) (snap : Bool) (weight : Nat) (sum : Int) : Int :=
  match fresh with
  | none => sum
  | some c => sum + nearest ((c - sum) * (if snap then 256 else (weight : Int))) 256

/-- The mixed inlet of stage 4, from the flap position x, the outside value o and the estimate e (R9). -/
def mixedByRules (x o e : Int) : Int := (x * o + (1000 - x) * e) / 1000

/-- A divergence count as an update leaves it before its restart, from the stage 10 sum and the measurement (R21). -/
def divergedByRules (threshold sum : Int) (measurement : Option Int) (snap : Bool) (count : Nat) : Nat :=
  match measurement, snap with
  | some c, false => if threshold < |c - sum| then count + 1 else 0
  | _, _ => count

/-- The PM above count as an update leaves it before its restart (R22). -/
def aboveByRules (sum : Int) (measurement : Option Int) (snap : Bool) (above : Nat) : Nat :=
  match measurement, snap with
  | some c, false => if 480 < c - sum then above + 1 else if 480 < sum - c then above else 0
  | _, _ => above

/-- A count that reaches 30 restarts at 0 (R21). -/
def restartedAt30 (count : Nat) : Nat := if count = 30 then 0 else count

/-- A load and its accumulator after an update that captured this step (R140). -/
def loadByRules (load acc step : Nat) : Nat × Nat :=
  if acc + step < 57600000 then (load, acc + step)
  else if load = 4294967295 then (4294967295, 0)
  else (load + 1, acc + step - 57600000)

/-! ### Values of the tables -/

/-- The saturation lookup of T in tenths of a degree: T is clamped to -200..450, and between two entries of the table the share of the
step is added, rounded down (R23). -/
def satByRules (t : Int) : Int :=
  let entry (i : Nat) : Int :=
    ([880, 1390, 2140, 3240, 4850, 6800, 9400, 12830, 17300, 23050, 30380, 39630, 51190, 65500] : List Int).getD i 65500
  let x := max (-200) (min 450 t) + 200
  entry (x / 50).toNat + (entry ((x / 50).toNat + 1) - entry (x / 50).toNat) * (x % 50) / 50

/-- The flow derate of a filter record (R139). -/
def derateByRules (r : FilterRecord) : Int :=
  if r.kind = .none then 1000 else 1000 - ((400 * min r.pmLoad r.pmCap / r.pmCap : Nat) : Int)

/-- The particle efficiency of a filter record (R139). -/
def etaPmByRules (r : FilterRecord) : Int := if r.kind = .none then 0 else r.etaPmBase

/-- The gas efficiency of a filter record, which COMBINED alone has (R139). -/
def etaGasByRules (r : FilterRecord) : Int :=
  match r.kind, r.gasCap, r.etaGasBase with
  | .combined, some cap, some base => ((base * (cap - min r.gasLoad cap) / cap : Nat) : Int)
  | _, _, _ => 0

/-- The state that the loads of a filter record give: a COMBINED filter is judged on both sides, a PARTICLE one on the particle side, and
SPENT goes before WORN (R138, R141). -/
def filterStateByRules (r : FilterRecord) : FilterState :=
  match r.kind with
  | .none => .none
  | .particle => if r.pmCap ≤ r.pmLoad then .spent else if r.pmCap * 4 ≤ r.pmLoad * 5 then .worn else .inService
  | .combined =>
    if r.pmCap ≤ r.pmLoad ∨ r.gasCap.getD 0 ≤ r.gasLoad then .spent
    else if r.pmCap * 4 ≤ r.pmLoad * 5 ∨ r.gasCap.getD 0 * 4 ≤ r.gasLoad * 5 then .worn else .inService

/-- The tally after an update that published these estimates, by the limit in force; every field stops at its maximum (R146, R147). -/
def tallyByRules (x : Tally) (e : Estimator) (co2Limit : Nat) : Tally :=
  { x with
    seconds := min 4294967295 (x.seconds + 1), pmDose := min 4294967295 (x.pmDose + e.epm.toNat),
    gasDose := min 4294967295 (x.gasDose + e.egs.toNat),
    overLimit := if (co2Limit : Int) * 16 < e.eco then min 4294967295 (x.overLimit + 1) else x.overLimit }

/-- The tally of a shift in which one more stop has started, or as it stood where no shift is open (R146, R148). -/
def stopCounted (x : Tally) : Tally := if x.active then { x with stops := min 65535 (x.stops + 1) } else x

/-- T lies outside the saturation table, so that its lookup raises TABLE-CLAMPED (R23). -/
def OffTable (x : Int) : Prop := x < -200 ∨ 450 < x

/-- From s to t the kind k has occurred exactly if `happens` holds: its flag is set then and else stands, and where the kind is unmasked
CONDITION is pending with it (R187). -/
def Occurred (k : ConditionKind) (happens : Prop) (s t : State) : Prop :=
  (k ∈ t.notices.conditionFlags ↔ k ∈ s.notices.conditionFlags ∨ happens)
    ∧ (happens → k ∉ s.notices.conditionMasked → ∃ p ∈ t.notices.pending, ∃ l, p.notice = .condition l ∧ k ∈ l)

/-- From s to t, if `made` holds, one lookup of the usable value of a and then one of that of b has been made, and none else: TABLE-CLAMPED
has occurred exactly if one of them lies outside the table, and where it is unmasked the later of the two clamped ones is the
last condition (R23, R187). -/
def LookupsNoted (a b : Channel) (made : Prop) (s t : State) : Prop :=
  Occurred .tableClamped (made ∧ (OffTable (t.usable a) ∨ OffTable (t.usable b))) s t
    ∧ (made → .tableClamped ∉ s.notices.conditionMasked →
        (OffTable (t.usable b) →
          t.notices.lastCondition = some ⟨.tableClamped, some (.channel b), s.uptime, t.usable b⟩)
        ∧ (OffTable (t.usable a) → ¬OffTable (t.usable b) →
          t.notices.lastCondition = some ⟨.tableClamped, some (.channel a), s.uptime, t.usable a⟩))

/-- The fog margin that the usable values of STM, CTM and CRH give (R24, R25). -/
def marginByRules (s : State) : Int :=
  satByRules (s.usable .stm) - satByRules (s.usable .ctm) * s.usable .crh / 1000

/-- c is a channel the fog margin is worked out from (R25). -/
def GivesMargin (c : Channel) : Prop := c = .crh ∨ c = .ctm ∨ c = .stm

/-- From s to t the event of channel c has recomputed the fog margin, where c is one it is worked out from, with a lookup for CTM and then
one for STM, and has touched nothing else of the estimator (R23, R25). -/
def MarginFollows (c : Channel) (s t : State) : Prop :=
  (GivesMargin c → t.est = { s.est with fogMargin := marginByRules t }) ∧ (¬GivesMargin c → t.est = s.est)
    ∧ (c ≠ .opm → c ≠ .ogs → LookupsNoted .ctm .stm (GivesMargin c) s t)

/-- The outside humidity that the usable values of OTM and ORH give (R8, R36). -/
def outsideAhByRules (s : State) : Int := satByRules (s.usable .otm) * s.usable .orh / 1000

/-- The position a TIMED move has reached (R113). -/
def reachedByRules (d : TimedDrive) : Int :=
  if d.start ≤ d.destination then d.start + (d.destination - d.start) * d.elapsed / d.duration
  else d.start - (d.start - d.destination) * d.elapsed / d.duration

/-- The actual flap position (R113). -/
def positionByRules (s : State) : Int :=
  match s.flap.state, s.flap.mode with
  | .fault, _ | .disabled, _ => s.flap.heldPosition
  | _, .tracked | _, .edge => s.usable .fpos
  | _, .direct => s.flap.demand
  | x, .timed =>
    match s.flap.driveInFlight with
    | none => s.flap.setPoint
    | some d =>
      if x = .homing then min 1000 (d.start + 1000 * d.elapsed / s.flap.travelTime) else reachedByRules d

/-- The flap f stopped at position x: that position is held, a drive in flight has ended there and left it as the set point, the lines are
off and the timer stopped; the demand output stands (R123, R128). -/
def StoppedAt (x : Int) (f g : Flap) : Prop :=
  g.heldPosition = x ∧ g.setPoint = (if f.driveInFlight.isSome then x else f.setPoint) ∧ g.driveInFlight = none
    ∧ g.moveTimer = none ∧ g.towardFresh = false ∧ g.towardRecirc = false ∧ g.demand = f.demand ∧ g.target = f.target
    ∧ g.mode = f.mode ∧ g.travelTime = f.travelTime ∧ g.moveTimeout = f.moveTimeout ∧ g.inhibit = f.inhibit
    ∧ g.ready = f.ready ∧ g.readyFallen = f.readyFallen

/-- The entry to FAULT with this cause, from s to t: the flap stops at the position it has reached, and FLAP-FAULT is pending with the
cause (R123). -/
def FlapFaulted (cause : FlapCause) (s t : State) : Prop :=
  StoppedAt (positionByRules s) s.flap t.flap ∧ t.flap.state = .fault ∧ t.flap.failCount = s.flap.failCount
    ∧ ∃ p ∈ t.notices.pending, p.notice = .flapFault cause

/-- The failed homing with this cause, from s, which stands in HOMING, to t: the flap stops at the position it has reached, the failure
count rises by 1, and FLAP-FAULT is pending, with the cause in FAULT and with DISABLED at the third failure (R128; the set point of a
failed TIMED homing is deduced, log 16). -/
def HomingFailed (cause : FlapCause) (s t : State) : Prop :=
  StoppedAt (positionByRules s) s.flap t.flap ∧ t.flap.failCount = s.flap.failCount + 1
    ∧ (s.flap.failCount + 1 < 3 → t.flap.state = .fault ∧ ∃ p ∈ t.notices.pending, p.notice = .flapFault cause)
    ∧ (3 ≤ s.flap.failCount + 1 →
        t.flap.state = .disabled ∧ ∃ p ∈ t.notices.pending, p.notice = .flapFault .disabled)

/-- The state of a door: its accepted level by its polarity, CLOSED while no level has been accepted (R93). -/
def doorByRules (accepted : Option Bool) (polarity : Polarity) : Bool :=
  match accepted with
  | none => false
  | some closed => if polarity = .normal then closed else !closed

/-- The blower demand of R53's table. -/
def demandByTable (parked purging : Bool) (mode : PolicyMode) (basis : Basis) (comfort : Nat) : Nat :=
  if parked then 0
  else
    match mode with
    | .auto =>
      min 7 (max comfort (max 1 (max (if purging then 7 else 0) (if basis = .ventLimited then comfort + 2 else 0))))
    | .fresh | .recirc => if purging then max comfort 7 else comfort
    | .defrost => 7

/-! ### The clocks -/

/-- No clock comes to an event in the next millisecond: neither the second (R105), the scan's 2 s (R165), the gap (R193), a
debounce (R94), the DRIVE age (R97), a channel's age (R82, R83), a timer channel (R106), the move timer (R124), nor the drive in
flight (R120, R127). -/
def NothingDue (s : State) : Prop :=
  s.secondMs + 1 < 1000
    ∧ (s.journal.state = .scanning → s.journal.scanMs + 1 < 2000)
    ∧ (s.link.receiver ≠ .hunt → s.link.gapMs + 1 < 20)
    ∧ (∀ (d : Door) (b : Debounce), (s.drive.door d).debounce = some b → b.ms + 1 < 50)
    ∧ (s.drive.freshness = .fresh → s.drive.ageMs + 1 < 5000) ∧ (s.drive.freshness = .stale → s.drive.ageMs + 1 < 30000)
    ∧ (∀ c : Channel, (s.channels.get c).state = .live →
        (s.channels.get c).ageMs.getD 0 + 1 < (s.channels.get c).staleTime * 1000)
    ∧ (∀ c : Channel, (s.channels.get c).state = .live ∨ (s.channels.get c).state = .stale →
        (s.channels.get c).ageMs.getD 0 + 1 < (s.channels.get c).lostTime * 1000)
    ∧ (∀ n, s.timers.est = some n → 1 < n) ∧ (∀ n, s.timers.dec = some n → 1 < n)
    ∧ (∀ n, s.timers.hold = some n → 1 < n) ∧ (∀ n, s.timers.purge = some n → 1 < n)
    ∧ (∀ m : MoveTimer, s.flap.moveTimer = some m → m.elapsed + 1 < m.limit)
    ∧ (∀ d : TimedDrive, s.flap.driveInFlight = some d → d.elapsed + 1 < d.duration)

/-- From s to t one millisecond has passed and no event has come due: every clock that runs has moved by 1, CKPT, which counts EST
expiries, has not (R106), and nothing else has changed. -/
def ClocksMoved (s t : State) : Prop :=
  OnlyChanges [.channels, .drive, .timers, .flap, .journal, .link, .secondMs] s t
    ∧ t.secondMs = s.secondMs + 1
    ∧ (∀ c : Channel, t.channels.get c = { s.channels.get c with
        ageMs := if (s.channels.get c).state = .live ∨ (s.channels.get c).state = .stale then
          (s.channels.get c).ageMs.map (· + 1) else (s.channels.get c).ageMs })
    ∧ t.drive = { s.drive with
        drv := { s.drive.drv with debounce := s.drive.drv.debounce.map fun b => { b with ms := b.ms + 1 } },
        krb := { s.drive.krb with debounce := s.drive.krb.debounce.map fun b => { b with ms := b.ms + 1 } },
        ageMs := if s.drive.freshness = .fresh ∨ s.drive.freshness = .stale then s.drive.ageMs + 1 else s.drive.ageMs }
    ∧ t.timers = { s.timers with
        est := s.timers.est.map (· - 1), dec := s.timers.dec.map (· - 1), hold := s.timers.hold.map (· - 1),
        purge := s.timers.purge.map (· - 1) }
    ∧ t.flap = { s.flap with
        moveTimer := s.flap.moveTimer.map fun m => { m with elapsed := m.elapsed + 1 },
        driveInFlight := s.flap.driveInFlight.map fun d => { d with elapsed := d.elapsed + 1 } }
    ∧ t.journal = { s.journal with
        scanMs := if s.journal.state = .scanning then s.journal.scanMs + 1 else s.journal.scanMs }
    ∧ t.link = { s.link with gapMs := if s.link.receiver = .hunt then s.link.gapMs else s.link.gapMs + 1 }

/-! ### The decision in AUTO -/

/-- The air flow of the blower and the filter as they stand (R6, R36). -/
def flowByRules (s : State) : Int :=
  if s.blower.fault then 0
  else ((([0, 60, 100, 140, 180, 230, 280, 340] : List Nat).getD s.blower.level 340 : Nat) : Int) * derateByRules s.filter / 1000

/-- The exchange coefficient k of that flow (R7, R36). -/
def exchangeByRules (s : State) : Int := flowByRules s * 65536000 / (3600 * s.est.cabin.volume)

/-- The candidate f is admissible: 0 by the present estimates (R38), any other by the steady-state values (R37). -/
def Admissible (s : State) (f : Int) : Prop :=
  if f = 0 then
    s.est.eco + (s.est.cabin.occupants * 80000 / s.est.cabin.volume : Int) * s.policy.limits.recircDwell
        ≤ (s.policy.limits.co2Limit : Int) * 16
      ∧ (s.policy.limits.fogMin : Int) ≤ satByRules (s.usable .stm)
          - (s.est.eah + (s.est.cabin.occupants * 11110 / s.est.cabin.volume : Int) * s.policy.limits.recircDwell)
  else
    exchangeByRules s ≠ 0
      ∧ (s.est.cabin.co2Reference : Int) * 16
          + (s.est.cabin.occupants * 80000 / s.est.cabin.volume : Int) * 65536000 / (exchangeByRules s * f)
          ≤ (s.policy.limits.co2Limit : Int) * 16
      ∧ (s.policy.limits.fogMin : Int) ≤ satByRules (s.usable .stm)
          - (outsideAhByRules s
            + (s.est.cabin.occupants * 11110 / s.est.cabin.volume : Int) * 65536000 / (exchangeByRules s * f))

/-- f is the lowest admissible candidate of the list. -/
def LowestAdmissible (s : State) (candidates : List Int) (f : Int) : Prop :=
  f ∈ candidates ∧ Admissible s f ∧ ∀ g ∈ candidates, g < f → ¬Admissible s g

/-- The open-air test: clean outside samples of two channels in LIVE or STALE, no open episode, and no street canyon, which three
records that start within the last 300 s make (R42 base 4, R46). -/
def OpenAir (s : State) : Prop :=
  s.usable .opm ≤ s.policy.limits.cleanPm ∧ s.usable .ogs ≤ s.policy.limits.cleanGas
    ∧ (s.channels.opm.state = .live ∨ s.channels.opm.state = .stale)
    ∧ (s.channels.ogs.state = .live ∨ s.channels.ogs.state = .stale)
    ∧ s.tracker.pm.openEpisode = none ∧ s.tracker.gas.openEpisode = none
    ∧ (s.tracker.table.filter fun e => decide ((s.uptime : Int) - 300 ≤ e.start)).length < 3

/-- From s to t a decision has found the target f on a basis that is subject to the change dwell: f is applied when it is the target
already or the dwell has passed since the last change, else the target stays and the held flag is set (R42, R43). -/
def DwelledTo (f : Int) (b : Basis) (s t : State) : Prop :=
  t.policy.basis = b
    ∧ (f = s.policy.target ∨ (∀ c, s.policy.lastChange = some c →
        (s.policy.limits.changeDwell : Int) ≤ (s.uptime : Int) - c) →
        t.policy.target = f ∧ t.policy.held = false)
    ∧ (∀ c, s.policy.lastChange = some c → f ≠ s.policy.target →
        (s.uptime : Int) - c < s.policy.limits.changeDwell → t.policy.target = s.policy.target ∧ t.policy.held = true)

/-! ### Moves of the flap -/

/-- From f, at its set point, to g a drive toward the target has started, its duration the share of the travel time rounded up
(R120). -/
def DriveStarted (f g : Flap) : Prop :=
  ∃ d : TimedDrive, g.driveInFlight = some d
    ∧ g = { f with state := .moving, towardFresh := decide (f.setPoint < f.target),
                   towardRecirc := decide (f.target < f.setPoint), driveInFlight := some d }
    ∧ d.start = f.setPoint ∧ d.destination = f.target ∧ d.elapsed = 0
    ∧ |f.target - f.setPoint| * f.travelTime ≤ d.duration * 1000
    ∧ (d.duration : Int) * 1000 < |f.target - f.setPoint| * f.travelTime + 1000

/-- From f, which stands in IDLE, to g a due move has started by the drive mode's rule (R117, R119, R120, R122). -/
def MoveStarted (f g : Flap) : Prop :=
  match f.mode with
  | .tracked =>
    g = if f.ready = true then
        { f with state := .moving, demand := f.target, setPoint := f.target, readyFallen := false,
                 moveTimer := some { elapsed := 0, limit := f.moveTimeout } }
      else { f with state := .waitReady, moveTimer := some { elapsed := 0, limit := f.moveTimeout } }
  | .edge =>
    g = { f with state := .moving, demand := f.target, setPoint := f.target, readyFallen := false,
                 moveTimer := some { elapsed := 0, limit := f.moveTimeout } }
  | .timed => DriveStarted f g
  | .direct => g = { f with demand := f.target, setPoint := f.target }

/-- From f, which has just entered IDLE, to g: the move that is due starts; with INHIBIT asserted or the target at the set point none
is due (R115). -/
def MoveFollows (f g : Flap) : Prop :=
  (f.inhibit = true ∨ f.target = f.setPoint → g = f)
    ∧ (f.inhibit = false → f.target ≠ f.setPoint → MoveStarted f g)

/-- From f to g the air policy has handed the target x to the flap. In IDLE the move that is due starts; a wait for READY ends where x is
the set point; a move in flight goes on in TRACKED and under INHIBIT, is issued anew in EDGE, and in TIMED is halted where it stands
and starts from there, or ends there; in HOMING, FAULT and DISABLED the target is stored alone (R115, R118, R119, R121). -/
def TargetHanded (x : Int) (f g : Flap) : Prop :=
  (f.state = .idle → MoveFollows { f with target := x } g)
    ∧ (f.state = .waitReady →
        g = if x = f.setPoint then { f with target := x, state := .idle, moveTimer := none } else { f with target := x })
    ∧ (f.state = .moving → f.inhibit = true ∨ f.mode = .tracked → g = { f with target := x })
    ∧ (f.state = .moving → f.inhibit = false → f.mode = .edge →
        g = { f with target := x, demand := x, setPoint := x, readyFallen := false,
                     moveTimer := some { elapsed := 0, limit := f.moveTimeout } })
    ∧ (∀ d, f.state = .moving → f.inhibit = false → f.mode = .timed → f.driveInFlight = some d →
        (x = reachedByRules d →
          g = { f with target := x, setPoint := x, state := .idle, moveTimer := none, towardFresh := false,
                       towardRecirc := false, driveInFlight := none })
        ∧ (x ≠ reachedByRules d → DriveStarted { f with target := x, setPoint := reachedByRules d } g))
    ∧ (f.state = .homing ∨ f.state = .fault ∨ f.state = .disabled → g = { f with target := x })

/-- The flap as a successful homing leaves it on its entry to IDLE: at 1000, its lines off, its timer stopped, the failure count 0
(R128). -/
def Flap.homed (f : Flap) : Flap :=
  { f with state := .idle, setPoint := 1000, failCount := 0, moveTimer := none, homingWaiting := false,
           towardFresh := false, towardRecirc := false, driveInFlight := none }

/-! ### A full decision and what runs one -/

/-- From u to t the target stands, with the last change and the flap, or it is a new one, recorded at this uptime and handed to the
flap; a TIMED move that ends where it stands raises MOVE-DONE (R30, R121). -/
def TargetFollows (u t : State) : Prop :=
  (t.policy.target = u.policy.target → t.policy.lastChange = u.policy.lastChange ∧ t.flap = u.flap)
    ∧ (t.policy.target ≠ u.policy.target →
        t.policy.lastChange = some u.uptime ∧ TargetHanded t.policy.target u.flap t.flap
          ∧ ∀ d, u.flap.state = .moving → u.flap.inhibit = false → u.flap.mode = .timed → u.flap.driveInFlight = some d →
              t.policy.target = reachedByRules d → ∃ p ∈ t.notices.pending, p.notice = .moveDone t.policy.target)

/-- What a full decision that reads the state u leaves in t: none runs while PARKED; else the fog test comes first, then in AUTO the
six bases in order, FOG-OVERRIDE, CEILING, PLUME-HOLD, OPEN-AIR, VENTILATE and VENT-LIMITED, the last three subject to the change
dwell, and in a fixed mode its target; the blower demand follows (R30, R32, R36 to R40, R42 to R44, R46, R53, R54). -/
def Decided (u t : State) : Prop :=
  (t.policy.mode = u.policy.mode ∧ t.policy.hold = u.policy.hold ∧ t.policy.ceilingFlag = u.policy.ceilingFlag
      ∧ t.policy.limits = u.policy.limits ∧ t.policy.comfort = u.policy.comfort)
    ∧ (u.drive.vehicle = .parked →
        t.policy.target = u.policy.target ∧ t.policy.basis = u.policy.basis ∧ t.policy.held = u.policy.held
          ∧ t.policy.fogFlag = u.policy.fogFlag ∧ t.policy.lastChange = u.policy.lastChange ∧ t.flap = u.flap)
    ∧ (u.drive.vehicle ≠ .parked →
        (t.policy.fogFlag = true ↔ u.est.fogMargin < (u.policy.limits.fogMin / 2 : Nat))
        ∧ (t.policy.fogFlag = true → u.policy.fogFlag = false → ∃ p ∈ t.notices.pending, p.notice = .fogAlert u.est.fogMargin)
        ∧ (u.policy.mode = .auto → t.policy.fogFlag = true →
            t.policy.target = 1000 ∧ t.policy.basis = .fogOverride ∧ t.policy.held = false)
        ∧ (u.policy.mode = .auto → t.policy.fogFlag = false → u.policy.ceilingFlag = true →
            t.policy.basis = .ceiling ∧ t.policy.held = false
              ∧ (∀ f, LowestAdmissible u [500, 750, 1000] f → t.policy.target = f)
              ∧ ((∀ f ∈ ([500, 750, 1000] : List Int), ¬Admissible u f) → t.policy.target = 1000))
        ∧ (u.policy.mode = .auto → t.policy.fogFlag = false → u.policy.ceilingFlag = false →
            u.policy.hold = .holding ∨ u.policy.hold = .trailing →
            t.policy.target = 0 ∧ t.policy.basis = .plumeHold ∧ t.policy.held = false)
        ∧ (u.policy.mode = .auto → t.policy.fogFlag = false → u.policy.ceilingFlag = false →
            u.policy.hold = .idle ∨ u.policy.hold = .lapsed →
            (OpenAir u → DwelledTo 1000 .openAir u t)
              ∧ (¬OpenAir u → ∀ f, LowestAdmissible u [0, 125, 250, 500, 750, 1000] f → DwelledTo f .ventilate u t)
              ∧ (¬OpenAir u → (∀ f ∈ ([0, 125, 250, 500, 750, 1000] : List Int), ¬Admissible u f) →
                  DwelledTo 1000 .ventLimited u t
                    ∧ (u.policy.basis ≠ .ventLimited → ∃ p ∈ t.notices.pending, p.notice = .ventLimited)))
        ∧ (u.policy.mode = .fresh → t.policy.target = 1000 ∧ t.policy.basis = .modeFresh ∧ t.policy.held = false)
        ∧ (u.policy.mode = .recirc → u.policy.ceilingFlag = false →
            t.policy.target = 0 ∧ t.policy.basis = .modeRecirc ∧ t.policy.held = false)
        ∧ (u.policy.mode = .recirc → u.policy.ceilingFlag = true →
            t.policy.target = 500 ∧ t.policy.basis = .ceiling ∧ t.policy.held = false)
        ∧ (u.policy.mode = .defrost → t.policy.target = 1000 ∧ t.policy.basis = .modeDefrost ∧ t.policy.held = false)
        ∧ TargetFollows u t
        ∧ t.policy.demand = demandByTable false t.policy.purging t.policy.mode t.policy.basis t.policy.comfort)

/-- What a decision inside the event from s to t reads: the inputs as the event leaves them, with this policy, and the flap and the
blower as they stood before. -/
def decisionReads (p : Policy) (s t : State) : State := { t with policy := p, flap := s.flap, blower := s.blower }

/-- The blower b once the demand n has been handed to it: the applied level is n, and a level that rises from 0 while the stall input
stands asserted has put the blower in FAULT (R132, R133). -/
def blowerHanded (n : Nat) (b : Blower) : Blower :=
  { b with level := n, fault := b.fault || decide (b.level = 0 ∧ 0 < n ∧ b.stall = true) }

/-- The blower b that a decision inside an event of the doors may read: as it stood, or as the purge machine's demand has handed it on,
once or at the start of a purge and again at its end (R50, R52, R54, R132). -/
def PurgeHanded (s : State) (b : Blower) : Prop :=
  ∀ due : Bool → Nat, (∀ p, due p = demandByTable (decide (s.drive.vehicle = .parked)) p s.policy.mode s.policy.basis s.policy.comfort) →
    b = s.blower ∨ (∃ p, b = blowerHanded (due p) s.blower)
      ∨ b = blowerHanded (due false) (blowerHanded (due true) s.blower)

/-- The state with the blower as the handing of this demand leaves it. -/
def atLevel (n : Nat) (s : State) : State := { s with blower := blowerHanded n s.blower }

/-- From s to t the blower has followed the demand, and where its level has risen from 0 under a stall, BLOWER-FAULT is pending
(R54, R132, R133). -/
def BlowerFollows (s t : State) : Prop :=
  t.blower = blowerHanded t.policy.demand s.blower
    ∧ (s.blower.fault = false → t.blower.fault = true → ∃ p ∈ t.notices.pending, p.notice = .blowerFault)

/-- From s to t the policy, the interval channels, the flap and the blower stand. -/
def PolicyStands (s t : State) : Prop :=
  t.policy = s.policy ∧ t.timers = s.timers ∧ t.flap = s.flap ∧ t.blower = s.blower

/-- From s to t the hold machine has moved to h, with HOLD as given, and a full decision has run in the same event (R47 to R49). -/
def HoldMoved (h : HoldState) (timer : Option Nat) (s t : State) : Prop :=
  t.timers = { s.timers with hold := timer } ∧ Decided (decisionReads { s.policy with hold := h } s t) t

/-- From s to t the hold machine has taken an opening (R47). -/
def HoldTookOpening (s t : State) : Prop :=
  match s.policy.hold with
  | .idle | .trailing => HoldMoved .holding (some (s.policy.limits.holdMax * 1000)) s t
  | .holding | .lapsed => PolicyStands s t

/-- From s to t the hold machine has taken a closing of detector d, the other detector's episode open or not (R47, R69). -/
def HoldTookClosing (d : DetectorId) (s t : State) : Prop :=
  (∀ d', d' ≠ d → (s.tracker.detector d').openEpisode.isSome = true → PolicyStands s t)
    ∧ ((∀ d', d' ≠ d → (s.tracker.detector d').openEpisode = none) →
        match s.policy.hold with
        | .holding =>
          if s.policy.limits.releaseDelay = 0 then HoldMoved .idle none s t
          else HoldMoved .trailing (some (s.policy.limits.releaseDelay * 1000)) s t
        | .lapsed => HoldMoved .idle s.timers.hold s t
        | .idle | .trailing => PolicyStands s t)

/-! ### The episode table -/

/-- kept is the table with room for one more record: the table itself, or, where it is full, the table without its oldest CLOSED
record, the one nearest the head (R62). -/
def RoomMade (table kept : List Episode) : Prop :=
  if table.length < 16 then kept = table
  else ∀ pre e post, table = pre ++ e :: post → (∀ p ∈ pre, p.ending = none) → e.ending.isSome = true → kept = pre ++ post

/-- The table is pre, then e, then post, and e is the OPEN record of detector d (R57, R60). -/
def OpenRecordAt (d : DetectorId) (pre : List Episode) (e : Episode) (post : List Episode) (table : List Episode) : Prop :=
  table = pre ++ e :: post ∧ e.source = d ∧ e.ending = none ∧ ∀ p ∈ pre, p.source = d → p.ending.isSome = true

/-- A record after a sample x of its episode over the frozen baseline b (R59, R66, steps 1 and 2). -/
def recordSampled (x b : Int) (e : Episode) : Episode :=
  { e with peak := max e.peak x, dose := min 4294967295 (e.dose + (x * 16 - b).toNat) }

/-- The release count after a sample x of an open episode over the frozen baseline b (R66, step 3). -/
def releaseByRules (r : DetectorRecord) (x b : Int) : Nat := if x * 16 ≤ b + r.settings.jump * 8 then r.release + 1 else 0

/-- From s to t the open episode of detector d, whose record stood as e between pre and post, has closed with this cause: the record
is CLOSED at this uptime, the detector QUIET with its release count 0, and the hold machine has taken the closing (R67 to R69). -/
def EpisodeClosed (d : DetectorId) (cause : EndCause) (pre : List Episode) (e : Episode) (post : List Episode)
    (s t : State) : Prop :=
  t.tracker.table = pre ++ { e with ending := some ⟨s.uptime, cause⟩ } :: post
    ∧ (t.tracker.detector d).openEpisode = none ∧ (t.tracker.detector d).release = 0
    ∧ (t.tracker.detector d).settings = (s.tracker.detector d).settings ∧ HoldTookClosing d s t

/-- From s to t the channel of detector d has entered LOST: its baseline is unset, and its open episode, if it has one, has closed with
CHANNEL-LOST, which the hold machine takes; the other detector stands (R47, R68, R69). -/
def LossClosed (d : DetectorId) (s t : State) : Prop :=
  (t.tracker.detector d).baseline = none ∧ (t.tracker.detector d).openEpisode = none
    ∧ (∀ d', d' ≠ d → t.tracker.detector d' = s.tracker.detector d')
    ∧ t.tracker.nextNumber = s.tracker.nextNumber
    ∧ ((s.tracker.detector d).openEpisode = none → t.tracker.table = s.tracker.table ∧ PolicyStands s t)
    ∧ ∀ pre e post, OpenRecordAt d pre e post s.tracker.table → (s.tracker.detector d).openEpisode.isSome = true →
        EpisodeClosed d .channelLost pre e post s t

/-! ### The journal's writes -/

/-- From f to g an erase of sector c, cut or failed, has left these outcomes: a slot is DAMAGED, ERASED or untouched, one the list does not
reach being untouched, and every other sector stands (R159, R168). -/
def EraseLeft (c : Nat) (left : List SlotOutcome) (f g : Flash) : Prop :=
  (∀ a, a / 16 ≠ c → g.read a = f.read a)
    ∧ ∀ i, i < 16 →
        (left[i]? = some .damaged → g.read (16 * c + i) = .damaged)
        ∧ (left[i]? = some .complete → g.read (16 * c + i) = .erased)
        ∧ (left[i]? = some .untouched ∨ left[i]? = none → g.read (16 * c + i) = f.read (16 * c + i))

/-- The slot x holds the record of the write w with this sequence: 64 bytes, two of 0xFF behind the fields, the CRC of the first 62 in the
last two; with a sequence a record may carry the slot is VALID (R153, R154). -/
def HoldsRecord (w : WriteInFlight) (n : Nat) (x : Slot) : Prop :=
  ∃ r, x = .record r ∧ r.sequence = n ∧ r.kind = w.kind ∧ r.content = w.snapshot
    ∧ r.bytes.length = 64 ∧ (r.bytes.drop 60).take 2 = [0xFF#8, 0xFF#8]
    ∧ r.bytes.drop 62 = bytes16 (crc16 (r.bytes.take 62))
    ∧ (0 < n → n < 4294967295 → x.valid? = some r)

/-- From f to g a program of slot i of sector k, cut, failed or passed, has left this outcome: the slot is DAMAGED, as it was, or holds the
record, and every other slot stands (R160, R161, R168). -/
def ProgramLeft (w : WriteInFlight) (k i n : Nat) (left : SlotOutcome) (f g : Flash) : Prop :=
  (∀ a, a ≠ 16 * k + i → g.read a = f.read a)
    ∧ (left = .damaged → g.read (16 * k + i) = .damaged)
    ∧ (left = .untouched → g.read (16 * k + i) = f.read (16 * k + i))
    ∧ (left = .complete → HoldsRecord w n (g.read (16 * k + i)))

/-- j stands in FAILED in t: the write in flight and the pending write are gone, no RESTART waits, and JOURNAL-FAIL is pending (R163). -/
def JournalFailed (j : Journal) (t : State) : Prop :=
  t.journal = { j with state := .failed, write := none, pendingWrite := none, restartWaiting := false }
    ∧ ∃ p ∈ t.notices.pending, p.notice = .journalFail

/-- What the entry to FAILED releases, from s to t, where a write owed a PARK reply or none did: that reply, or the RESTART that waits, both
DONE and built with the event's link status; with neither the link port stands (R163, R196, R197, R198; that JOURNAL-FAIL is pending
already in that status is deduced, log 17). -/
def FailureReleases (parkOwed : Bool) (s t : State) : Prop :=
  (parkOwed = false → s.journal.restartWaiting = false → t.link = s.link)
    ∧ (parkOwed = true → s.journal.restartWaiting = false → t.link = { s.link with
        sending := some (replyByRules 0x97#8 [0#8, statusOf s t]), holding := false, dropped := false, badFrame := false })
    ∧ (parkOwed = false → s.journal.restartWaiting = true → t.link = { s.link with
        sending := some (replyByRules 0x99#8 [0#8, statusOf s t]), holding := false, dropped := false, badFrame := false })

/-- A write in flight that owes a PARK reply itself, or with the write that waits behind it (R163). -/
def owesPark (w : WriteInFlight) (j : Journal) : Bool := w.parkOwed || (j.pendingWrite.map (·.parkOwed)).getD false

/-- A switch may erase sector k: it is neither retired, nor the active sector, nor that of the newest record (R158, step 2). -/
def MayErase (j : Journal) (k : Nat) : Prop :=
  k < 8 ∧ k ∉ j.retired ∧ j.activeSector ≠ some k ∧ ∀ n, j.newest = some n → n.sector ≠ k

/-- k is the first sector in ring order from `first` on that a switch may erase (R153, R158, step 2). -/
def NextSector (j : Journal) (first k : Nat) : Prop :=
  ∃ i, i < 8 ∧ k = (first + i) % 8 ∧ MayErase j k ∧ ∀ i', i' < i → ¬MayErase j ((first + i') % 8)

/-- The erase target of a switch has been chosen, in ring order from `first` on, and its erase is in flight; where no sector may be erased
the journal has failed (R158, steps 2 and 3, R163). -/
def SectorChosen (put : WritePhase → WriteInFlight) (first : Nat) (j : Journal) (t : State) : Prop :=
  (∀ k, NextSector j first k → t.journal = { j with write := some (put (.erasing k)) })
    ∧ ((∀ k, ¬MayErase j k) → JournalFailed j t)

/-- The retired list after step 1 of a switch: the active sector has joined it where it has failed twice or more (R158). -/
def retiredBySwitch (j : Journal) : List Nat :=
  match j.activeSector with
  | some a => if a ∉ j.retired ∧ 2 ≤ j.failCounts.get a then j.retired ++ [a] else j.retired
  | none => j.retired

/-- Slot i of sector a is one from the write position upward that reads ERASED (R157). -/
def ErasedFrom (j : Journal) (flash : Flash) (a i : Nat) : Prop :=
  i < 16 ∧ j.writePosition ≤ i ∧ flash.read (16 * a + i) = .erased

/-- From the journal j a write has looked for its target over the flash of t: the first ERASED slot of the active sector takes it, with the
next sequence; with none the switch retires the active sector or not and chooses the next. The journal has failed where a retirement leaves
fewer than two sectors, where no sector may be erased, and where the sequence has come to its end (R157, R158, R161, R163). -/
def TargetSought (put : WritePhase → WriteInFlight) (j : Journal) (t : State) : Prop :=
  (∀ a i, j.activeSector = some a → ErasedFrom j t.flash a i → (∀ i', i' < i → ¬ErasedFrom j t.flash a i') →
      (j.nextSequence ≠ 4294967295 → t.journal = { j with
          write := some (put (.programming a i j.nextSequence)), nextSequence := j.nextSequence + 1 })
        ∧ (j.nextSequence = 4294967295 → JournalFailed j t))
    ∧ ((∀ a, j.activeSector = some a → ∀ i, ¬ErasedFrom j t.flash a i) → ∀ r, r = retiredBySwitch j →
        (r ≠ j.retired → 6 < r.length → JournalFailed { j with retired := r } t)
          ∧ (r = j.retired ∨ r.length ≤ 6 →
              SectorChosen put ((j.activeSector.map (· + 1)).getD 0) { j with retired := r } t))

/-- A fresh write of this kind, its snapshot the filter record and the tally of t (R157). -/
def freshWrite (kind : RecordKind) (parkOwed : Bool) (t : State) (phase : WritePhase) : WriteInFlight :=
  { kind := kind, snapshot := { filter := t.filter, tally := t.tally }, parkOwed := parkOwed, phase := phase }

/-- From s to t the journal has taken the trigger of a CKPT expiry: in READY a write starts or joins the pending one, outside READY and once
a RESTART has been released it is dropped (R156, R157, R163, R169; that it is dropped in SCANNING and after the release is deduced,
log 14). -/
def CheckpointTaken (s t : State) : Prop :=
  (s.journal.state ≠ .ready ∨ (s.link.sending.isSome = true ∧ s.link.queue.head? = some .restart) →
      t.journal = s.journal ∧ t.link = s.link)
    ∧ (s.journal.state = .ready → s.link.sending = none ∨ s.link.queue.head? ≠ some .restart →
        (∀ w, s.journal.write = some w →
          t.link = s.link ∧ t.journal = { s.journal with pendingWrite := some {
            kind := if s.journal.pendingWrite.map (·.kind) = some .fit then .fit else .checkpoint,
            parkOwed := (s.journal.pendingWrite.map (·.parkOwed)).getD false } })
        ∧ (s.journal.write = none → JournalQuiet s.journal →
            t.link = s.link ∧ TargetSought (freshWrite .checkpoint false t) s.journal t))

/-! ### The purge machine -/

/-- From s to t a door-open event has reached the purge machine, the other door open already or not (R50, R52). -/
def PurgeTookOpening (otherOpen : Bool) (s t : State) : Prop :=
  t.policy.purging = false ∧ t.policy.openSince = (if otherOpen then s.policy.openSince else some s.uptime)
    ∧ t.timers = { s.timers with purge := if s.policy.purging then none else s.timers.purge }

/-- A closing that leaves no door open starts a purge (R50). -/
def PurgeDue (s : State) : Prop :=
  s.policy.purging = false ∧ (∃ o, s.policy.openSince = some o ∧ (5 : Int) ≤ (s.uptime : Int) - o)
    ∧ s.policy.limits.purgeTime ≠ 0 ∧ s.drive.vehicle ≠ .parked

/-- From s to t a door-closed event has reached the purge machine, the other door still open or not (R50). -/
def PurgeTookClosing (otherOpen : Bool) (s t : State) : Prop :=
  (otherOpen = true →
      t.policy.purging = s.policy.purging ∧ t.policy.openSince = s.policy.openSince ∧ t.timers = s.timers)
    ∧ (otherOpen = false →
        t.policy.openSince = none
          ∧ (PurgeDue s → t.policy.purging = true
              ∧ t.timers = { s.timers with purge := some (s.policy.limits.purgeTime * 1000) })
          ∧ (¬PurgeDue s → t.policy.purging = s.policy.purging ∧ t.timers = s.timers))

/-- From s to t this door has taken its state, and the purge machine has taken the event where the state has changed (R95). -/
def PurgeTookDoor (door : Door) (s t : State) : Prop :=
  ∀ other, other ≠ door →
    ((s.drive.door door).isOpen = false → (t.drive.door door).isOpen = true →
        PurgeTookOpening (s.drive.door other).isOpen s t)
      ∧ ((s.drive.door door).isOpen = true → (t.drive.door door).isOpen = false →
          PurgeTookClosing (s.drive.door other).isOpen s t)

/-! ### Raisings -/

/-- m is the detail after a raising carries `carried` to a kind that holds `stored`: of a set the union, no member twice, else what was
carried (R182). -/
def Merged (stored carried m : Notice) : Prop :=
  match stored, carried with
  | .sensorLost a, .sensorLost b => ∃ l, m = .sensorLost l ∧ l.Nodup ∧ ∀ c, c ∈ l ↔ c ∈ a ∨ c ∈ b
  | .watch a, .watch b => ∃ l, m = .watch l ∧ l.Nodup ∧ ∀ n, n ∈ l ↔ n ∈ a ∨ n ∈ b
  | .condition a, .condition b => ∃ l, m = .condition l ∧ l.Nodup ∧ ∀ k, k ∈ l ↔ k ∈ a ∨ k ∈ b
  | _, _ => m = carried

/-- The four detail bytes from this offset on are those of the notice: a number high byte first, a signed one in two's complement, a set
by its members' bits, none as 0 (R181, R191, R199); an enumeration stands in the low byte, and the third byte of PLUME-OPEN is left
open (log 30). -/
def DetailAt (body : List Byte) (offset : Nat) : Notice → Prop
  | .flapFault c => fieldAt body offset 4 = c.code
  | .filter d => fieldAt body offset 4 = d.code
  | .blowerFault | .journalFail | .ventLimited => fieldAt body offset 4 = 0
  | .co2Ceiling x | .fogAlert x | .moveDone x => fieldAt body offset 4 = (x % 2 ^ 32).toNat
  | .plumeOpen n d => fieldAt body offset 2 = n % 2 ^ 16 ∧ fieldAt body (offset + 3) 1 = d.code
  | .plumeLong n => fieldAt body offset 4 = n % 2 ^ 32
  | .sensorLost l => ∀ c : Channel, (fieldAt body offset 4).testBit c.code = decide (c ∈ l)
  | .watch l => ∀ n : SlotNumber, (fieldAt body offset 4).testBit (n.toNat - 1) = decide (n ∈ l)
  | .condition l => ∀ k : ConditionKind, (fieldAt body offset 4).testBit k.code = decide (k ∈ l)

/-! ### Codes -/

/-- Each value's code is its place in the list, from 0. -/
def NumberedFrom0 {α : Type} (code : α → Nat) (values : List α) : Prop := values.map code = List.range values.length

/-- The codes are numbered from 0 in the order in which the spec lists the values, those of an optional field after 0 for none
(R75, R191, R199, section 11.6); a notice kind's priority is its place in R181's list, from 1. -/
def CodesAsListed : Prop :=
  NumberedFrom0 Channel.code [.opm, .ogs, .cpm, .cco, .crh, .ctm, .orh, .otm, .stm, .fpos]
    ∧ NumberedFrom0 Quantity.code
        ([.opm, .ogs, .cpm, .cco, .crh, .ctm, .orh, .otm, .stm, .fpos].map .channel ++ [.epm, .egs, .eco, .eah, .fog, .speed])
    ∧ NumberedFrom0 qualityCode [none, some .good, some .warming, some .fault]
    ∧ NumberedFrom0 ChannelState.code [.none, .live, .stale, .lost]
    ∧ NumberedFrom0 PolicyMode.code [.auto, .fresh, .recirc, .defrost]
    ∧ NumberedFrom0 Basis.code [.start, .fogOverride, .ceiling, .plumeHold, .openAir, .ventilate, .ventLimited, .modeFresh,
        .modeRecirc, .modeDefrost, .parked]
    ∧ NumberedFrom0 HoldState.code [.idle, .holding, .trailing, .lapsed]
    ∧ NumberedFrom0 DetectorId.code [.pm, .gas]
    ∧ (endCauseCode none = 0 ∧ ∀ time, NumberedFrom0 (fun c => endCauseCode (some ⟨time, c⟩) - 1) [.released, .limit, .channelLost]
        ∧ ∀ c, endCauseCode (some ⟨time, c⟩) ≠ 0)
    ∧ NumberedFrom0 VehicleState.code [.moving, .halted, .atStop, .parked]
    ∧ NumberedFrom0 Freshness.code [.none, .fresh, .stale, .silent]
    ∧ NumberedFrom0 engineCode [none, some .run, some .stop]
    ∧ NumberedFrom0 DriveMode.code [.tracked, .edge, .timed, .direct]
    ∧ NumberedFrom0 FlapState.code [.idle, .waitReady, .moving, .homing, .fault, .disabled]
    ∧ NumberedFrom0 FilterKind.code [.none, .particle, .combined]
    ∧ NumberedFrom0 FilterState.code [.none, .inService, .worn, .spent]
    ∧ NumberedFrom0 (fun o => (o.map RecordKind.code).getD 0) [none, some .checkpoint, some .fit, some .park]
    ∧ (phaseCode none = 0 ∧ (∀ k x o c, phaseCode (some ⟨k, x, o, .erasing c⟩) = 1)
        ∧ ∀ k x o c i n, phaseCode (some ⟨k, x, o, .programming c i n⟩) = 2)
    ∧ NumberedFrom0 WatchKind.code [.above, .below, .crossUp, .crossDown]
    ∧ NumberedFrom0 WatchScope.code [.off, .stop, .always]
    ∧ NumberedFrom0 ConditionKind.code [.inputClamped, .estimateSaturated, .substituted, .diverged, .zeroFlow, .tableClamped]
    ∧ NumberedFrom0 FlapCause.code [.timeout, .line, .disabled]
    ∧ NumberedFrom0 FilterNotice.code [.worn, .spent, .suspect]
    ∧ NumberedFrom0 ResetKind.code [.powerOn, .restart]
    ∧ NumberedFrom0 (fun k : NoticeKind => k.priority - 1) [.flapFault, .blowerFault, .co2Ceiling, .fogAlert, .journalFail,
        .plumeOpen, .plumeLong, .ventLimited, .sensorLost, .filter, .watch, .condition, .moveDone]

/-! ### What every step keeps -/

/-- Every estimate lies in its range (R17). -/
def EstimatesInRange (s : State) : Prop :=
  (0 ≤ s.est.epm ∧ s.est.epm ≤ 16000) ∧ (0 ≤ s.est.egs ∧ s.est.egs ≤ 32000)
    ∧ (4800 ≤ s.est.eco ∧ s.est.eco ≤ 80000) ∧ (0 ≤ s.est.eah ∧ s.est.eah ≤ 65500)

/-- The target is one of the six candidates (R30). -/
def TargetIsCandidate (s : State) : Prop := s.policy.target ∈ ([0, 125, 250, 500, 750, 1000] : List Int)

/-- In RECIRC the target is 0, or 500 or 1000 where the ceiling, the fog or PARK has put it, and PARKED holds it at 1000 (R32, R33,
R45). -/
def RecircTarget (s : State) : Prop :=
  (s.policy.mode = .recirc → s.policy.target = 0 ∨ s.policy.target = 500 ∨ s.policy.target = 1000)
    ∧ (s.drive.vehicle = .parked → s.policy.target = 1000)

/-- The demand is the one R53 gives, the applied level is the demand (R132), and the comfort level is 0..7 (R35). -/
def DemandIsDue (s : State) : Prop :=
  s.policy.demand
      = demandByTable (decide (s.drive.vehicle = .parked)) s.policy.purging s.policy.mode s.policy.basis s.policy.comfort
    ∧ s.blower.level = s.policy.demand ∧ s.policy.comfort ≤ 7

/-- EST, DEC and CKPT are STOPPED exactly while PARKED (R102, R103); HOLD runs exactly in HOLDING and TRAILING (R47, R48);
PURGE runs exactly while PURGING, which PARKED excludes (R50, R51, R33). -/
def TimersFollow (s : State) : Prop :=
  (s.timers.est = none ↔ s.drive.vehicle = .parked) ∧ (s.timers.dec = none ↔ s.drive.vehicle = .parked)
    ∧ (s.timers.ckpt = none ↔ s.drive.vehicle = .parked)
    ∧ (s.timers.hold.isSome = true ↔ s.policy.hold = .holding ∨ s.policy.hold = .trailing)
    ∧ (s.timers.purge.isSome = true ↔ s.policy.purging = true)
    ∧ (s.policy.purging = true → s.drive.vehicle ≠ .parked)

/-- A channel record's values lie in their ranges, and its age is absent exactly in NONE (R75, R76). -/
def ChannelRecord.Sound (c : Channel) (r : ChannelRecord) : Prop :=
  (c.range.1 ≤ r.lastValue ∧ r.lastValue ≤ c.range.2)
    ∧ (∀ x, r.substitute = some x → c.range.1 ≤ x ∧ x ≤ c.range.2)
    ∧ (r.substitute = none ↔ c = .fpos)
    ∧ 1 ≤ r.staleTime ∧ r.staleTime ≤ 60 ∧ r.staleTime ≤ r.lostTime ∧ r.lostTime ≤ 600
    ∧ (r.ageMs = none ↔ r.state = .none)

/-- Every channel's record is sound (R75, R76). -/
def ChannelsSound (s : State) : Prop := ∀ c : Channel, (s.channels.get c).Sound c

/-- The table holds at most 16 records, one OPEN record at most per detector, that record is the detector's open episode, and no later
record is the same detector's (R57, R60). -/
def EpisodesSound (s : State) : Prop :=
  s.tracker.table.length ≤ 16
    ∧ s.tracker.table.Pairwise (fun e q => e.ending = none → q.source ≠ e.source)
    ∧ ∀ d : DetectorId, (s.tracker.table.filter fun e => decide (e.source = d) && e.ending.isNone).map (·.number)
        = (s.tracker.detector d).openEpisode.toList

/-- Pending notices stand by rising priority number, one per kind at most (R181), and the attention line is asserted exactly
when an unmasked notice is pending (R184). -/
def NoticesSound (s : State) : Prop :=
  s.notices.pending.Pairwise (fun a b => a.notice.kind.priority < b.notice.kind.priority)
    ∧ (s.notices.attention = true ↔ ∃ p ∈ s.notices.pending, p.notice.kind ∉ s.notices.masked)

/-- A reply going out is framed as R191 has it: at most 64 payload bytes, LEN their number, the CRC over LEN, KIND and the payload, the
bytes on the line SYNC, LEN, KIND, the payload and the CRC high byte first. -/
def ReplyFramed (s : State) : Prop :=
  ∀ r, s.link.sending = some r →
    r.payload.length ≤ 64 ∧ r.len.toNat = r.payload.length ∧ r.crc = crc16 (r.len :: r.kind :: r.payload)
      ∧ r.frame = [0xA5#8, r.len, r.kind] ++ r.payload ++ [r.crc.extractLsb' 8 8, r.crc.extractLsb' 0 8]

/-- What the write in flight is at: an erase of a sector that is neither the active one, nor the newest record's, nor retired
(R158), or a program of a slot that reads ERASED with a sequence a VALID record may carry (R153, R154, R157). -/
def WritePhase.Sound (j : Journal) (flash : Flash) : WritePhase → Prop
  | .erasing c =>
    c < 8 ∧ c ∉ j.retired ∧ j.activeSector ≠ some c ∧ ∀ n, j.newest = some n → n.sector ≠ c
  | .programming k i n =>
    k < 8 ∧ i < 16 ∧ j.activeSector = some k ∧ flash.read (16 * k + i) = .erased ∧ 0 < n ∧ n < 4294967295

/-- The newest record the journal knows of stands in the flash as a VALID record, in a slot of its sector, with its sequence and
kind (R153, R155). -/
def NewestReadable (j : Journal) (flash : Flash) : Prop :=
  ∀ n, j.newest = some n →
    ∃ i r, i < 16 ∧ (flash.read (16 * n.sector + i)).valid? = some r ∧ r.sequence = n.sequence ∧ r.kind = n.kind

/-- Every record that stands in the flash, its CRC good or not, has a sequence that a program attempt takes, 1..4,294,967,294 (R154,
R157). -/
def SequencesInRange (flash : Flash) : Prop :=
  ∀ a r, flash.read a = .record r → 0 < r.sequence ∧ r.sequence < 4294967295

/-- The flash keeps its form and the sequences of its records their range, the newest record stays VALID, and the write in flight spares
it; no write is in flight outside READY, and the next sequence is one that R155 allows, or the one that leads to FAILED; nothing waits for
a write that is not in flight (R153 to R158, R160, R163, R167). -/
def JournalSound (s : State) : Prop :=
  s.flash.wf = true ∧ SequencesInRange s.flash ∧ (∀ a, s.journal.activeSector = some a → a < 8)
    ∧ (0 < s.journal.nextSequence ∧ s.journal.nextSequence ≤ 4294967295)
    ∧ (s.journal.state ≠ .ready → s.journal.write = none)
    ∧ (∀ w, s.journal.write = some w → w.phase.Sound s.journal s.flash)
    ∧ NewestReadable s.journal s.flash ∧ JournalQuiet s.journal

/-- A value is a position, 0..1000 per-mille. -/
def IsPosition (x : Int) : Prop := 0 ≤ x ∧ x ≤ 1000

/-- The drive in flight runs between positions and not past its duration (R113, R120). -/
def TimedDrive.Sound (d : TimedDrive) : Prop := IsPosition d.start ∧ IsPosition d.destination ∧ d.elapsed ≤ d.duration

/-- At most one drive line is on, and only while a drive runs (R112, R120, R127); the move timer stands in IDLE, FAULT and
DISABLED (R117, R123); the recovery failure count is 3 exactly in DISABLED, else below (R128). -/
def FlapSound (s : State) : Prop :=
  ¬(s.flap.towardFresh = true ∧ s.flap.towardRecirc = true)
    ∧ (s.flap.towardFresh = true ∨ s.flap.towardRecirc = true →
        s.flap.mode = .timed ∧ (s.flap.state = .moving ∨ s.flap.state = .homing) ∧ s.flap.driveInFlight.isSome = true)
    ∧ (s.flap.state = .idle ∨ s.flap.state = .fault ∨ s.flap.state = .disabled → s.flap.moveTimer = none)
    ∧ (s.flap.state = .disabled → s.flap.failCount = 3) ∧ (s.flap.state ≠ .disabled → s.flap.failCount < 3)

/-- The actual position lies in 0..1000, and so does every position it is worked out from (R113). -/
def PositionsInRange (s : State) : Prop :=
  IsPosition s.flap.target ∧ IsPosition s.flap.setPoint ∧ IsPosition s.flap.demand ∧ IsPosition s.flap.heldPosition
    ∧ (∀ d, s.flap.driveInFlight = some d → d.Sound) ∧ IsPosition s.channels.fpos.lastValue
    ∧ s.channels.fpos.substitute = none ∧ TargetIsCandidate s ∧ IsPosition s.flapPosition

end Sys2Proof.Machine
end

