-- ==== Sys2Proof/Certificates/Slice0/Obligations.lean ====
section
/-! DEFINITION. The statements for the provers. Unless a statement says otherwise, a clause of the form "exec answers next t" is the
completion of the command, and OnlyChanges names the parts of the state it may change. -/

open Sys2Proof Sys2Proof.Machine

/-! ### The machine -/

/-- A step takes the front command of the queue and runs it on the state with the queue's rest (the row's form). -/
def Obligations.StepRunsFrontCommand : Prop :=
  ∀ (c : Instr) (rest : List Instr) (s : State), s.pending = c :: rest → step s = exec c { s with pending := rest }

/-- Every command completes in every state, and none touches the queue of commands: no event the spec names stops the
module (R123, R133, R163, R199). -/
def Obligations.EveryCommandCompletes : Prop :=
  ∀ (c : Instr) (s : State), ∃ t, exec c s = .next t ∧ t.pending = s.pending

/-- The model's choice (log 2): with no command waiting, a step is one millisecond. The uptime rises by 1 at the thousandth
millisecond of its second (R105), the flash is untouched, and no command appears. Where nothing comes due, every clock that runs
moves by one millisecond (the channel ages, the debounces, the DRIVE age, the four timer channels, the move timer, the drive in
flight, the gap, the scan), CKPT stands, and nothing else changes (R76, R94, R97, R106, R112, R165, R193). -/
def Obligations.IdleStepIsMillisecond : Prop :=
  ∀ s : State, s.pending = [] →
    ∃ t, step s = .next t ∧ t.pending = [] ∧ t.flash = s.flash
      ∧ (s.secondMs + 1 < 1000 → t.uptime = s.uptime ∧ t.secondMs = s.secondMs + 1)
      ∧ (1000 ≤ s.secondMs + 1 → t.uptime = (s.uptime + 1) % 4294967296 ∧ t.secondMs = 0)
      ∧ (NothingDue s → ClocksMoved s t)

/-! ### The link port -/

/-- A request that cannot be served at its arrival waits at the tail of the queue; with both entries occupied it is discarded and
DROPPED is set. The frame's arrival returns the receiver to HUNT, and nothing else changes (R194, R195; log 1). -/
def Obligations.RequestWaitsOrIsDropped : Prop :=
  ∀ (c : Instr) (r : Request) (s : State), requestOf c = some r →
    (2 ≤ s.link.queue.length →
      exec c s = .next { s with link := { s.link with receiver := .hunt, gapMs := 0, dropped := true } })
    ∧ (s.link.queue.length < 2 →
        s.journal.state = .scanning ∨ s.link.sending.isSome = true ∨ s.link.holding = true →
        exec c s = .next { s with link := { s.link with receiver := .hunt, gapMs := 0, queue := s.link.queue ++ [r] } })

/-- A whole frame that the receiver takes byte by byte from HUNT does what the command of its request does (R191, R192; that the
command stands for the frame's arrival is the model's choice, log 1). Bytes that arrive in two parts do what they do in one,
from every receiver state; a byte without its stop bit changes nothing, nor does a byte other than 0xA5 in HUNT; every other
byte before the last takes the receiver to the state R192's table gives and restarts the gap (R190, R192, R193). -/
def Obligations.ReceivedFrameIsItsRequest : Prop :=
  (∀ (c : Instr) (r : Request) (s : State), requestOf c = some r → r.inCatalogue = true → s.link.receiver = .hunt →
      exec (.receiveFrame (onLine (frameBytes r.code r.payload))) s = exec c s)
  ∧ (∀ (kind : Byte) (payload : List Byte) (s : State), payload.length ≤ 64 → s.link.receiver = .hunt →
      exec (.receiveFrame (onLine (frameBytes kind payload))) s = exec (.unknownRequest kind payload) s)
  ∧ (∀ (a b : List LineByte) (s : State),
      ∃ t, exec (.receiveFrame a) s = .next t ∧ exec (.receiveFrame (a ++ b)) s = exec (.receiveFrame b) t)
  ∧ (∀ (b : Byte) (s : State), exec (.receiveFrame [.noStop b]) s = .next s)
  ∧ (∀ (b : Byte) (s : State), b ≠ 0xA5#8 → s.link.receiver = .hunt → exec (.receiveFrame [.framed b]) s = .next s)
  ∧ ∀ (b : Byte) (s : State) (r : Receiver), ByteStored b s.link.receiver r →
      exec (.receiveFrame [.framed b]) s = .next { s with link := { s.link with receiver := r, gapMs := 0 } }

/-- Every request of the catalogue is read back from its code and its payload, every field at every value (R199). -/
def Obligations.RequestDecodesFromPayload : Prop :=
  ∀ r : Request, r.inCatalogue = true → decodeRequest r.code r.payload = r

/-- The three abandonments: a CRC that does not match, a LEN above 64, and the gap. Each sets BADFRAME and returns the receiver to
HUNT, and changes nothing else; in HUNT the gap is not timed (R193), and that a gap command then changes nothing is the model's
choice (log 3), and so is the 0 that the gap's field holds there (log 34). -/
def Obligations.FrameAbandoned : Prop :=
  (∀ (kind : Byte) (payload : List Byte) (high low : Byte) (s : State), payload.length ≤ 64 →
      s.link.receiver = .hunt → word16 high low ≠ frameCrc kind payload →
      exec (.receiveFrame (onLine (0xA5#8 :: lenByte payload :: kind :: (payload ++ [high, low])))) s
        = .next { s with link := { s.link with receiver := .hunt, gapMs := 0, badFrame := true } })
  ∧ (∀ (len : Byte) (s : State), 64 < len.toNat → s.link.receiver = .hunt →
      exec (.receiveFrame (onLine [0xA5#8, len])) s
        = .next { s with link := { s.link with receiver := .hunt, gapMs := 0, badFrame := true } })
  ∧ (∀ s : State, s.link.receiver ≠ .hunt →
      exec .gapTimeout s = .next { s with link := { s.link with receiver := .hunt, gapMs := 0, badFrame := true } })
  ∧ ∀ s : State, s.link.receiver = .hunt → exec .gapTimeout s = .next s

/-- The link port's own refusals: a KIND outside the catalogue with REFUSED-UNKNOWN, else a LEN that is not allowed with
REFUSED-LENGTH; neither is handed on, and nothing but the link port changes (R199). -/
def Obligations.PortRefusesByItself : Prop :=
  (∀ (kind : Byte) (payload : List Byte) (s : State), PortFree s → kind.toNat = 0 ∨ 25 < kind.toNat →
      ∃ t, exec (.unknownRequest kind payload) s = .next t ∧ Answered (.unknown kind) 2 [] s t
        ∧ OnlyChanges [.link] s t)
  ∧ (∀ (kind : Byte) (payload : List Byte) (s : State), PortFree s → s.link.receiver = .hunt → payload.length ≤ 64 →
      1 ≤ kind.toNat → kind.toNat ≤ 25 → payload.length ∉ allowedLengths kind.toNat →
      ∃ t, exec (.receiveFrame (onLine (frameBytes kind payload))) s = .next t ∧ Answered (.badLength kind) 3 [] s t
        ∧ OnlyChanges [.link] s t)

/-- The last byte of a reply: the head leaves. With no second entry nothing else happens; a waiting entry is served in the same
event as if its frame had just arrived at a free port, and the receiver, in mid-frame or not, stands (R192, R195). That the event
changes nothing while no reply is going out is the model's choice (log 3). -/
def Obligations.HeadLeavesAfterReply : Prop :=
  (∀ (r : Request) (s : State), s.link.sending.isSome = true → s.link.queue = [r] → r ≠ .restart →
      exec .replySent s = .next { s with link := { s.link with queue := [], sending := none } })
  ∧ (∀ (r r' : Request) (c : Instr) (s : State), s.link.sending.isSome = true → s.link.queue = [r, r'] → r ≠ .restart →
      s.journal.state ≠ .scanning → s.link.holding = false → requestOf c = some r' →
      ∃ t, exec c { s with link := { s.link with queue := [], sending := none } } = .next t
        ∧ exec .replySent s
            = .next { t with link := { t.link with receiver := s.link.receiver, gapMs := s.link.gapMs } })
  ∧ ∀ s : State, s.link.sending = none → exec .replySent s = .next s

/-- Both kinds of reset give the same start-up values, field by field, every setting at its default among them, and keep the
flash when no write is under way: POWER_ON_RESET, and the last byte of a RESTART's reply (00_scope, R2, R29, R57, R76, R93,
R112, R137, R146, R155, R171, R181, R197). A POWER_ON_RESET that cuts an erase leaves each slot of its sector as it was, DAMAGED
or ERASED, one that cuts a program leaves its slot as it was, DAMAGED or with the whole record, every other slot stands, and the
newest record from before stays VALID (R158, R168); which of these it leaves is the command's operand (the model's choice, log
10). The lines and contacts stand as the reset finds them, both debounces running. That a FAULT line that stands asserted puts
the flap in FAULT inside the reset, and a stall that stands asserted the blower, each with its notice and the attention line, is
the model's choice (log 9), and so are the start values of the clocks behind the second and the scan (logs 2, 23) and the 0 that the
DRIVE age and the gap hold, neither of them running (log 34). -/
def Obligations.ResetGivesStartValues : Prop :=
  (∀ (lines : ResetLines) (cut : List SlotOutcome) (s : State),
      ∃ t, exec (.powerOnReset lines cut) s = .next t ∧ t.pending = s.pending ∧ ResetValues .powerOn t
        ∧ (s.journal.write = none → t.flash = s.flash)
        ∧ (∀ w, s.journal.write = some w → s.flash.wf = true →
            (∀ c, w.phase = .erasing c → c < 8 → EraseLeft c cut s.flash t.flash)
            ∧ ∀ k i n, w.phase = .programming k i n →
                ProgramLeft w k i n (cut[i]?.getD .untouched) s.flash t.flash)
        ∧ (s.flash.wf = true → (∀ w, s.journal.write = some w → w.phase.Sound s.journal s.flash) →
            NewestReadable s.journal s.flash →
            t.flash.wf = true ∧ NewestReadable s.journal t.flash ∧ (SequencesInRange s.flash → SequencesInRange t.flash))
        ∧ (t.flap.inhibit = lines.inhibit ∧ t.flap.faultLine = lines.faultLine ∧ t.flap.ready = lines.ready
            ∧ t.blower.stall = lines.stall ∧ t.drive.drv.contactClosed = lines.drvClosed
            ∧ t.drive.krb.contactClosed = lines.krbClosed))
  ∧ (∀ (s : State), s.link.sending.isSome = true → s.link.queue.head? = some .restart →
      ∃ t, exec .replySent s = .next t ∧ t.pending = s.pending ∧ ResetValues .restart t ∧ t.flash = s.flash
        ∧ (t.flap.inhibit = s.flap.inhibit ∧ t.flap.faultLine = s.flap.faultLine ∧ t.flap.ready = s.flap.ready
            ∧ t.blower.stall = s.blower.stall ∧ t.drive.drv.contactClosed = s.drive.drv.contactClosed
            ∧ t.drive.krb.contactClosed = s.drive.krb.contactClosed))

/-! ### Settings -/

/-- IDENT answers its body of ten bytes; a checkpoint interval is clamped to 60..3600 and stored; nothing else changes
(R164, R200). -/
def Obligations.IdentAnswered : Prop :=
  ∀ (s : State), PortFree s →
    (∃ t body, exec (.ident none) s = .next t ∧ Answered (.ident none) 0 body s t ∧ OnlyChanges [.link] s t
      ∧ body.length = 10 ∧ fieldAt body 0 2 = 24 ∧ fieldAt body 9 1 = s.link.lastReset.code)
    ∧ ∀ x : Word16, ∃ t body, exec (.ident (some x)) s = .next t
      ∧ Answered (.ident (some x)) (if x.toNat < 60 ∨ 3600 < x.toNat then 1 else 0) body s t
      ∧ OnlyChanges [.link, .journal] s t
      ∧ t.journal = { s.journal with checkpointInterval := toRange 60 3600 x.toNat }
      ∧ body.length = 10 ∧ fieldAt body 0 2 = 24 ∧ fieldAt body 9 1 = s.link.lastReset.code

/-- CABIN stores the six settings, each clamped, and the two polarities, and changes no estimate; an unknown polarity refuses it
whole. Each door takes the state its accepted level has under its polarity; a door that opens so in HALTED starts a stop, which an
active tally counts, and the purge machine takes the door's event where the other door stands. A full decision runs, unless PARKED.
With both doors as they were it reads the state as the settings leave it; where the doors change, its place among their events, and
so the blower it reads, as it stood or as the purge's demand has handed it on, is a free choice (log 5). While PARKED, with both
doors as they were, nothing else changes (R4, R39, R50, R52, R54, R93, R95, R100, R132, R148). -/
def Obligations.CabinStored : Prop :=
  ∀ (f : CabinFields) (s : State), PortFree s →
    (1 < f.drvPolarity.toNat ∨ 1 < f.krbPolarity.toNat →
      ∃ t, exec (.cabin f) s = .next t ∧ Answered (.cabin f) 4 [] s t ∧ OnlyChanges [.link] s t)
    ∧ (f.drvPolarity.toNat ≤ 1 → f.krbPolarity.toNat ≤ 1 →
      ∃ t result, exec (.cabin f) s = .next t ∧ Answered (.cabin f) result [] s t
        ∧ (result = 1 ↔ Outside 2000 6000 f.volume.toNat ∨ Outside 0 3 f.occupants.toNat
            ∨ Outside 350 600 f.co2Reference.toNat ∨ Outside 0 13107 f.drvExchange.toNat
            ∨ Outside 0 13107 f.krbExchange.toNat ∨ Outside 0 256 f.weight.toNat)
        ∧ (result = 0 ∨ result = 1)
        ∧ t.est = { s.est with cabin :=
            { volume := toRange 2000 6000 f.volume.toNat, occupants := toRange 0 3 f.occupants.toNat,
              co2Reference := toRange 350 600 f.co2Reference.toNat,
              drvExchange := toRange 0 13107 f.drvExchange.toNat,
              krbExchange := toRange 0 13107 f.krbExchange.toNat, weight := toRange 0 256 f.weight.toNat } }
        ∧ t.drive.drv.polarity = (if f.drvPolarity.toNat = 0 then .normal else .inverted)
        ∧ t.drive.krb.polarity = (if f.krbPolarity.toNat = 0 then .normal else .inverted)
        ∧ (∀ door, t.drive.door door = { s.drive.door door with
            polarity := (t.drive.door door).polarity,
            isOpen := doorByRules (s.drive.door door).accepted (t.drive.door door).polarity })
        ∧ ((∃ door, (s.drive.door door).isOpen = false ∧ (t.drive.door door).isOpen = true) → s.drive.vehicle = .halted →
            t.drive.vehicle = .atStop ∧ t.drive.stopFlag = true
              ∧ t.tally = (if s.drive.stopFlag = false then stopCounted s.tally else s.tally))
        ∧ ((∀ door, (t.drive.door door).isOpen = true → (s.drive.door door).isOpen = true) ∨ s.drive.vehicle ≠ .halted →
            t.drive.vehicle = s.drive.vehicle ∧ t.drive.stopFlag = s.drive.stopFlag ∧ t.tally = s.tally)
        ∧ (∀ door, (∀ other, other ≠ door → (t.drive.door other).isOpen = (s.drive.door other).isOpen) →
            PurgeTookDoor door s t)
        ∧ (∃ b, PurgeHanded s b ∧ Decided { decisionReads s.policy s t with blower := b } t)
        ∧ ((∀ door, (t.drive.door door).isOpen = (s.drive.door door).isOpen) →
            Decided (decisionReads s.policy s t) t ∧ OnlyChanges [.link, .est, .policy, .drive, .flap, .blower, .notices, .freeCount] s t
              ∧ t.policy.purging = s.policy.purging ∧ t.policy.openSince = s.policy.openSince)
        ∧ OnlyChanges [.link, .est, .policy, .drive, .timers, .flap, .blower, .tally, .notices, .freeCount] s t
        ∧ (s.drive.vehicle = .parked → (∀ door, (t.drive.door door).isOpen = (s.drive.door door).isOpen) →
            OnlyChanges [.link, .est, .drive, .freeCount] s t))

/-- LIMITS clamps the eleven limits and stores them together, loads a RUNNING DEC with the new period, and is refused when co2_limit
is above co2_hard after clamping; a full decision runs by the new limits, and while PARKED none does and the target stays
(R34, R39, R108). -/
def Obligations.LimitsStored : Prop :=
  ∀ (f : LimitsFields) (s : State), PortFree s →
    (toRange 800 5000 f.co2Hard.toNat < toRange 600 2000 f.co2Limit.toNat →
      ∃ t, exec (.limits f) s = .next t ∧ Answered (.limits f) 4 [] s t ∧ OnlyChanges [.link] s t)
    ∧ (toRange 600 2000 f.co2Limit.toNat ≤ toRange 800 5000 f.co2Hard.toNat →
      ∃ t result, exec (.limits f) s = .next t ∧ Answered (.limits f) result [] s t
        ∧ (result = 1 ↔ Outside 600 2000 f.co2Limit.toNat ∨ Outside 800 5000 f.co2Hard.toNat
            ∨ Outside 0 10000 f.fogMin.toNat ∨ Outside 0 200 f.cleanPm.toNat ∨ Outside 0 500 f.cleanGas.toNat
            ∨ Outside 60 1800 f.recircDwell.toNat ∨ Outside 5 60 f.decisionPeriod.toNat
            ∨ Outside 0 300 f.changeDwell.toNat ∨ Outside 30 900 f.holdMax.toNat
            ∨ Outside 0 120 f.releaseDelay.toNat ∨ Outside 0 300 f.purgeTime.toNat)
        ∧ (result = 0 ∨ result = 1)
        ∧ t.policy.limits =
            { co2Limit := toRange 600 2000 f.co2Limit.toNat, co2Hard := toRange 800 5000 f.co2Hard.toNat,
              fogMin := toRange 0 10000 f.fogMin.toNat, cleanPm := toRange 0 200 f.cleanPm.toNat,
              cleanGas := toRange 0 500 f.cleanGas.toNat, recircDwell := toRange 60 1800 f.recircDwell.toNat,
              decisionPeriod := toRange 5 60 f.decisionPeriod.toNat,
              changeDwell := toRange 0 300 f.changeDwell.toNat, holdMax := toRange 30 900 f.holdMax.toNat,
              releaseDelay := toRange 0 120 f.releaseDelay.toNat, purgeTime := toRange 0 300 f.purgeTime.toNat }
        ∧ t.timers = { s.timers with
            dec := if s.timers.dec.isSome then some (toRange 5 60 f.decisionPeriod.toNat * 1000) else none }
        ∧ Decided (decisionReads { s.policy with limits := t.policy.limits } s t) t
        ∧ t.policy.purging = s.policy.purging ∧ t.policy.openSince = s.policy.openSince
        ∧ OnlyChanges [.link, .policy, .timers, .flap, .blower, .notices] s t
        ∧ (s.drive.vehicle = .parked → OnlyChanges [.link, .policy, .timers] s t ∧ t.policy.target = s.policy.target))

/-- MODE: an unknown mode is refused; the mode already held changes nothing; while PARKED another mode is stored and the target
stays; otherwise the new mode is stored, the blower demand is worked out by it and handed on, and a full decision runs, in which a
fixed mode sets its target and basis at once (R31, R32, R39, R54). A level that rises from 0 while the stall input stands asserted
puts the blower in FAULT with BLOWER-FAULT, and the decision reads its flow as 0 (R36, R133). That the decision reads the new demand
is deduced (log 17). -/
def Obligations.ModeTaken : Prop :=
  ∀ (m : Byte) (s : State), PortFree s →
    (3 < m.toNat → ∃ t, exec (.mode m) s = .next t ∧ Answered (.mode m) 4 [] s t ∧ OnlyChanges [.link] s t)
    ∧ (m.toNat ≤ 3 →
      ∃ t, exec (.mode m) s = .next t ∧ Answered (.mode m) 0 [] s t
        ∧ t.policy.mode.code = m.toNat
        ∧ OnlyChanges [.link, .policy, .flap, .blower, .notices] s t
        ∧ t.policy.hold = s.policy.hold ∧ t.policy.purging = s.policy.purging
        ∧ t.policy.ceilingFlag = s.policy.ceilingFlag ∧ t.policy.limits = s.policy.limits
        ∧ t.policy.comfort = s.policy.comfort ∧ t.policy.openSince = s.policy.openSince
        ∧ (s.policy.mode.code = m.toNat → OnlyChanges [.link] s t)
        ∧ (s.drive.vehicle = .parked → t.policy.target = s.policy.target ∧ t.flap = s.flap)
        ∧ (s.policy.mode.code ≠ m.toNat → s.blower.level = s.policy.demand → BlowerFollows s t ∧
            Decided
              (atLevel
                (demandByTable (decide (s.drive.vehicle = .parked)) s.policy.purging t.policy.mode s.policy.basis
                  s.policy.comfort)
                (decisionReads { s.policy with mode := t.policy.mode } s t)) t)
        ∧ (s.policy.mode.code ≠ m.toNat → s.drive.vehicle ≠ .parked →
            (m.toNat = 1 → t.policy.target = 1000 ∧ t.policy.basis = .modeFresh ∧ t.policy.held = false)
            ∧ (m.toNat = 2 → s.policy.ceilingFlag = false →
                t.policy.target = 0 ∧ t.policy.basis = .modeRecirc ∧ t.policy.held = false)
            ∧ (m.toNat = 2 → s.policy.ceilingFlag = true →
                t.policy.target = 500 ∧ t.policy.basis = .ceiling ∧ t.policy.held = false)
            ∧ (m.toNat = 3 → t.policy.target = 1000 ∧ t.policy.basis = .modeDefrost ∧ t.policy.demand = 7)
            ∧ (t.policy.target ≠ s.policy.target → t.policy.lastChange = some s.uptime)
            ∧ (t.policy.target = s.policy.target → t.policy.lastChange = s.policy.lastChange)))

/-- COMFORT stores the level, clamped to 7 with DONE-CLAMPED, and the blower demand is worked out again and applied; no decision
runs; while PARKED the demand stays 0; after both kinds of reset the level is 2 (R35). -/
def Obligations.ComfortTaken : Prop :=
  (∀ (level : Byte) (s : State), PortFree s → s.blower.level = s.policy.demand →
    ∃ t, exec (.comfort level) s = .next t
      ∧ Answered (.comfort level) (if 7 < level.toNat then 1 else 0) [] s t
      ∧ t.policy = { s.policy with
          comfort := min level.toNat 7,
          demand := demandByTable (decide (s.drive.vehicle = .parked)) s.policy.purging s.policy.mode s.policy.basis
            (min level.toNat 7) }
      ∧ t.blower.level = t.policy.demand
      ∧ (s.drive.vehicle = .parked → t.policy.demand = 0)
      ∧ OnlyChanges [.link, .policy, .blower, .notices] s t)
  ∧ State.reset.policy.comfort = 2
  ∧ (∀ (lines : ResetLines) (cut : List SlotOutcome) (s t : State), exec (.powerOnReset lines cut) s = .next t →
      t.policy.comfort = 2)
  ∧ ∀ (s t : State), s.link.sending.isSome = true → s.link.queue.head? = some .restart →
      exec .replySent s = .next t → t.policy.comfort = 2

/-- DRIVE: an unknown engine state is refused in every vehicle state; otherwise speed and engine are stored and the age restarts
FRESH. While not PARKED a changed reported speed moves the vehicle state; while PARKED a DRIVE with engine STOP stores the same
and the truck stays PARKED (R96, R97, R99, R101, R103). A truck that comes to stand with a door open starts a stop, which an
active tally counts (R100, R148). A changed reported speed is delivered to the SPEED slots, and a stop end turns the STOP slots
OFF (R172, R177); that the stop end reaches them first is the model's choice (log 31). -/
def Obligations.DriveTaken : Prop :=
  ∀ (v : Word16) (e : Byte) (s : State), PortFree s →
    (1 < e.toNat → ∃ t, exec (.drive v e) s = .next t ∧ Answered (.drive v e) 4 [] s t ∧ OnlyChanges [.link] s t)
    ∧ (e.toNat ≤ 1 → s.drive.vehicle ≠ .parked →
      ∃ t, exec (.drive v e) s = .next t
        ∧ Answered (.drive v e) (if 250 < v.toNat then 1 else 0) [] s t
        ∧ OnlyChanges [.link, .drive, .tally, .watch, .notices] s t
        ∧ t.drive.lastSpeed = min v.toNat 250
        ∧ t.drive.engine = some (if e.toNat = 0 then .run else .stop)
        ∧ t.drive.ageMs = 0 ∧ t.drive.freshness = .fresh
        ∧ t.drive.drv = s.drive.drv ∧ t.drive.krb = s.drive.krb
        ∧ t.tally = (if s.drive.vehicle = .moving ∧ t.drive.vehicle = .atStop ∧ s.drive.stopFlag = false then
            stopCounted s.tally else s.tally)
        ∧ (min v.toNat 250 = s.drive.reportedSpeed →
            t.drive.vehicle = s.drive.vehicle ∧ t.drive.stopFlag = s.drive.stopFlag ∧ t.watch = s.watch)
        ∧ (min v.toNat 250 ≠ s.drive.reportedSpeed → 5 < v.toNat →
            t.drive.vehicle = .moving ∧ (s.drive.vehicle ≠ .moving → t.drive.stopFlag = false))
        ∧ (min v.toNat 250 ≠ s.drive.reportedSpeed → v.toNat ≤ 5 →
            (s.drive.vehicle ≠ .moving → t.drive.vehicle = s.drive.vehicle)
            ∧ (s.drive.vehicle = .moving → s.drive.drv.isOpen = true ∨ s.drive.krb.isOpen = true →
                t.drive.vehicle = .atStop ∧ t.drive.stopFlag = true)
            ∧ (s.drive.vehicle = .moving → s.drive.drv.isOpen = false → s.drive.krb.isOpen = false →
                t.drive.vehicle = .halted))
        ∧ (min v.toNat 250 ≠ s.drive.reportedSpeed → ∀ n : SlotNumber,
            t.watch.get n =
              (if (s.watch.get n).scope = .stop ∧ s.drive.stopFlag = true ∧ s.drive.vehicle ≠ .moving ∧ 5 < v.toNat then
                { s.watch.get n with scope := .off, armed := false }
              else if (s.watch.get n).quantity = .speed then
                slotEvaluated (s.watch.get n) ((min v.toNat 250 : Nat) : Int) s.uptime
              else s.watch.get n)))
    ∧ (e.toNat = 1 → s.drive.vehicle = .parked →
      ∃ t, exec (.drive v e) s = .next t
        ∧ Answered (.drive v e) (if 250 < v.toNat then 1 else 0) [] s t
        ∧ OnlyChanges [.link, .drive, .watch, .notices] s t
        ∧ t.drive = { s.drive with lastSpeed := min v.toNat 250, engine := some .stop, ageMs := 0, freshness := .fresh }
        ∧ t.drive.vehicle = .parked
        ∧ (min v.toNat 250 = s.drive.reportedSpeed → OnlyChanges [.link, .drive] s t)
        ∧ (min v.toNat 250 ≠ s.drive.reportedSpeed → Delivered .speed ((min v.toNat 250 : Nat) : Int) s t))

/-- Leaving PARKED, by WAKE (no speed given) or by a DRIVE with engine RUN and this speed, which both complete: WAKE is answered
DONE, and DRIVE, answered DONE or DONE-CLAMPED, stores speed, engine and freshness. The vehicle stands or moves, a stop that
starts is counted, one that ends turns the STOP slots OFF, and a changed reported speed is delivered; EST, DEC and CKPT are
loaded, the snap flags are set and the counts cleared, the blower demand is worked out and handed on, and a full decision runs; a level that rises from 0 while the stall input stands
asserted puts the blower in FAULT with BLOWER-FAULT, and the decision reads its flow as 0 (R36, R133). WAKE in any other state
is refused with REFUSED-STATE (R27, R33, R96, R97, R103, R148). That the decision reads the new demand is deduced (log 17); that
the stop end reaches the slots before the speed is the model's choice (log 31). -/
def Obligations.ParkedIsLeft : Prop :=
  (∀ s : State, PortFree s → s.drive.vehicle ≠ .parked →
      ∃ t, exec .wake s = .next t ∧ Answered .wake 5 [] s t ∧ OnlyChanges [.link] s t)
  ∧ ∀ (drive : Option Word16) (s : State), PortFree s → s.drive.vehicle = .parked →
      ∀ speed : Nat, speed = drive.elim s.drive.reportedSpeed (fun v => min v.toNat 250) →
      ∃ t, exec (drive.elim .wake fun v => .drive v 0#8) s = .next t
        ∧ Answered (drive.elim .wake fun v => .drive v 0#8) (drive.elim 0 fun v => if 250 < v.toNat then 1 else 0) [] s t
        ∧ t.drive = { (if drive = none then s.drive
            else { s.drive with lastSpeed := speed, engine := some .run, ageMs := 0, freshness := .fresh }) with
              vehicle := t.drive.vehicle, stopFlag := t.drive.stopFlag }
        ∧ t.drive.vehicle = (if 5 < speed then .moving
            else if s.drive.drv.isOpen ∨ s.drive.krb.isOpen then .atStop else .halted)
        ∧ t.drive.stopFlag = (if 5 < speed then false
            else if s.drive.drv.isOpen ∨ s.drive.krb.isOpen then true else s.drive.stopFlag)
        ∧ t.tally = (if (s.drive.drv.isOpen = true ∨ s.drive.krb.isOpen = true) ∧ s.drive.stopFlag = false then
            stopCounted s.tally else s.tally)
        ∧ (∀ n : SlotNumber, t.watch.get n =
            (if (s.watch.get n).scope = .stop ∧ 5 < speed
                ∧ (s.drive.stopFlag = true ∨ s.drive.drv.isOpen = true ∨ s.drive.krb.isOpen = true) then
              { s.watch.get n with scope := .off, armed := false }
            else if (s.watch.get n).quantity = .speed ∧ speed ≠ s.drive.reportedSpeed then
              slotEvaluated (s.watch.get n) (speed : Int) s.uptime
            else s.watch.get n))
        ∧ t.timers = { s.timers with
            est := some 1000, dec := some (s.policy.limits.decisionPeriod * 1000),
            ckpt := some s.journal.checkpointInterval }
        ∧ t.est = { s.est with
            snapPm := true, snapCo2 := true, snapAh := true, divPm := 0, divCo2 := 0, divAh := 0, pmAbove := 0 }
        ∧ (s.blower.level = s.policy.demand → BlowerFollows s t ∧
            Decided
              (atLevel (demandByTable false s.policy.purging s.policy.mode s.policy.basis s.policy.comfort)
                (decisionReads s.policy s t)) t)
        ∧ OnlyChanges [.link, .drive, .est, .policy, .timers, .flap, .blower, .tally, .watch, .notices] s t

/-- CHANNEL: an unknown code is refused; otherwise the substitute (FPOS has none), the stale time and the lost time are clamped
and stored, the state of a running age follows the new times, and the other nine channels stand. A changed substitute of a NONE or
LOST channel is delivered to the slots that watch it, and for CRH, CTM and STM the fog margin is recomputed; a channel that the
new times bring to LOST raises SENSOR-LOST, delivers its substitute, has the fog margin recomputed, and unsets its detector's
baseline with an open episode closed as CHANNEL-LOST. A recomputation of the margin looks CTM up and then STM, raises TABLE-CLAMPED
exactly where one of them lies outside the table, and touches nothing else of the estimator; an estimate is never touched, nor the
flag of INPUT-CLAMPED. Nothing is delivered for a channel that stays LIVE or STALE or changes between them, nor for a substitute
that repeats the present one (R1, R23, R25, R68, R80, R83, R86, R89, R90, R91, R172). -/
def Obligations.ChannelStored : Prop :=
  ∀ (f : ChannelFields) (s : State), PortFree s →
    (9 < f.code.toNat →
      ∃ t, exec (.channel f) s = .next t ∧ Answered (.channel f) 4 [] s t ∧ OnlyChanges [.link] s t)
    ∧ ∀ c : Channel, f.code.toNat = c.code →
      ∃ t result, exec (.channel f) s = .next t ∧ Answered (.channel f) result [] s t
        ∧ (result = 1 ↔ (c ≠ .fpos ∧ (f.substitute.toInt < c.range.1 ∨ c.range.2 < f.substitute.toInt))
            ∨ Outside 1 60 f.staleTime.toNat ∨ Outside (toRange 1 60 f.staleTime.toNat) 600 f.lostTime.toNat)
        ∧ (result = 0 ∨ result = 1)
        ∧ (∀ c' : Channel, c' ≠ c → t.channels.get c' = s.channels.get c')
        ∧ OnlyChanges [.link, .channels, .est, .policy, .tracker, .timers, .flap, .blower, .watch, .notices] s t
        ∧ t.est = { s.est with fogMargin := t.est.fogMargin }
        ∧ (.inputClamped ∈ t.notices.conditionFlags ↔ .inputClamped ∈ s.notices.conditionFlags)
        ∧ (t.channels.get c).substitute = (if c = .fpos then none
            else some (max c.range.1 (min c.range.2 f.substitute.toInt)))
        ∧ (t.channels.get c).staleTime = toRange 1 60 f.staleTime.toNat
        ∧ (t.channels.get c).lostTime = toRange (toRange 1 60 f.staleTime.toNat) 600 f.lostTime.toNat
        ∧ t.channels.get c = { s.channels.get c with
            state := (t.channels.get c).state, substitute := (t.channels.get c).substitute,
            staleTime := (t.channels.get c).staleTime, lostTime := (t.channels.get c).lostTime }
        ∧ ((s.channels.get c).state = .none ∨ (s.channels.get c).state = .lost →
            (t.channels.get c).state = (s.channels.get c).state)
        ∧ ((s.channels.get c).state = .none ∨ (s.channels.get c).state = .lost →
            (t.channels.get c).substitute ≠ (s.channels.get c).substitute →
            Delivered (.channel c) (t.usable c) s t ∧ MarginFollows c s t
              ∧ LookupsNoted .ctm .stm (GivesMargin c) s t
              ∧ (GivesMargin c → Delivered .fog t.est.fogMargin s t))
        ∧ ((s.channels.get c).state = .live ∨ (s.channels.get c).state = .stale → (t.channels.get c).state = .lost →
            (∃ p ∈ t.notices.pending, ∃ l, p.notice = .sensorLost l ∧ c ∈ l) ∧ Delivered (.channel c) (t.usable c) s t
              ∧ MarginFollows c s t ∧ (GivesMargin c → Delivered .fog t.est.fogMargin s t)
              ∧ (c ≠ .opm → c ≠ .ogs → OnlyChanges [.link, .channels, .est, .watch, .notices] s t)
              ∧ ∀ d : DetectorId, c.code = d.code → LossClosed d s t)
        ∧ ((s.channels.get c).state = .none ∨ (s.channels.get c).state = .lost →
            (t.channels.get c).substitute = (s.channels.get c).substitute → OnlyChanges [.link, .channels] s t)
        ∧ ((s.channels.get c).state = .live ∨ (s.channels.get c).state = .stale → (t.channels.get c).state ≠ .lost →
            OnlyChanges [.link, .channels] s t)
        ∧ ((s.channels.get c).state = .live ∨ (s.channels.get c).state = .stale →
            (t.channels.get c).staleTime = (s.channels.get c).staleTime →
            (t.channels.get c).lostTime = (s.channels.get c).lostTime →
            (t.channels.get c).state = (s.channels.get c).state)
        ∧ ((s.channels.get c).state = .live ∨ (s.channels.get c).state = .stale →
            ¬((t.channels.get c).staleTime = (s.channels.get c).staleTime
              ∧ (t.channels.get c).lostTime = (s.channels.get c).lostTime) →
            (t.channels.get c).state =
              (if (t.channels.get c).lostTime * 1000 ≤ (s.channels.get c).ageMs.getD 0 then .lost
              else if (t.channels.get c).staleTime * 1000 ≤ (s.channels.get c).ageMs.getD 0 then .stale else .live))

/-- DETECTOR: an unknown detector is refused; otherwise the four settings of the named detector are clamped and stored, and nothing
else of the tracker changes (R58). -/
def Obligations.DetectorStored : Prop :=
  ∀ (f : DetectorFields) (s : State), PortFree s →
    (1 < f.detector.toNat →
      ∃ t, exec (.detector f) s = .next t ∧ Answered (.detector f) 4 [] s t ∧ OnlyChanges [.link] s t)
    ∧ ∀ d : DetectorId, f.detector.toNat = d.code →
      ∃ t result, exec (.detector f) s = .next t ∧ Answered (.detector f) result [] s t
        ∧ (result = 1 ↔ Outside 1 500 f.jump.toNat ∨ Outside 1 2000 f.level.toNat
            ∨ Outside 1 30 f.releaseCount.toNat ∨ Outside 10 900 f.maxDuration.toNat)
        ∧ (result = 0 ∨ result = 1)
        ∧ t.tracker.detector d = { s.tracker.detector d with settings :=
            { jump := toRange 1 500 f.jump.toNat, level := toRange 1 2000 f.level.toNat,
              releaseCount := toRange 1 30 f.releaseCount.toNat, maxDuration := toRange 10 900 f.maxDuration.toNat } }
        ∧ (∀ d' : DetectorId, d' ≠ d → t.tracker.detector d' = s.tracker.detector d')
        ∧ t.tracker.table = s.tracker.table ∧ t.tracker.nextNumber = s.tracker.nextNumber
        ∧ OnlyChanges [.link, .tracker] s t

/-- ACTUATOR: an unknown mode is refused in any state, a known one in MOVING and HOMING; otherwise mode and times are stored. In
FAULT and DISABLED nothing else of the flap changes, nor in WAIT-READY under the same mode. In IDLE the move that is due starts by
the mode stored; another mode ends a wait for READY first, and DIRECT, entered with INHIBIT released, brings the demand output to
the set point (R114, R115, R129). -/
def Obligations.ActuatorStored : Prop :=
  ∀ (f : ActuatorFields) (s : State), PortFree s →
    (3 < f.mode.toNat →
      ∃ t, exec (.actuator f) s = .next t ∧ Answered (.actuator f) 4 [] s t ∧ OnlyChanges [.link] s t)
    ∧ (f.mode.toNat ≤ 3 → s.flap.state = .moving ∨ s.flap.state = .homing →
      ∃ t, exec (.actuator f) s = .next t ∧ Answered (.actuator f) 5 [] s t ∧ OnlyChanges [.link] s t)
    ∧ (f.mode.toNat ≤ 3 → s.flap.state ≠ .moving → s.flap.state ≠ .homing →
      ∃ t result, exec (.actuator f) s = .next t ∧ Answered (.actuator f) result [] s t
        ∧ (result = 1 ↔ Outside 500 10000 f.travelTime.toNat ∨ Outside 1000 20000 f.moveTimeout.toNat)
        ∧ (result = 0 ∨ result = 1)
        ∧ OnlyChanges [.link, .flap] s t
        ∧ t.flap.mode.code = f.mode.toNat ∧ t.flap.travelTime = toRange 500 10000 f.travelTime.toNat
        ∧ t.flap.moveTimeout = toRange 1000 20000 f.moveTimeout.toNat
        ∧ t.flap.target = s.flap.target ∧ t.flap.failCount = s.flap.failCount
        ∧ t.flap.heldPosition = s.flap.heldPosition
        ∧ (s.flap.state = .fault ∨ s.flap.state = .disabled →
            t.flap = { s.flap with mode := t.flap.mode, travelTime := t.flap.travelTime,
                                   moveTimeout := t.flap.moveTimeout })
        ∧ (s.flap.state = .waitReady → t.flap.mode = s.flap.mode →
            t.flap = { s.flap with travelTime := t.flap.travelTime, moveTimeout := t.flap.moveTimeout })
        ∧ (s.flap.state = .idle → t.flap.mode = s.flap.mode →
            MoveFollows { s.flap with travelTime := t.flap.travelTime, moveTimeout := t.flap.moveTimeout } t.flap)
        ∧ (s.flap.state = .idle ∨ s.flap.state = .waitReady → t.flap.mode ≠ s.flap.mode →
            MoveFollows { s.flap with
              mode := t.flap.mode, travelTime := t.flap.travelTime, moveTimeout := t.flap.moveTimeout, state := .idle,
              moveTimer := if s.flap.state = .waitReady then none else s.flap.moveTimer,
              demand := if t.flap.mode = .direct ∧ s.flap.inhibit = false then s.flap.setPoint else s.flap.demand }
              t.flap))

/-- FLAP RECOVER: taken in FAULT with INHIBIT released, it starts the homing of the drive mode, which a standing FAULT line makes
fail at once, from the position at its start and with the notice of a failed homing, the demand output standing, since the flap is
not driven against its fault; in DIRECT it succeeds in the same event and the move that is due follows; in any other case it is
refused (R115, R123, R126, R127, R128). That a TIMED homing which fails so leaves the set point at the position reached is deduced
(log 16). -/
def Obligations.FlapRecoverTaken : Prop :=
  ∀ s : State, PortFree s →
    (s.flap.state ≠ .fault ∨ s.flap.inhibit = true →
      ∃ t, exec .flapRecover s = .next t ∧ Answered .flapRecover 5 [] s t ∧ OnlyChanges [.link] s t)
    ∧ (s.flap.state = .fault → s.flap.inhibit = false →
      ∃ t, exec .flapRecover s = .next t ∧ Answered .flapRecover 0 [] s t
        ∧ OnlyChanges [.link, .flap, .notices] s t
        ∧ (s.flap.faultLine = true → ∃ drive : Option TimedDrive,
            (s.flap.mode ≠ .timed → drive = s.flap.driveInFlight)
            ∧ (s.flap.mode = .timed →
                ∃ d, drive = some d ∧ d.start = s.flap.heldPosition ∧ d.destination = 1000 ∧ d.elapsed = 0)
            ∧ HomingFailed .line { s with flap := { s.flap with state := .homing, driveInFlight := drive } } t)
        ∧ (s.flap.faultLine = false → s.flap.mode = .timed →
            t.flap.state = .homing ∧ t.flap.towardFresh = true ∧ t.flap.failCount = s.flap.failCount
            ∧ ∃ d, t.flap.driveInFlight = some d ∧ d.start = s.flap.heldPosition ∧ d.destination = 1000 ∧ d.elapsed = 0
              ∧ s.flap.travelTime * 5 ≤ d.duration * 4 + 3 ∧ d.duration * 4 ≤ s.flap.travelTime * 5 + 3)
        ∧ (s.flap.faultLine = false → s.flap.mode = .edge ∨ (s.flap.mode = .tracked ∧ s.flap.ready = true) →
            t.flap.state = .homing ∧ t.flap.demand = 1000 ∧ t.flap.readyFallen = false
            ∧ t.flap.moveTimer = some { elapsed := 0, limit := s.flap.moveTimeout })
        ∧ (s.flap.faultLine = false → s.flap.mode = .tracked → s.flap.ready = false →
            t.flap.state = .homing ∧ t.flap.homingWaiting = true ∧ t.flap.demand = s.flap.demand
            ∧ t.flap.moveTimer = some { elapsed := 0, limit := s.flap.moveTimeout })
        ∧ (s.flap.faultLine = false → s.flap.mode = .direct →
            MoveFollows { s.flap with demand := 1000 }.homed t.flap
              ∧ ∃ p ∈ t.notices.pending, p.notice = .moveDone 1000))

/-! ### Filter and tally -/

/-- FILTER FIT: an unknown kind is refused; otherwise the whole record is replaced as R143's table says, and the journal is asked
for a FIT write, which joins the pending write or starts and looks for its target, and which a FAILED journal drops (R143, R156,
R157, R158, R163). -/
def Obligations.FilterFitTaken : Prop :=
  ∀ (f : FilterFitFields) (s : State), PortFree s → JournalQuiet s.journal →
    (2 < f.kind.toNat →
      ∃ t, exec (.filterFit f) s = .next t ∧ Answered (.filterFit f) 4 [] s t ∧ OnlyChanges [.link] s t)
    ∧ (f.kind.toNat ≤ 2 →
      ∃ t result, exec (.filterFit f) s = .next t ∧ Answered (.filterFit f) result [] s t
        ∧ (result = 1 ↔ (1 ≤ f.kind.toNat ∧ (Outside 1000 100000 f.pmCap.toNat ∨ Outside 500 999 f.etaPmBase.toNat))
            ∨ (f.kind.toNat = 2 ∧ (Outside 1000 200000 f.gasCap.toNat ∨ Outside 0 999 f.etaGasBase.toNat)))
        ∧ (result = 0 ∨ result = 1)
        ∧ OnlyChanges [.link, .filter, .journal, .notices] s t
        ∧ (f.kind.toNat = 0 → t.filter =
            { kind := .none, fitDay := f.fitDay.toNat, pmCap := 25000, gasCap := some 50000, etaPmBase := 950,
              etaGasBase := some 900, pmLoad := 0, gasLoad := 0, pmAcc := 0, gasAcc := 0, suspect := false,
              state := .none })
        ∧ (f.kind.toNat = 1 → t.filter =
            { kind := .particle, fitDay := f.fitDay.toNat, pmCap := toRange 1000 100000 f.pmCap.toNat,
              gasCap := none, etaPmBase := toRange 500 999 f.etaPmBase.toNat, etaGasBase := none, pmLoad := 0,
              gasLoad := 0, pmAcc := 0, gasAcc := 0, suspect := false, state := .inService })
        ∧ (f.kind.toNat = 2 → t.filter =
            { kind := .combined, fitDay := f.fitDay.toNat, pmCap := toRange 1000 100000 f.pmCap.toNat,
              gasCap := some (toRange 1000 200000 f.gasCap.toNat), etaPmBase := toRange 500 999 f.etaPmBase.toNat,
              etaGasBase := some (toRange 0 999 f.etaGasBase.toNat), pmLoad := 0, gasLoad := 0, pmAcc := 0,
              gasAcc := 0, suspect := false, state := .inService })
        ∧ (s.journal.state = .failed → t.journal = s.journal ∧ t.notices = s.notices)
        ∧ (s.journal.state = .ready → s.journal.write.isSome = true →
            t.journal.write = s.journal.write ∧ ∃ p, t.journal.pendingWrite = some p ∧ p.kind = .fit)
        ∧ (s.journal.state = .ready → s.journal.write = none → TargetSought (freshWrite .fit false t) s.journal t)
        ∧ (t.journal.state = s.journal.state → t.notices = s.notices))

/-- FILTER READ answers DONE with every field of the record and the three derived values, those absent for PARTICLE as 0, and
changes nothing (R145, with the values of R139 and the layout of section 11.6). -/
def Obligations.FilterReadAnswered : Prop :=
  ∀ s : State, PortFree s → s.filter.pmLoad < 2 ^ 32 → s.filter.gasLoad < 2 ^ 32 → s.filter.pmAcc < 2 ^ 32 →
    s.filter.gasAcc < 2 ^ 32 → s.filter.pmCap ≤ 100000 → s.filter.gasCap.getD 0 ≤ 200000 →
    s.filter.fitDay ≤ 65535 → s.filter.etaPmBase ≤ 999 → s.filter.etaGasBase.getD 0 ≤ 999 →
    ∃ t body, exec .filterRead s = .next t ∧ Answered .filterRead 0 body s t ∧ OnlyChanges [.link] s t
      ∧ body.length = 38
      ∧ fieldAt body 0 1 = s.filter.kind.code ∧ fieldAt body 1 2 = s.filter.fitDay
      ∧ fieldAt body 3 4 = s.filter.pmCap ∧ fieldAt body 7 4 = s.filter.gasCap.getD 0
      ∧ fieldAt body 11 2 = s.filter.etaPmBase ∧ fieldAt body 13 2 = s.filter.etaGasBase.getD 0
      ∧ fieldAt body 15 4 = s.filter.pmLoad ∧ fieldAt body 19 4 = s.filter.gasLoad
      ∧ fieldAt body 23 4 = s.filter.pmAcc ∧ fieldAt body 27 4 = s.filter.gasAcc
      ∧ fieldAt body 31 1 = s.filter.state.code + (if s.filter.suspect then 4 else 0)
      ∧ (fieldAt body 32 2 : Int) = etaPmByRules s.filter ∧ (fieldAt body 34 2 : Int) = etaGasByRules s.filter
      ∧ (fieldAt body 36 2 : Int) = derateByRules s.filter

/-- SHIFT: START zeroes the tally and makes it active, END makes it inactive and keeps it, READ changes nothing; START of an
active shift and END of an inactive one are refused with REFUSED-STATE, an unknown action with REFUSED-VALUE. Every DONE reply
holds the active flag and all six counts and sums (R149); that the flag answered is the one the event leaves is deduced (log 29). -/
def Obligations.ShiftTaken : Prop :=
  ∀ s : State, PortFree s →
    (s.tally.active = true →
      ∃ t, exec .shiftStart s = .next t ∧ Answered (.shift 0#8) 5 [] s t ∧ OnlyChanges [.link] s t)
    ∧ (s.tally.active = false →
      ∃ t body, exec .shiftStart s = .next t ∧ Answered (.shift 0#8) 0 body s t ∧ OnlyChanges [.link, .tally] s t
        ∧ t.tally = { active := true, seconds := 0, pmDose := 0, gasDose := 0, overLimit := 0, stops := 0, episodes := 0 }
        ∧ TallyAt t.tally body)
    ∧ (s.tally.active = false →
      ∃ t, exec .shiftEnd s = .next t ∧ Answered (.shift 1#8) 5 [] s t ∧ OnlyChanges [.link] s t)
    ∧ (s.tally.active = true →
      ∃ t body, exec .shiftEnd s = .next t ∧ Answered (.shift 1#8) 0 body s t ∧ OnlyChanges [.link, .tally] s t
        ∧ t.tally = { s.tally with active := false } ∧ TallyAt t.tally body)
    ∧ (∃ t body, exec .shiftRead s = .next t ∧ Answered (.shift 2#8) 0 body s t ∧ OnlyChanges [.link] s t
        ∧ TallyAt s.tally body)
    ∧ ∀ a : Byte, 2 < a.toNat →
      ∃ t, exec (.shiftRefusedValue a) s = .next t ∧ Answered (.shift a) 4 [] s t ∧ OnlyChanges [.link] s t

/-! ### Watch slots, notices, conditions -/

/-- WATCH SET writes the named slot afresh and evaluates it on its quantity's present value; WATCH CLEAR does the same to each slot
of its set, with the slot's own fields. The other slots stand. An unknown slot number, scope or member is refused (R178, R179). That
the clear's own evaluation may arm a CROSS slot, or hit an ABOVE or BELOW one, is R179's text; two rows of R180's table disagree
with it once a delivery follows, and that R179 is followed there is the model's choice (log 33). -/
def Obligations.WatchSlotsWritten : Prop :=
  (∀ (f : WatchSetFields) (s : State), PortFree s → f.slot.toNat = 0 ∨ 4 < f.slot.toNat ∨ f.scope.toNat = 3 →
      ∃ t, exec (.watchSet f) s = .next t ∧ Answered (.watchSet f) 4 [] s t ∧ OnlyChanges [.link] s t)
  ∧ (∀ (f : WatchSetFields) (n : SlotNumber) (q : Quantity) (k : WatchKind) (x : WatchScope) (s : State), PortFree s →
      f.slot.toNat = n.toNat → f.quantity.toNat = q.code → f.kind.toNat = k.code → f.scope.toNat = x.code →
      ∃ t, exec (.watchSet f) s = .next t ∧ Answered (.watchSet f) 0 [] s t
        ∧ OnlyChanges [.link, .watch, .notices] s t
        ∧ t.watch.get n = slotAfresh
            { quantity := q, kind := k, level := f.level.toInt, hysteresis := f.hysteresis.toNat, scope := x,
              armed := false, firstHit := none } (s.present q) s.uptime
        ∧ (∀ n' : SlotNumber, n' ≠ n → t.watch.get n' = s.watch.get n')
        ∧ ((t.watch.get n).firstHit = none → t.notices = s.notices)
        ∧ ((t.watch.get n).firstHit.isSome = true →
            ∃ p ∈ t.notices.pending, ∃ l, p.notice = .watch l ∧ n ∈ l))
  ∧ (∀ (set : Byte) (s : State), PortFree s → 15 < set.toNat →
      ∃ t, exec (.watchClear set) s = .next t ∧ Answered (.watchClear set) 4 [] s t ∧ OnlyChanges [.link] s t)
  ∧ ∀ (set : Byte) (s : State), PortFree s → set.toNat ≤ 15 →
      ∃ t, exec (.watchClear set) s = .next t ∧ Answered (.watchClear set) 0 [] s t
        ∧ OnlyChanges [.link, .watch, .notices] s t
        ∧ ∀ n : SlotNumber, t.watch.get n =
            (if set.getLsbD (n.toNat - 1) then slotAfresh (s.watch.get n) (s.present (s.watch.get n).quantity) s.uptime
            else s.watch.get n)

/-- WATCH READ answers DONE with all four slots in slot order, every field of each at its offset: quantity, kind, scope, level,
hysteresis, armed flag, hit flag, first-hit uptime and value, signed fields in two's complement; it changes nothing
(R180, R191, section 11.6). -/
def Obligations.WatchReadAnswered : Prop :=
  ∀ s : State, PortFree s →
    ∃ t body, exec .watchRead s = .next t ∧ Answered .watchRead 0 body s t ∧ OnlyChanges [.link] s t
      ∧ body.length = 61
      ∧ ∀ n : SlotNumber,
          fieldAt body (1 + 15 * (n.toNat - 1)) 1
              = 16 * (s.watch.get n).quantity.code + 4 * (s.watch.get n).kind.code + (s.watch.get n).scope.code
            ∧ fieldAt body (2 + 15 * (n.toNat - 1)) 4 = ((s.watch.get n).level % 2 ^ 32).toNat
            ∧ ((s.watch.get n).hysteresis < 2 ^ 16 →
                fieldAt body (6 + 15 * (n.toNat - 1)) 2 = (s.watch.get n).hysteresis)
            ∧ ((s.watch.get n).firstHit = none → fieldAt body (8 + 15 * (n.toNat - 1)) 4 = 0
                ∧ fieldAt body (12 + 15 * (n.toNat - 1)) 4 = 0)
            ∧ (∀ h, (s.watch.get n).firstHit = some h → h.uptime < 2 ^ 32 →
                fieldAt body (8 + 15 * (n.toNat - 1)) 4 = h.uptime)
            ∧ (∀ h, (s.watch.get n).firstHit = some h →
                fieldAt body (12 + 15 * (n.toNat - 1)) 4 = (h.value % 2 ^ 32).toNat)
            ∧ (fieldAt body 0 1 / 4 ^ (n.toNat - 1)) % 4
                = (if (s.watch.get n).firstHit.isSome then 1 else 0) + (if (s.watch.get n).armed then 2 else 0)

/-- A slot of kind ABOVE hits at an evaluation whose value is greater than the level, one of kind BELOW at one whose value is less.
The first hit sets the hit flag with time and value and raises WATCH; any other evaluation changes nothing, the armed flag
and the hysteresis taking no part (R174). An armed CROSS-UP slot hits above the level and is disarmed, and a disarmed one arms at or
below level - hysteresis; CROSS-DOWN is the mirror image; any other case changes nothing (R175). A slot in OFF is not
evaluated, no other slot is touched, and a delivery evaluates every slot that watches its quantity (R173, R176). -/
def Obligations.AboveAndBelowHit : Prop :=
  (∀ (n : SlotNumber) (v : Int) (s : State), (s.watch.get n).scope ≠ .off →
    (s.watch.get n).kind = .above ∨ (s.watch.get n).kind = .below →
    ((((s.watch.get n).kind = .above ∧ (s.watch.get n).level < v)
          ∨ ((s.watch.get n).kind = .below ∧ v < (s.watch.get n).level)) → (s.watch.get n).firstHit = none →
        (evaluateSlot n v s).watch.get n = { s.watch.get n with firstHit := some ⟨s.uptime, v⟩ }
          ∧ ∃ p ∈ (evaluateSlot n v s).notices.pending, ∃ l, p.notice = .watch l ∧ n ∈ l)
    ∧ (((s.watch.get n).kind = .above ∧ v ≤ (s.watch.get n).level)
          ∨ ((s.watch.get n).kind = .below ∧ (s.watch.get n).level ≤ v)
          ∨ (s.watch.get n).firstHit ≠ none →
        evaluateSlot n v s = s))
  ∧ (∀ (n : SlotNumber) (v : Int) (s : State), (s.watch.get n).scope ≠ .off →
    (s.watch.get n).kind = .crossUp ∨ (s.watch.get n).kind = .crossDown →
    ((s.watch.get n).armed = true →
        ((s.watch.get n).kind = .crossUp ∧ (s.watch.get n).level < v)
          ∨ ((s.watch.get n).kind = .crossDown ∧ v < (s.watch.get n).level) →
        ((s.watch.get n).firstHit = none →
          (evaluateSlot n v s).watch.get n = { s.watch.get n with armed := false, firstHit := some ⟨s.uptime, v⟩ }
            ∧ ∃ p ∈ (evaluateSlot n v s).notices.pending, ∃ l, p.notice = .watch l ∧ n ∈ l)
        ∧ ((s.watch.get n).firstHit ≠ none →
          (evaluateSlot n v s).watch.get n = { s.watch.get n with armed := false }
            ∧ (evaluateSlot n v s).notices = s.notices))
    ∧ ((s.watch.get n).armed = false →
        ((s.watch.get n).kind = .crossUp ∧ v ≤ (s.watch.get n).level - (s.watch.get n).hysteresis)
          ∨ ((s.watch.get n).kind = .crossDown ∧ (s.watch.get n).level + (s.watch.get n).hysteresis ≤ v) →
        (evaluateSlot n v s).watch.get n = { s.watch.get n with armed := true }
          ∧ (evaluateSlot n v s).notices = s.notices)
    ∧ (((s.watch.get n).armed = true ∧ (s.watch.get n).kind = .crossUp ∧ v ≤ (s.watch.get n).level)
          ∨ ((s.watch.get n).armed = true ∧ (s.watch.get n).kind = .crossDown ∧ (s.watch.get n).level ≤ v)
          ∨ ((s.watch.get n).armed = false ∧ (s.watch.get n).kind = .crossUp
            ∧ (s.watch.get n).level - (s.watch.get n).hysteresis < v)
          ∨ ((s.watch.get n).armed = false ∧ (s.watch.get n).kind = .crossDown
            ∧ v < (s.watch.get n).level + (s.watch.get n).hysteresis) →
        evaluateSlot n v s = s))
  ∧ (∀ (n : SlotNumber) (v : Int) (s : State),
      OnlyChanges [.watch, .notices] s (evaluateSlot n v s)
        ∧ (∀ n' : SlotNumber, n' ≠ n → (evaluateSlot n v s).watch.get n' = s.watch.get n')
        ∧ ((s.watch.get n).scope = .off → evaluateSlot n v s = s))
  ∧ ∀ (q : Quantity) (v : Int) (s : State),
      OnlyChanges [.watch, .notices] s (deliver q v s) ∧ Delivered q v s (deliver q v s)
        ∧ ∀ n : SlotNumber, (s.watch.get n).quantity ≠ q → (deliver q v s).watch.get n = s.watch.get n

/-- NOTICE FETCH takes the pending notice of highest priority among the unmasked kinds, or among all with the flag set, reports its
kind, repeated flag and detail, and makes it not pending; with none it answers EMPTY; a flag above 1 is refused. NOTICE MASK states
all the masks, touches no pending notice, and is refused for a bit above 12. A raising makes its kind pending with its detail and
the repeated flag clear, or merges into the pending one and sets the flag; the other kinds stand. The attention line follows (R182,
R183, R184, R185, R199). Where a one-byte code lies in the detail is the model's choice (log 30). -/
def Obligations.NoticesFetchedAndMasked : Prop :=
  (∀ s : State, PortFree s → NoticesSound s →
    (∀ f : Byte, 1 < f.toNat →
      ∃ t, exec (.noticeFetch f) s = .next t ∧ Answered (.noticeFetch f) 4 [] s t ∧ OnlyChanges [.link] s t)
    ∧ (∀ f : Byte, f.toNat ≤ 1 →
      (∀ p ∈ s.notices.pending, f.toNat = 0 ∧ p.notice.kind ∈ s.notices.masked) →
      ∃ t, exec (.noticeFetch f) s = .next t ∧ Answered (.noticeFetch f) 6 [] s t ∧ OnlyChanges [.link] s t)
    ∧ (∀ (f : Byte) (p : PendingNotice), f.toNat ≤ 1 → p ∈ s.notices.pending →
      f.toNat = 1 ∨ p.notice.kind ∉ s.notices.masked →
      (∀ q ∈ s.notices.pending, f.toNat = 1 ∨ q.notice.kind ∉ s.notices.masked →
        p.notice.kind.priority ≤ q.notice.kind.priority) →
      ∃ t body, exec (.noticeFetch f) s = .next t ∧ Answered (.noticeFetch f) 0 body s t
        ∧ OnlyChanges [.link, .notices] s t
        ∧ body.length = 6 ∧ fieldAt body 0 1 = p.notice.kind.priority
        ∧ fieldAt body 1 1 = (if p.repeated then 1 else 0) ∧ DetailAt body 2 p.notice
        ∧ (∀ q, q ∈ t.notices.pending ↔ q ∈ s.notices.pending ∧ q ≠ p)
        ∧ (t.notices.attention = true ↔ ∃ q ∈ t.notices.pending, q.notice.kind ∉ t.notices.masked)
        ∧ t.notices.masked = s.notices.masked ∧ t.notices.conditionFlags = s.notices.conditionFlags)
    ∧ (∀ k : Word16, 8191 < k.toNat →
      ∃ t, exec (.noticeMask k) s = .next t ∧ Answered (.noticeMask k) 4 [] s t ∧ OnlyChanges [.link] s t)
    ∧ ∀ k : Word16, k.toNat ≤ 8191 →
      ∃ t, exec (.noticeMask k) s = .next t ∧ Answered (.noticeMask k) 0 [] s t
        ∧ OnlyChanges [.link, .notices] s t
        ∧ (∀ x : NoticeKind, x ∈ t.notices.masked ↔ k.getLsbD (x.priority - 1) = true)
        ∧ t.notices.pending = s.notices.pending
        ∧ (t.notices.attention = true ↔ ∃ q ∈ s.notices.pending, k.getLsbD (q.notice.kind.priority - 1) = false)
        ∧ t.notices.conditionMasked = s.notices.conditionMasked)
  ∧ ∀ (n : Notice) (s : State), NoticesSound s →
      OnlyChanges [.notices] s (raise n s) ∧ (raise n s).notices.masked = s.notices.masked
        ∧ ((raise n s).notices.attention = true ↔
            ∃ q ∈ (raise n s).notices.pending, q.notice.kind ∉ s.notices.masked)
        ∧ ((∀ p ∈ s.notices.pending, p.notice.kind ≠ n.kind) →
            ∀ q, q ∈ (raise n s).notices.pending ↔ q ∈ s.notices.pending ∨ q = ⟨n, false⟩)
        ∧ ∀ p ∈ s.notices.pending, p.notice.kind = n.kind →
            ∃ m, Merged p.notice n m
              ∧ ∀ q, q ∈ (raise n s).notices.pending ↔ q ∈ s.notices.pending ∧ q ≠ p ∨ q = ⟨m, true⟩

/-- CONDITIONS states the masks where its set is present, reports the flags as they stood, the masks as it leaves them and the
last-condition record, and clears the flags on CLEAR; an unknown option or a bit above 5 refuses it (R188, R199). An occurrence of a
condition kind sets its flag; where the kind is unmasked it also overwrites the record with the kind, the quantity, the uptime and
the value, and raises CONDITION with the kind in its set (R187). -/
def Obligations.ConditionsTaken : Prop :=
  (∀ (c : Byte) (m : Option Byte) (s : State), PortFree s →
    (1 < c.toNat ∨ (∃ x, m = some x ∧ 63 < x.toNat) →
      ∃ t, exec (.conditions c m) s = .next t ∧ Answered (.conditions c m) 4 [] s t ∧ OnlyChanges [.link] s t)
    ∧ (c.toNat ≤ 1 → (∀ x, m = some x → x.toNat ≤ 63) →
      ∃ t body, exec (.conditions c m) s = .next t ∧ Answered (.conditions c m) 0 body s t
        ∧ OnlyChanges [.link, .notices] s t
        ∧ body.length = 13
        ∧ (∀ k : ConditionKind, (fieldAt body 0 1).testBit k.code = decide (k ∈ s.notices.conditionFlags)
            ∧ (fieldAt body 1 1).testBit k.code = decide (k ∈ t.notices.conditionMasked))
        ∧ t.notices.conditionFlags = (if c.toNat = 1 then [] else s.notices.conditionFlags)
        ∧ (m = none → t.notices.conditionMasked = s.notices.conditionMasked)
        ∧ (∀ x, m = some x → ∀ k : ConditionKind, k ∈ t.notices.conditionMasked ↔ x.getLsbD k.code = true)
        ∧ t.notices.pending = s.notices.pending ∧ t.notices.masked = s.notices.masked
        ∧ t.notices.attention = s.notices.attention ∧ t.notices.lastCondition = s.notices.lastCondition
        ∧ fieldAt body 2 1 = (if s.notices.lastCondition.isSome then 1 else 0)
        ∧ ∀ r, s.notices.lastCondition = some r →
            fieldAt body 3 1 = r.kind.code ∧ fieldAt body 4 1 = (r.quantity.map (·.code)).getD 255
              ∧ fieldAt body 5 4 = r.uptime % 2 ^ 32 ∧ fieldAt body 9 4 = (r.value % 2 ^ 32).toNat))
  ∧ ∀ (k : ConditionKind) (q : Option Quantity) (v : Int) (s : State),
      OnlyChanges [.notices] s (occur k q v s)
        ∧ (∀ k', k' ∈ (occur k q v s).notices.conditionFlags ↔ k' ∈ s.notices.conditionFlags ∨ k' = k)
        ∧ (occur k q v s).notices.conditionMasked = s.notices.conditionMasked
        ∧ (k ∈ s.notices.conditionMasked →
            (occur k q v s).notices.lastCondition = s.notices.lastCondition
              ∧ (occur k q v s).notices.pending = s.notices.pending)
        ∧ (k ∉ s.notices.conditionMasked →
            (occur k q v s).notices.lastCondition = some ⟨k, q, s.uptime, v⟩
              ∧ ∃ p ∈ (occur k q v s).notices.pending, ∃ l, p.notice = .condition l ∧ k ∈ l)

/-! ### Reads -/

/-- STATE answers 64 bytes that hold every reportable value at its offset of section 11.6, as it stands: the estimates and the fog
margin, uptime and last change, the policy, the drive state, the interval channels, the detectors, the flap and the blower, the
filter, tally and journal, and the pending notices. It changes nothing. The codes of this and every other reply are numbered as the
spec lists their values (R28, R55, R72, R111, R136, R152, R170, R189, R191, R201). -/
def Obligations.StateAnswered : Prop :=
  CodesAsListed ∧ ∀ s : State, PortFree s → EstimatesInRange s → PositionsInRange s → s.uptime < 2 ^ 32 → s.policy.comfort ≤ 7 →
    s.policy.demand ≤ 7 → s.drive.lastSpeed ≤ 250 → s.flap.failCount ≤ 3 → s.blower.level ≤ 7 →
    ∃ t body, exec .stateRead s = .next t ∧ Answered .stateRead 0 body s t ∧ OnlyChanges [.link] s t
      ∧ body.length = 62
      ∧ (fieldAt body 0 2 = s.est.epm.toNat ∧ fieldAt body 2 2 = s.est.egs.toNat ∧ fieldAt body 4 4 = s.est.eco.toNat
        ∧ fieldAt body 8 2 = s.est.eah.toNat ∧ fieldAt body 10 4 = (s.est.fogMargin % 2 ^ 32).toNat)
      ∧ (fieldAt body 14 4 = s.uptime ∧ ∀ u, s.policy.lastChange = some u → u < 2 ^ 32 → fieldAt body 18 4 = u)
      ∧ (fieldAt body 22 1 = s.policy.mode.code + 4 * s.policy.hold.code + (if s.policy.purging then 16 else 0)
            + (if s.policy.held then 32 else 0) + (if s.policy.fogFlag then 64 else 0)
            + (if s.policy.ceilingFlag then 128 else 0)
        ∧ fieldAt body 23 1 = s.policy.basis.code + (if s.policy.lastChange.isSome then 128 else 0)
        ∧ fieldAt body 24 2 = s.policy.target.toNat ∧ fieldAt body 26 1 = s.policy.comfort + 16 * s.policy.demand)
      ∧ (fieldAt body 27 1 = s.drive.vehicle.code + (if s.drive.stopFlag then 4 else 0)
            + (if s.drive.drv.isOpen then 8 else 0) + (if s.drive.krb.isOpen then 16 else 0) + 32 * s.drive.freshness.code
        ∧ fieldAt body 28 1 = s.drive.reportedSpeed
        ∧ fieldAt body 29 1 = engineCode s.drive.engine + (if s.timers.est.isSome then 4 else 0)
            + (if s.timers.dec.isSome then 8 else 0) + (if s.timers.hold.isSome then 16 else 0)
            + (if s.timers.purge.isSome then 32 else 0) + (if s.timers.ckpt.isSome then 64 else 0))
      ∧ (∀ p ∈ [(30, s.timers.est), (32, s.timers.dec), (34, s.timers.hold), (36, s.timers.purge)],
          (p.2 = none → fieldAt body p.1 2 = 0)
            ∧ ∀ ms, p.2 = some ms → ms ≤ 65535000 →
                ms ≤ fieldAt body p.1 2 * 1000 ∧ fieldAt body p.1 2 * 1000 < ms + 1000)
      ∧ fieldAt body 38 2 = s.timers.ckpt.getD 0 % 2 ^ 16
      ∧ (fieldAt body 40 1 = (if s.tracker.pm.openEpisode.isSome then 1 else 0)
            + (if s.tracker.gas.openEpisode.isSome then 2 else 0)
        ∧ fieldAt body 41 2 = s.tracker.pm.openEpisode.getD 0 % 2 ^ 16
        ∧ fieldAt body 43 2 = s.tracker.gas.openEpisode.getD 0 % 2 ^ 16)
      ∧ (fieldAt body 45 1 = s.flap.mode.code + 4 * s.flap.state.code + 32 * s.flap.failCount
        ∧ fieldAt body 46 1 = (if s.flap.inhibit then 1 else 0) + (if s.flap.ready then 2 else 0)
            + (if s.flap.faultLine then 4 else 0) + (if s.blower.fault then 8 else 0) + 16 * s.blower.level
        ∧ fieldAt body 47 2 = s.flap.target.toNat ∧ fieldAt body 49 2 = s.flap.setPoint.toNat
        ∧ (fieldAt body 51 2 : Int) = positionByRules s)
      ∧ (fieldAt body 53 1 = s.filter.state.code + (if s.filter.suspect then 4 else 0) + (if s.tally.active then 8 else 0)
            + (if s.journal.state = .failed then 16 else 0) + 32 * phaseCode s.journal.write
        ∧ fieldAt body 54 1 = (s.journal.pendingWrite.map (·.kind.code)).getD 0
            + 4 * (s.journal.newest.map (·.kind.code)).getD 0
        ∧ (∀ k, k < 8 → (fieldAt body 55 1).testBit k = decide (k ∈ s.journal.retired))
        ∧ fieldAt body 56 4 = (s.journal.newest.map (·.sequence)).getD 0 % 2 ^ 32)
      ∧ ∀ k : NoticeKind, (fieldAt body 60 2).testBit (k.priority - 1) = decide (∃ p ∈ s.notices.pending, p.notice.kind = k)

/-- CHANNELS answers 64 bytes: the fault flags, then for each channel its state, usable value, last quality, last value and age, and
changes nothing (R92, R202). -/
def Obligations.ChannelsAnswered : Prop :=
  ∀ s : State, PortFree s →
    ∃ t body, exec .channels s = .next t ∧ Answered .channels 0 body s t ∧ OnlyChanges [.link] s t
      ∧ body.length = 62
      ∧ ∀ c : Channel,
          (fieldAt body 0 2).testBit c.code = (s.channels.get c).faultFlag
          ∧ fieldAt body (2 + 6 * c.code) 2 / 16384 = (s.channels.get c).state.code
          ∧ fieldAt body (2 + 6 * c.code) 2 % 16384 = ((s.channels.get c).usable % 16384).toNat
          ∧ fieldAt body (4 + 6 * c.code) 2 / 16384 = qualityCode (s.channels.get c).lastQuality
          ∧ fieldAt body (4 + 6 * c.code) 2 % 16384 = ((s.channels.get c).lastValue % 16384).toNat
          ∧ ((s.channels.get c).state = .none → fieldAt body (6 + 6 * c.code) 2 = 0)
          ∧ (∀ ms, (s.channels.get c).state ≠ .none → (s.channels.get c).ageMs = some ms → ms < 65536000 →
              fieldAt body (6 + 6 * c.code) 2 = ms / 1000)

/-- EPISODES answers the first three qualifying records in table order, every field of each at its offset, and whether more
follow; with none it answers EMPTY; the tracker does not change (R59, R71, section 11.6). -/
def Obligations.EpisodesAnswered : Prop :=
  ∀ (g : Word16) (s : State), PortFree s → ∀ found : List Episode,
    found = s.tracker.table.filter (fun e =>
      decide (g.toNat = 0 ∨ ((e.number : Int) - g.toNat) % 65535 < 32768)) →
    ∃ t body, exec (.episodes g) s = .next t
      ∧ Answered (.episodes g) (if found = [] then 6 else 0) body s t ∧ OnlyChanges [.link] s t
      ∧ body.length = 1 + 19 * min 3 found.length
      ∧ fieldAt body 0 1 = (if 3 < found.length then 1 else 0)
      ∧ ∀ i : Nat, i < 3 → ∀ e, found[i]? = some e →
          fieldAt body (1 + 19 * i) 2 = e.number % 2 ^ 16
          ∧ fieldAt body (3 + 19 * i) 1 = e.source.code + (if e.ending.isSome then 2 else 0) + 4 * endCauseCode e.ending
          ∧ fieldAt body (4 + 19 * i) 4 = e.start % 2 ^ 32
          ∧ fieldAt body (8 + 19 * i) 4 = (e.ending.map (·.time)).getD 0 % 2 ^ 32
          ∧ fieldAt body (12 + 19 * i) 2 = (e.peak % 2 ^ 16).toNat
          ∧ fieldAt body (14 + 19 * i) 2 = (e.baselineAtOpen % 2 ^ 16).toNat
          ∧ fieldAt body (16 + 19 * i) 4 = e.dose % 2 ^ 32

/-! ### PARK and RESTART -/

/-- PARK while PARKED is answered DONE and changes nothing. In any other state the vehicle state becomes PARKED, EST, DEC, CKPT
and PURGE stop, the target becomes 1000 and is handed to the flap where it is a new one, with its last change, the blower stops,
and the reply waits for the PARK write, which joins the pending write or starts, or goes out at once when the journal is FAILED or
fails now (R30, R33, R102, R156 to R158, R163, R196). -/
def Obligations.ParkTaken : Prop :=
  ∀ s : State, PortFree s → JournalQuiet s.journal →
    (s.drive.vehicle = .parked →
      ∃ t, exec .park s = .next t ∧ Answered .park 0 [] s t ∧ OnlyChanges [.link] s t)
    ∧ (s.drive.vehicle ≠ .parked →
      ∃ t, exec .park s = .next t
        ∧ t.drive = { s.drive with vehicle := .parked }
        ∧ t.timers = { s.timers with est := none, dec := none, ckpt := none, purge := none }
        ∧ t.policy.target = 1000 ∧ t.policy.basis = .parked ∧ t.policy.held = false ∧ t.policy.fogFlag = false
        ∧ t.policy.ceilingFlag = s.policy.ceilingFlag ∧ t.policy.purging = false ∧ t.policy.hold = s.policy.hold
        ∧ t.policy.demand = 0 ∧ (s.blower.level = s.policy.demand → t.blower.level = 0)
        ∧ OnlyChanges [.link, .drive, .policy, .timers, .flap, .blower, .journal, .notices] s t
        ∧ (s.journal.state = .failed → t.journal = s.journal ∧ Answered .park 0 [] s t)
        ∧ (s.journal.state = .ready → s.journal.write.isSome = true →
            t.journal.write = s.journal.write ∧ t.link.sending = none ∧ t.link.holding = true
              ∧ ∃ p, t.journal.pendingWrite = some p ∧ p.parkOwed = true)
        ∧ TargetFollows s t
        ∧ (s.journal.state = .ready → s.journal.write = none →
            TargetSought (freshWrite .park true t) s.journal t
              ∧ (t.journal.state = .ready → t.link.sending = none ∧ t.link.holding = true))
        ∧ (s.journal.state = .ready → t.journal.state = .failed → Answered .park 0 [] s t))

/-- RESTART is released at once with DONE when no write is in flight or the journal is FAILED; otherwise it holds the head and the
journal has a RESTART waiting. Nothing else changes before the reset (R167, R197). -/
def Obligations.RestartTaken : Prop :=
  ∀ s : State, PortFree s →
    (s.journal.write = none ∨ s.journal.state = .failed →
      ∃ t, exec .restart s = .next t ∧ Answered .restart 0 [] s t ∧ OnlyChanges [.link] s t)
    ∧ (s.journal.write.isSome = true → s.journal.state ≠ .failed →
      exec .restart s = .next { s with
        link := { s.link with receiver := .hunt, gapMs := 0, queue := [.restart], holding := true },
        journal := { s.journal with restartWaiting := true } })

/-! ### Sensors -/

/-- A GOOD sample is clamped and accepted: the channel is LIVE with its age at 0, the other channels stand, a clamped one raises
INPUT-CLAMPED and no other does, and CPM, CCO and CRH store their fresh measurement. After CRH, CTM and STM the fog margin is
recomputed from the three usable values, with a lookup for CTM and then one for STM, and raises TABLE-CLAMPED exactly where one of
them lies outside the table (of OPM and OGS, whose detector may run a decision, nothing is said of that kind); the first OGS sample
accepted while not PARKED sets EGS; the rest of the estimator stands; every slot that watches the channel, the margin or EGS is
evaluated on the new value, and no other. A WARMING or FAULT sample, and a record that names no channel or quality, reach no
consumer (R1, R3, R20, R23, R25, R78 to R81, R172; the last is the model's choice, log 21). -/
def Obligations.SampleTaken : Prop :=
  (∀ (c : Channel) (raw : Int) (s : State),
      ∃ t, exec (.sample c.code raw 0) s = .next t
        ∧ t.channels.get c = { s.channels.get c with
            state := .live, lastValue := max c.range.1 (min c.range.2 raw), ageMs := some 0, faultFlag := false,
            lastQuality := some .good }
        ∧ t.usable c = max c.range.1 (min c.range.2 raw)
        ∧ (∀ c' : Channel, c' ≠ c → t.channels.get c' = s.channels.get c')
        ∧ Occurred .inputClamped (raw < c.range.1 ∨ c.range.2 < raw) s t
        ∧ (c = .cpm → t.est = { s.est with freshCpm := some (max 0 (min 1000 raw)) })
        ∧ (c = .cco → t.est = { s.est with freshCco := some (max 300 (min 5000 raw)) })
        ∧ (c = .crh → t.est = { s.est with freshCrh := some (max 0 (min 1000 raw)), fogMargin := marginByRules t })
        ∧ (c = .ctm ∨ c = .stm → t.est = { s.est with fogMargin := marginByRules t })
        ∧ (c = .opm ∨ c = .orh ∨ c = .otm ∨ c = .fpos → t.est = s.est)
        ∧ (c ≠ .opm → c ≠ .ogs → LookupsNoted .ctm .stm (GivesMargin c) s t)
        ∧ (c = .ogs → t.est = (if s.est.gasSnapArmed = true ∧ s.drive.vehicle ≠ .parked then
            { s.est with egs := max 0 (min 2000 raw) * 16, gasSnapArmed := false } else s.est))
        ∧ (∀ n : SlotNumber, t.watch.get n =
            (if (s.watch.get n).quantity = .channel c then
              slotEvaluated (s.watch.get n) (max c.range.1 (min c.range.2 raw)) s.uptime
            else if (s.watch.get n).quantity = .fog ∧ (c = .crh ∨ c = .ctm ∨ c = .stm) then
              slotEvaluated (s.watch.get n) t.est.fogMargin s.uptime
            else if (s.watch.get n).quantity = .egs ∧ c = .ogs ∧ s.est.gasSnapArmed = true
                ∧ s.drive.vehicle ≠ .parked then
              slotEvaluated (s.watch.get n) t.est.egs s.uptime
            else s.watch.get n))
        ∧ (c = .orh ∨ c = .otm ∨ c = .fpos → OnlyChanges [.channels, .watch, .notices] s t)
        ∧ (c = .cpm ∨ c = .cco ∨ c = .crh ∨ c = .ctm ∨ c = .stm → OnlyChanges [.channels, .est, .watch, .notices] s t)
        ∧ OnlyChanges [.channels, .est, .policy, .tracker, .timers, .flap, .blower, .watch, .notices, .tally] s t)
  ∧ (∀ (c : Channel) (raw : Int) (s : State),
      ∃ t, exec (.sample c.code raw 1) s = .next t ∧ OnlyChanges [.channels] s t
        ∧ t.channels.get c = { s.channels.get c with lastQuality := some .warming }
        ∧ ∀ c' : Channel, c' ≠ c → t.channels.get c' = s.channels.get c')
  ∧ (∀ (c : Channel) (raw : Int) (s : State),
      ∃ t, exec (.sample c.code raw 2) s = .next t ∧ OnlyChanges [.channels] s t
        ∧ t.channels.get c = { s.channels.get c with lastQuality := some .fault, faultFlag := true }
        ∧ ∀ c' : Channel, c' ≠ c → t.channels.get c' = s.channels.get c')
  ∧ ∀ (code quality : Nat) (raw : Int) (s : State), 9 < code ∨ 2 < quality →
      exec (.sample code raw quality) s = .next s

/-- A reading of the position feedback inside its span is a GOOD sample of FPOS, one outside it a FAULT sample; in TRACKED and EDGE
the accepted value is the flap's position outside FAULT and DISABLED (R86, R113, R130). -/
def Obligations.FposReadTaken : Prop :=
  ∀ s : State,
    (∀ x : Int, ∃ t, exec (.fposRead (some x)) s = .next t ∧ OnlyChanges [.channels, .watch, .notices] s t
      ∧ t.channels.fpos = { s.channels.fpos with
          state := .live, lastValue := max 0 (min 1000 x), ageMs := some 0, faultFlag := false,
          lastQuality := some .good }
      ∧ ((s.flap.mode = .tracked ∨ s.flap.mode = .edge) → s.flap.state ≠ .fault → s.flap.state ≠ .disabled →
          t.flapPosition = max 0 (min 1000 x))
      ∧ (s.flap.state = .fault ∨ s.flap.state = .disabled → t.flapPosition = s.flap.heldPosition))
    ∧ ∃ t, exec (.fposRead none) s = .next t ∧ OnlyChanges [.channels] s t
      ∧ t.channels.fpos = { s.channels.fpos with lastQuality := some .fault, faultFlag := true }

/-- When the age of a LIVE channel reaches its stale time, the channel enters STALE, its usable value stays, and nothing else
changes; with equal times it passes straight to LOST. A GOOD sample brings it back to LIVE with its age at 0 (R82). That the
expiry sets the age to the stale time, and that outside LIVE it changes nothing, is the model's choice (log 3). -/
def Obligations.StaleEntered : Prop :=
  ∀ (c : Channel) (s : State),
    ((s.channels.get c).state = .live → (s.channels.get c).staleTime < (s.channels.get c).lostTime →
      ∃ t, exec (.staleExpiry c) s = .next t ∧ OnlyChanges [.channels] s t
        ∧ t.channels.get c = { s.channels.get c with
            state := .stale, ageMs := some ((s.channels.get c).staleTime * 1000) }
        ∧ t.usable c = s.usable c
        ∧ ∀ c' : Channel, c' ≠ c → t.channels.get c' = s.channels.get c')
    ∧ ((s.channels.get c).state = .live → (s.channels.get c).staleTime = (s.channels.get c).lostTime →
        ∃ t, exec (.staleExpiry c) s = .next t ∧ (t.channels.get c).state = .lost)
    ∧ ((s.channels.get c).state ≠ .live → exec (.staleExpiry c) s = .next s)
    ∧ ∀ raw : Int, (s.channels.get c).state = .stale ∨ (s.channels.get c).state = .live →
        ∃ t, exec (.sample c.code raw 0) s = .next t ∧ (t.channels.get c).state = .live
          ∧ (t.channels.get c).ageMs = some 0

/-- When the age of a LIVE or STALE channel reaches its lost time, the channel enters LOST and its usable value becomes the
substitute, which is delivered to the slots that watch it; SENSOR-LOST is pending with the channel in its set, OPM and OGS unset the
baseline of their detector and close its open episode with CHANNEL-LOST, which the hold machine takes, and CRH, CTM and STM have the
fog margin recomputed, with a lookup for CTM and then one for STM, which raise TABLE-CLAMPED exactly where one of them lies outside
the table (of OPM and OGS, whose detector may run a decision, nothing is said of that kind); the rest of the estimator stands, and
so does the flag of INPUT-CLAMPED (R1, R23, R25, R47, R68, R69, R80, R83, R172). That the expiry sets the age to the lost
time, and that in NONE and LOST it does not occur, is the model's choice (log 3). -/
def Obligations.LostEntered : Prop :=
  ∀ (c : Channel) (s : State),
    ((s.channels.get c).state = .live ∨ (s.channels.get c).state = .stale →
      ∃ t, exec (.lostExpiry c) s = .next t
        ∧ t.channels.get c = { s.channels.get c with
            state := .lost, ageMs := some ((s.channels.get c).lostTime * 1000) }
        ∧ (∀ c' : Channel, c' ≠ c → t.channels.get c' = s.channels.get c')
        ∧ t.usable c = (s.channels.get c).substitute.getD (s.channels.get c).lastValue
        ∧ (∃ p ∈ t.notices.pending, ∃ l, p.notice = .sensorLost l ∧ c ∈ l)
        ∧ Delivered (.channel c) (t.usable c) s t
        ∧ MarginFollows c s t ∧ (GivesMargin c → Delivered .fog t.est.fogMargin s t)
        ∧ (.inputClamped ∈ t.notices.conditionFlags ↔ .inputClamped ∈ s.notices.conditionFlags)
        ∧ (∀ d : DetectorId, c.code = d.code → LossClosed d s t)
        ∧ (c ≠ .opm → c ≠ .ogs → OnlyChanges [.channels, .est, .watch, .notices] s t)
        ∧ OnlyChanges [.channels, .est, .policy, .tracker, .timers, .flap, .blower, .watch, .notices] s t)
    ∧ ((s.channels.get c).state = .none ∨ (s.channels.get c).state = .lost → exec (.lostExpiry c) s = .next s)

/-- What an accepted sample does at its detector. An unset baseline takes the sample. Of a QUIET detector a sample that passes the
level or the jump test opens an episode: it takes the next number, which then rises by 1 or goes from 65535 to 1; its record joins
the end of the table OPEN, of a full table the oldest CLOSED record is gone; PLUME-OPEN names it, an active tally counts it, and
the hold machine takes the opening. Any other sample moves the baseline by a 64th of its distance. Of an OPEN detector a sample
updates the record's peak and dose and the release count, and closes the episode, RELEASED at the release count setting, else
LIMIT at the maximum duration; the hold machine takes the closing. Where an event of an OPEN detector, a sample or the loss of its
channel, meets an opening of the other, the tracker is the same in either order, and the hold machine, not LAPSED, ends in HOLDING.
One case is excepted, a full table in which the record that closes has no CLOSED one ahead: with the closing first R62 removes that
record, with the opening first the next CLOSED one, and R74's last sentence does not hold (the model's choice, log 32). The next number is 1 after each reset, and no command but a
sample or a reset moves it (R47, R59, R61 to R69, R74, R148). -/
def Obligations.EpisodeNumbered : Prop :=
  State.reset.tracker.nextNumber = 1
  ∧ (∀ (d : DetectorId) (x : Nat) (s : State), x ≤ (if d = .pm then 1000 else 2000) →
      ∀ b, (s.tracker.detector d).baseline = some b → (s.tracker.detector d).openEpisode = none →
      (s.tracker.detector d).settings.level ≤ x ∨ b + (s.tracker.detector d).settings.jump * 16 ≤ (x : Int) * 16 →
      ∃ t kept, exec (.sample d.code x 0) s = .next t
        ∧ t.tracker.detector d = { s.tracker.detector d with openEpisode := some s.tracker.nextNumber, release := 0 }
        ∧ t.tracker.nextNumber = (if s.tracker.nextNumber = 65535 then 1 else s.tracker.nextNumber + 1)
        ∧ t.tracker.table = kept ++ [
            { number := s.tracker.nextNumber, source := d, start := s.uptime, ending := none, peak := x,
              baselineAtOpen := b / 16, dose := min 4294967295 ((x : Int) * 16 - b).toNat }]
        ∧ kept.Sublist s.tracker.table ∧ RoomMade s.tracker.table kept
        ∧ (∃ p ∈ t.notices.pending, p.notice = .plumeOpen s.tracker.nextNumber d)
        ∧ (∀ d' : DetectorId, d' ≠ d → t.tracker.detector d' = s.tracker.detector d')
        ∧ t.tally = (if s.tally.active then { s.tally with episodes := min 65535 (s.tally.episodes + 1) } else s.tally)
        ∧ HoldTookOpening s t)
  ∧ (∀ (d : DetectorId) (x : Nat) (s : State), x ≤ (if d = .pm then 1000 else 2000) →
      (s.tracker.detector d).baseline = none →
      ∃ t, exec (.sample d.code x 0) s = .next t
        ∧ t.tracker.detector d = { s.tracker.detector d with baseline := some ((x : Int) * 16) }
        ∧ (∀ d' : DetectorId, d' ≠ d → t.tracker.detector d' = s.tracker.detector d')
        ∧ t.tracker.table = s.tracker.table ∧ t.tracker.nextNumber = s.tracker.nextNumber ∧ t.tally = s.tally
        ∧ PolicyStands s t)
  ∧ (∀ (d : DetectorId) (x : Nat) (s : State), x ≤ (if d = .pm then 1000 else 2000) →
      ∀ b, (s.tracker.detector d).baseline = some b → (s.tracker.detector d).openEpisode = none →
      x < (s.tracker.detector d).settings.level → (x : Int) * 16 < b + (s.tracker.detector d).settings.jump * 16 →
      ∃ t, exec (.sample d.code x 0) s = .next t
        ∧ t.tracker.detector d = { s.tracker.detector d with baseline := some (b + Int.tdiv ((x : Int) * 16 - b) 64) }
        ∧ (∀ d' : DetectorId, d' ≠ d → t.tracker.detector d' = s.tracker.detector d')
        ∧ t.tracker.table = s.tracker.table ∧ t.tracker.nextNumber = s.tracker.nextNumber ∧ t.tally = s.tally
        ∧ PolicyStands s t)
  ∧ (∀ (d : DetectorId) (x : Nat) (s : State), x ≤ (if d = .pm then 1000 else 2000) →
      ∀ b, (s.tracker.detector d).baseline = some b → (s.tracker.detector d).openEpisode.isSome = true →
      ∀ pre e post, OpenRecordAt d pre e post s.tracker.table →
      ∀ n : Nat, n = releaseByRules (s.tracker.detector d) x b →
      ∃ t, exec (.sample d.code x 0) s = .next t
        ∧ (∀ d' : DetectorId, d' ≠ d → t.tracker.detector d' = s.tracker.detector d')
        ∧ t.tracker.nextNumber = s.tracker.nextNumber ∧ t.tally = s.tally ∧ (t.tracker.detector d).baseline = some b
        ∧ ((s.tracker.detector d).settings.releaseCount ≤ n → EpisodeClosed d .released pre (recordSampled x b e) post s t)
        ∧ (n < (s.tracker.detector d).settings.releaseCount →
            ((s.tracker.detector d).settings.maxDuration : Int) ≤ (s.uptime : Int) - e.start →
            EpisodeClosed d .limit pre (recordSampled x b e) post s t)
        ∧ (n < (s.tracker.detector d).settings.releaseCount →
            (s.uptime : Int) - e.start < (s.tracker.detector d).settings.maxDuration →
            t.tracker.table = pre ++ recordSampled x b e :: post
              ∧ t.tracker.detector d = { s.tracker.detector d with release := n } ∧ PolicyStands s t))
  ∧ (∀ (c d : DetectorId) (ch : Channel) (other : Instr) (x y : Nat) (s : State), c ≠ d → ch.code = c.code →
      x ≤ (if c = .pm then 1000 else 2000) → y ≤ (if d = .pm then 1000 else 2000) →
      other = .sample c.code x 0 ∨ other = .lostExpiry ch →
      ∀ b, (s.tracker.detector d).baseline = some b → (s.tracker.detector d).openEpisode = none →
      (s.tracker.detector d).settings.level ≤ y ∨ b + (s.tracker.detector d).settings.jump * 16 ≤ (y : Int) * 16 →
      EpisodesSound s → ∀ pre e post, OpenRecordAt c pre e post s.tracker.table →
      ∃ t t' u u', exec other s = .next t ∧ exec (.sample d.code y 0) t = .next t'
        ∧ exec (.sample d.code y 0) s = .next u ∧ exec other u = .next u'
        ∧ (∀ k : DetectorId, t'.tracker.detector k = u'.tracker.detector k) ∧ t'.tracker.nextNumber = u'.tracker.nextNumber
        ∧ (s.tracker.table.length < 16 ∨ (∃ p ∈ pre, p.ending.isSome = true) ∨ (t.tracker.detector c).openEpisode.isSome = true →
            t'.tracker.table = u'.tracker.table)
        ∧ (16 ≤ s.tracker.table.length → (∀ p ∈ pre, p.ending = none) → (t.tracker.detector c).openEpisode = none →
            ∃ x n, x.number = e.number ∧ (∃ cause, x.ending = some ⟨s.uptime, cause⟩) ∧ n.number = s.tracker.nextNumber
              ∧ t'.tracker.table = pre ++ post ++ [n]
              ∧ ∀ mid q post', post = mid ++ q :: post' → (∀ p ∈ mid, p.ending = none) → q.ending.isSome = true →
                  u'.tracker.table = pre ++ x :: (mid ++ post') ++ [n])
        ∧ (s.policy.hold ≠ .lapsed → t'.policy.hold = .holding ∧ u'.policy.hold = .holding))
  ∧ (∀ (c : Instr) (s t : State), exec c s = .next t →
      (∀ code raw quality, c ≠ .sample code raw quality) → (∀ lines cut, c ≠ .powerOnReset lines cut) →
      c ≠ .replySent → t.tracker.nextNumber = s.tracker.nextNumber)
  ∧ (∀ (s t : State), s.link.sending.isSome = true → s.link.queue.head? = some .restart →
      exec .replySent s = .next t → t.tracker.nextNumber = 1)
  ∧ ∀ (lines : ResetLines) (cut : List SlotOutcome) (s t : State), exec (.powerOnReset lines cut) s = .next t →
      t.tracker.nextNumber = 1

/-! ### Estimator and interval channels -/

/-- An estimator update publishes the four estimates that stages 1 to 12 give from the state it reads, clamped to their ranges,
makes the fresh measurements absent, stores the flow and the mixed values, loads EST again, and adds its second, its two doses and
its over-limit second to an active tally; an ECO at or above co2_hard leaves the target in AUTO and RECIRC at 500 or more. It
counts each estimate's divergence, raises DIVERGED at 30 and marks the filter SUSPECT when all thirty readings lay above. The
conditions occur, each exactly in its case: ZERO-FLOW, SUBSTITUTED, TABLE-CLAMPED and ESTIMATE-SATURATED. The filter account
captures the update's load, and a new state WORN or SPENT raises FILTER; the slots on the four estimates are evaluated; CKPT
counts the update, and at its expiry is loaded again and triggers a CHECKPOINT write. The override check reads what the update has
published: it sets the fog and the ceiling flag, each entry with its notice, and gives AUTO the target of FOG-OVERRIDE or CEILING
and a closed RECIRC 500; a cab that a purge has cleaned ends the purge (R5 to R17, R19, R21 to R25, R40, R41, R45, R51, R54, R106,
R107, R110, R121, R139 to R141, R147, R156 to R158, R163, R169, R172). That the command changes nothing while EST is STOPPED is the
model's choice (log 3); that an override check by the ceiling makes the two lookups of R36, STM's among them, is deduced (log 12),
and so are the drop of the CHECKPOINT trigger in SCANNING and after a released RESTART (log 14) and that SUSPECT is raised before
the completion's FILTER, whose WORN or SPENT is the detail that is left (log 17). -/
def Obligations.EstimatorUpdated : Prop :=
  ∀ s : State,
    (s.timers.est = none → exec .estimatorUpdate s = .next s)
    ∧ (s.timers.est.isSome = true →
      ∀ b : Nat, b = ([0, 60, 100, 140, 180, 230, 280, 340] : List Nat).getD s.blower.level 340 →
      ∀ q : Int, q = (if s.blower.fault then 0 else (b : Int) * derateByRules s.filter / 1000) →
      ∀ k : Int, k = q * 65536000 / (3600 * s.est.cabin.volume) →
      ∀ d : Int, d = (if s.drive.drv.isOpen then (s.est.cabin.drvExchange : Int) else 0)
          + (if s.drive.krb.isOpen then (s.est.cabin.krbExchange : Int) else 0) →
      ∀ l : Int, l = 20 + 10 * ((min s.drive.reportedSpeed 130 / 10 : Nat) : Int) →
      ∀ x : Int, x = positionByRules s →
      ∀ sumPm : Int, sumPm = sumByRules x k d l (s.usable .opm * 16) (etaPmByRules s.filter) 0 s.est.epm →
      ∀ sumCo2 : Int, sumCo2 = sumByRules x k d l (s.est.cabin.co2Reference * 16) 0
          (s.est.cabin.occupants * 80000 / s.est.cabin.volume) s.est.eco →
      ∀ sumAh : Int, sumAh = sumByRules x k d l (outsideAhByRules s) 0
          (s.est.cabin.occupants * 11110 / s.est.cabin.volume) s.est.eah →
      ∀ ah : Option Int, ah = (if s.channels.ctm.state = .live ∨ s.channels.ctm.state = .stale then
          s.est.freshCrh.map (fun crh => satByRules s.channels.ctm.lastValue * crh / 1000) else none) →
      ∀ nPm : Nat, nPm = divergedByRules 480 sumPm (s.est.freshCpm.map (· * 16)) s.est.snapPm s.est.divPm →
      ∀ nCo2 : Nat, nCo2 = divergedByRules 4800 sumCo2 (s.est.freshCco.map (· * 16)) s.est.snapCo2 s.est.divCo2 →
      ∀ nAh : Nat, nAh = divergedByRules 3000 sumAh ah s.est.snapAh s.est.divAh →
      ∀ above : Nat, above = aboveByRules sumPm (s.est.freshCpm.map (· * 16)) s.est.snapPm s.est.pmAbove →
      ∀ pm : Int, pm = correctedByRules (s.est.freshCpm.map (· * 16)) s.est.snapPm s.est.cabin.weight sumPm →
      ∀ gas : Int, gas = sumByRules x k d l (s.usable .ogs * 16) (etaGasByRules s.filter) 0 s.est.egs →
      ∀ co2 : Int, co2 = correctedByRules (s.est.freshCco.map (· * 16)) s.est.snapCo2 s.est.cabin.weight sumCo2 →
      ∀ humid : Int, humid = correctedByRules ah s.est.snapAh s.est.cabin.weight sumAh →
      ∃ t, exec .estimatorUpdate s = .next t
        ∧ t.est.epm = max 0 (min 16000 pm) ∧ t.est.egs = max 0 (min 32000 gas)
        ∧ t.est.eco = max 4800 (min 80000 co2) ∧ t.est.eah = max 0 (min 65500 humid)
        ∧ t.est.freshCpm = none ∧ t.est.freshCco = none ∧ t.est.freshCrh = none
        ∧ t.est.lastFlow = q ∧ t.est.cabin = s.est.cabin ∧ t.est.fogMargin = s.est.fogMargin
        ∧ t.est.mixedPm = mixedByRules x (s.usable .opm * 16) s.est.epm
        ∧ t.est.mixedGas = mixedByRules x (s.usable .ogs * 16) s.est.egs
        ∧ (t.est.snapPm = true ↔ s.est.snapPm = true ∧ s.est.freshCpm = none)
        ∧ (t.est.snapCo2 = true ↔ s.est.snapCo2 = true ∧ s.est.freshCco = none)
        ∧ (t.est.snapAh = true ↔ s.est.snapAh = true ∧ ah = none)
        ∧ t.est.divPm = restartedAt30 nPm ∧ t.est.divCo2 = restartedAt30 nCo2 ∧ t.est.divAh = restartedAt30 nAh
        ∧ t.est.pmAbove = (if nPm = 30 then 0 else above)
        ∧ Occurred .diverged (nPm = 30 ∨ nCo2 = 30 ∨ nAh = 30) s t
        ∧ Occurred .estimateSaturated (OutsideInt 0 16000 pm ∨ OutsideInt 0 32000 gas ∨ OutsideInt 4800 80000 co2
            ∨ OutsideInt 0 65500 humid) s t
        ∧ Occurred .zeroFlow (s.blower.fault = true) s t
        ∧ Occurred .substituted (∃ c ∈ ([.opm, .ogs, .orh, .otm] : List Channel),
            (s.channels.get c).state = .none ∨ (s.channels.get c).state = .lost) s t
        ∧ Occurred .tableClamped (OffTable (s.usable .otm) ∨ (ah.isSome = true ∧ OffTable s.channels.ctm.lastValue)
            ∨ (s.policy.mode = .auto ∧ t.policy.fogFlag = false ∧ t.policy.ceilingFlag = true
              ∧ OffTable (s.usable .stm))) s t
        ∧ (.inputClamped ∈ t.notices.conditionFlags ↔ .inputClamped ∈ s.notices.conditionFlags)
        ∧ (nPm = 30 → above = 30 →
            t.filter.suspect = true ∧ ∃ p ∈ t.notices.pending, p.notice.kind = .filter)
        ∧ (nPm ≠ 30 ∨ above ≠ 30 → t.filter.suspect = s.filter.suspect)
        ∧ (s.filter.kind ≠ .none →
            (t.filter.pmLoad, t.filter.pmAcc)
                = loadByRules s.filter.pmLoad s.filter.pmAcc (q * t.est.mixedPm * etaPmByRules s.filter / 1000).toNat
              ∧ (t.filter.gasLoad, t.filter.gasAcc)
                = loadByRules s.filter.gasLoad s.filter.gasAcc (q * t.est.mixedGas * etaGasByRules s.filter / 1000).toNat)
        ∧ (s.filter.kind = .none → t.filter = { s.filter with suspect := t.filter.suspect })
        ∧ t.filter = { s.filter with
            pmLoad := t.filter.pmLoad, gasLoad := t.filter.gasLoad, pmAcc := t.filter.pmAcc, gasAcc := t.filter.gasAcc,
            suspect := t.filter.suspect, state := t.filter.state }
        ∧ (s.filter.kind ≠ .none → t.filter.state = filterStateByRules t.filter)
        ∧ (s.filter.kind ≠ .none → t.filter.state ≠ s.filter.state →
            (t.filter.state = .worn → ∃ p ∈ t.notices.pending, p.notice = .filter .worn)
              ∧ (t.filter.state = .spent → ∃ p ∈ t.notices.pending, p.notice = .filter .spent))
        ∧ t.timers.est = some 1000 ∧ t.timers.dec = s.timers.dec ∧ t.timers.hold = s.timers.hold
        ∧ t.tally = (if s.tally.active then tallyByRules s.tally t.est s.policy.limits.co2Limit else s.tally)
        ∧ (s.timers.ckpt = none → t.timers.ckpt = none ∧ t.journal = s.journal ∧ t.link = s.link)
        ∧ (∀ c : Nat, s.timers.ckpt = some c →
            (1 < c → t.timers.ckpt = some (c - 1) ∧ t.journal = s.journal ∧ t.link = s.link)
              ∧ (c ≤ 1 → t.timers.ckpt = some s.journal.checkpointInterval ∧ CheckpointTaken s t))
        ∧ (Delivered .epm t.est.epm s t ∧ Delivered .egs t.est.egs s t ∧ Delivered .eco t.est.eco s t
            ∧ Delivered .eah t.est.eah s t
            ∧ ∀ n : SlotNumber, (s.watch.get n).quantity ∉ ([.epm, .egs, .eco, .eah] : List Quantity) →
                t.watch.get n = s.watch.get n)
        ∧ (s.drive.vehicle ≠ .parked →
          (t.policy.fogFlag = true ↔ s.est.fogMargin < (s.policy.limits.fogMin / 2 : Nat))
          ∧ (t.policy.fogFlag = true → s.policy.fogFlag = false → ∃ p ∈ t.notices.pending, p.notice = .fogAlert s.est.fogMargin)
          ∧ (t.policy.ceilingFlag = true ↔ (s.policy.limits.co2Hard : Int) * 16 ≤ t.est.eco)
          ∧ (t.policy.ceilingFlag = true → s.policy.ceilingFlag = false → ∃ p ∈ t.notices.pending, p.notice = .co2Ceiling t.est.eco)
          ∧ (s.policy.mode = .auto → t.policy.fogFlag = true →
              t.policy.target = 1000 ∧ t.policy.basis = .fogOverride ∧ t.policy.held = false)
          ∧ (s.policy.mode = .auto → t.policy.fogFlag = false → t.policy.ceilingFlag = true →
              t.policy.basis = .ceiling ∧ t.policy.held = false
                ∧ (∀ f, LowestAdmissible s [500, 750, 1000] f → t.policy.target = f)
                ∧ ((∀ f ∈ ([500, 750, 1000] : List Int), ¬Admissible s f) → t.policy.target = 1000))
          ∧ (s.policy.mode = .recirc → t.policy.ceilingFlag = true → s.policy.target = 0 →
              t.policy.target = 500 ∧ t.policy.basis = .ceiling ∧ t.policy.held = false)
          ∧ ((s.policy.mode = .auto ∧ t.policy.fogFlag = false ∧ t.policy.ceilingFlag = false)
                ∨ (s.policy.mode = .recirc ∧ (t.policy.ceilingFlag = false ∨ s.policy.target ≠ 0))
                ∨ s.policy.mode = .fresh ∨ s.policy.mode = .defrost →
              t.policy.target = s.policy.target ∧ t.policy.basis = s.policy.basis ∧ t.policy.held = s.policy.held)
          ∧ TargetFollows s t)
        ∧ (s.policy.purging = true → t.est.epm ≤ s.usable .opm * 16 * (1000 - etaPmByRules s.filter) / 1000 + 80 →
            t.policy.purging = false ∧ t.timers.purge = none)
        ∧ (s.policy.purging = false ∨ s.usable .opm * 16 * (1000 - etaPmByRules s.filter) / 1000 + 80 < t.est.epm →
            t.policy.purging = s.policy.purging ∧ t.timers.purge = s.timers.purge)
        ∧ t.policy.demand = demandByTable (decide (s.drive.vehicle = .parked)) t.policy.purging t.policy.mode t.policy.basis
            t.policy.comfort
        ∧ t.policy.mode = s.policy.mode ∧ t.policy.hold = s.policy.hold ∧ t.policy.openSince = s.policy.openSince
        ∧ t.policy.comfort = s.policy.comfort ∧ t.policy.limits = s.policy.limits
        ∧ ((s.policy.limits.co2Hard : Int) * 16 ≤ t.est.eco → TargetIsCandidate s →
            (s.policy.mode = .recirc → s.policy.target = 0 ∨ s.policy.target = 500 ∨ s.policy.target = 1000) →
            s.policy.mode = .auto ∨ s.policy.mode = .recirc → 500 ≤ t.policy.target)
        ∧ OnlyChanges [.est, .policy, .timers, .flap, .blower, .filter, .tally, .journal, .watch, .notices, .link] s t)

/-- A DEC expiry loads DEC with the decision period and runs a full decision: the fog test first, then in AUTO the six bases in
order, FOG-OVERRIDE, CEILING, PLUME-HOLD, OPEN-AIR, VENTILATE and VENT-LIMITED, the last three subject to the change dwell, and in
a fixed mode its target; the target stays one of the candidates. A change of it records the uptime and is handed to the flap,
which starts the move that is due, waits on, or is issued anew or turned in mid-move, as its drive mode has it. The blower demand
follows. A decision in AUTO forms the working values by a lookup for OTM and then one for STM, and TABLE-CLAMPED occurs exactly where
one of them lies outside the table; no other condition occurs. No decision runs while PARKED (R23, R30, R32, R36 to R40, R42 to R44,
R46, R53, R54, R108, R115, R118 to R121, R187). That every decision in AUTO in which the fog test fails makes the two lookups,
whichever base then applies, and one in which it holds makes none, is deduced (log 12); that the command changes nothing while DEC
is STOPPED is the model's choice (log 3). -/
def Obligations.DecisionTaken : Prop :=
  ∀ s : State,
    (s.timers.dec = none → exec .decExpiry s = .next s)
    ∧ (s.timers.dec.isSome = true →
      ∃ t, exec .decExpiry s = .next t
        ∧ t.timers = { s.timers with dec := some (s.policy.limits.decisionPeriod * 1000) }
        ∧ OnlyChanges [.policy, .timers, .flap, .blower, .notices] s t
        ∧ t.policy.purging = s.policy.purging ∧ t.policy.openSince = s.policy.openSince
        ∧ Decided s t
        ∧ LookupsNoted .otm .stm (s.drive.vehicle ≠ .parked ∧ s.policy.mode = .auto ∧ t.policy.fogFlag = false) s t
        ∧ (∀ k : ConditionKind, k ≠ .tableClamped → (k ∈ t.notices.conditionFlags ↔ k ∈ s.notices.conditionFlags))
        ∧ (s.drive.vehicle = .parked → OnlyChanges [.timers] s t)
        ∧ (TargetIsCandidate s → TargetIsCandidate t))

/-- HOLD's expiry takes HOLDING to LAPSED with PLUME-LONG, which names the open episode that stands first in the table, and
TRAILING to IDLE, and a full decision runs; PURGE's expiry ends the purge and works the blower demand out again. Each is one-shot
(R48, R49, R51, R60, R106). That the lowest-numbered open episode is the first of the table is deduced (log 15), and that an
expiry of a STOPPED channel changes nothing is the model's choice (log 3). -/
def Obligations.HoldAndPurgeExpire : Prop :=
  ∀ s : State,
    (s.timers.hold = none → exec .holdExpiry s = .next s)
    ∧ (s.timers.hold.isSome = true → s.policy.hold = .holding ∨ s.policy.hold = .trailing →
      ∃ t, exec .holdExpiry s = .next t
        ∧ HoldMoved (if s.policy.hold = .holding then .lapsed else .idle) none s t
        ∧ (s.policy.hold = .holding → ∃ p ∈ t.notices.pending, p.notice.kind = .plumeLong)
        ∧ (∀ pre e post, s.tracker.table = pre ++ e :: post → (∀ q ∈ pre, q.ending.isSome = true) → e.ending = none →
            s.policy.hold = .holding → ∃ p ∈ t.notices.pending, p.notice = .plumeLong e.number)
        ∧ t.policy.purging = s.policy.purging ∧ t.policy.openSince = s.policy.openSince
        ∧ OnlyChanges [.policy, .timers, .flap, .blower, .notices] s t)
    ∧ (s.timers.purge = none → exec .purgeExpiry s = .next s)
    ∧ (s.timers.purge.isSome = true →
      ∃ t, exec .purgeExpiry s = .next t
        ∧ t.timers = { s.timers with purge := none }
        ∧ t.policy = { s.policy with
            purging := false,
            demand := demandByTable (decide (s.drive.vehicle = .parked)) false s.policy.mode s.policy.basis s.policy.comfort }
        ∧ (s.blower.level = s.policy.demand → t.blower.level = t.policy.demand)
        ∧ OnlyChanges [.policy, .timers, .blower, .notices] s t)

/-- A CKPT expiry loads CKPT with the checkpoint interval and triggers a CHECKPOINT write, which joins the pending write when one
is in flight, and else starts with a snapshot of the filter and the tally: the first ERASED slot of the active sector takes it, or
a switch retires a sector that has failed twice and erases the next in ring order; where fewer than two sectors would be left,
none may be erased, or the sequence is at its end, the journal enters FAILED with JOURNAL-FAIL. The trigger is dropped in FAILED,
and, once a RESTART has been released, starts nothing (R110, R156, R157, R158, R163, R169; the drop after the release is deduced,
log 14). That the expiry of a STOPPED CKPT changes nothing is the model's choice (log 3). -/
def Obligations.CheckpointTriggered : Prop :=
  ∀ s : State, JournalQuiet s.journal →
    (s.timers.ckpt = none → exec .ckptExpiry s = .next s)
    ∧ (s.timers.ckpt.isSome = true → s.link.sending.isSome = true → s.link.queue.head? = some .restart →
      exec .ckptExpiry s = .next { s with timers := { s.timers with ckpt := some s.journal.checkpointInterval } })
    ∧ (s.timers.ckpt.isSome = true → s.link.sending = none ∨ s.link.queue.head? ≠ some .restart →
      ∃ t, exec .ckptExpiry s = .next t
        ∧ t.timers = { s.timers with ckpt := some s.journal.checkpointInterval }
        ∧ OnlyChanges [.timers, .journal, .notices, .link] s t
        ∧ CheckpointTaken s t ∧ (t.journal.state = s.journal.state → t.notices = s.notices))

/-! ### The journal -/

/-- An erase that passes leaves the sector's sixteen slots ERASED and every other slot as it was, makes the sector the active one
with its fail count 0, and programs its slot 0 with the next sequence. One that fails retires the sector, spares every slot
outside it, and the next sector in ring order that is neither retired, nor active, nor the newest record's is erased instead. The
journal enters FAILED where the sequence is at its end, where fewer than two sectors are left and where no sector may be erased:
JOURNAL-FAIL is pending, the writes are gone, and an owed PARK reply is sent or a waiting RESTART released, with the notice in its
status (deduced, log 17) (R153, R155, R157, R158, R159, R163). Where no erase is under way, a program's being so included, neither
changes anything, which is the model's choice (log 3). -/
def Obligations.EraseCompletes : Prop :=
  (∀ s : State, s.flash.wf = true → ∀ w, s.journal.write = some w → ∀ c, w.phase = .erasing c → c < 8 →
      ∃ t, exec .erasePass s = .next t ∧ OnlyChanges [.flash, .journal, .notices, .link] s t
        ∧ (∀ i, i < 16 → t.flash.read (16 * c + i) = .erased)
        ∧ (∀ a, a / 16 ≠ c → t.flash.read a = s.flash.read a)
        ∧ t.journal.failCounts.get c = 0 ∧ (∀ k, k < 8 → k ≠ c → t.journal.failCounts.get k = s.journal.failCounts.get k)
        ∧ (s.journal.nextSequence ≠ 4294967295 →
            OnlyChanges [.flash, .journal] s t
              ∧ t.journal = { s.journal with
                  activeSector := some c, writePosition := 0, failCounts := t.journal.failCounts,
                  write := some { w with phase := .programming c 0 s.journal.nextSequence },
                  nextSequence := s.journal.nextSequence + 1 })
        ∧ (s.journal.nextSequence = 4294967295 →
            JournalFailed { s.journal with
                activeSector := some c, writePosition := 0, failCounts := t.journal.failCounts } t
              ∧ FailureReleases (owesPark w s.journal) s t))
  ∧ (∀ s : State, s.flash.wf = true → ∀ w, s.journal.write = some w → ∀ c, w.phase = .erasing c → c < 8 →
      ∀ left : List SlotOutcome,
      ∃ t, exec (.eraseFail left) s = .next t ∧ OnlyChanges [.flash, .journal, .notices, .link] s t
        ∧ EraseLeft c left s.flash t.flash
        ∧ t.journal.retired = (if c ∈ s.journal.retired then s.journal.retired else s.journal.retired ++ [c])
        ∧ (6 < t.journal.retired.length → JournalFailed { s.journal with retired := t.journal.retired } t)
        ∧ (t.journal.retired.length ≤ 6 → SectorChosen (fun x => { w with phase := x }) (c + 1)
            { s.journal with retired := t.journal.retired } t)
        ∧ (t.journal.state = .failed → s.journal.state ≠ .failed → FailureReleases (owesPark w s.journal) s t)
        ∧ (t.journal.state ≠ .failed → t.notices = s.notices ∧ t.link = s.link))
  ∧ ∀ (left : List SlotOutcome) (s : State), (∀ w, s.journal.write = some w → ∀ c, w.phase ≠ .erasing c) →
      exec .erasePass s = .next s ∧ exec (.eraseFail left) s = .next s

/-- A program that passes leaves the record in its slot, 64 bytes with two of 0xFF behind the fields and the CRC of the first 62
in the last two, and every other slot as it was; it makes the record, now VALID, the newest one, ends the write, and sends an owed
PARK reply. A pending write then starts with a fresh snapshot and looks for its target; with none, a waiting RESTART is released.
One that fails raises the sector's fail count, and the write looks for its target again with the same snapshot: the next ERASED
slot, or a switch, which retires the sector at two failures; the journal enters FAILED where no sector is left or the sequence is
at its end, and releases what a write owed or RESTART, with JOURNAL-FAIL in the status (deduced, log 17) (R153, R154, R157, R158,
R160, R161, R163). Where no program is under way, an erase's being so included, neither changes anything, which is the model's
choice (log 3). -/
def Obligations.ProgramCompletes : Prop :=
  (∀ s : State, s.flash.wf = true → ∀ w, s.journal.write = some w → ∀ k i n, w.phase = .programming k i n →
      k < 8 → i < 16 →
      ∃ t, exec .programPass s = .next t
        ∧ ProgramLeft w k i n .complete s.flash t.flash)
  ∧ (∀ s : State, ∀ w, s.journal.write = some w → ∀ k i n, w.phase = .programming k i n →
      s.journal.pendingWrite = none → s.journal.restartWaiting = false →
      ∃ t, exec .programPass s = .next t ∧ OnlyChanges [.flash, .journal, .link] s t
        ∧ t.journal = { s.journal with newest := some { sector := k, sequence := n, kind := w.kind },
                                       writePosition := i + 1, write := none }
        ∧ (w.parkOwed = false → t.link = s.link)
        ∧ (w.parkOwed = true → t.link.sending = some (replyByRules 0x97#8 [0#8, statusOf s t])
            ∧ t.link.holding = false ∧ t.link.queue = s.link.queue))
  ∧ (∀ s : State, ∀ w, s.journal.write = some w → ∀ k i n, w.phase = .programming k i n → w.parkOwed = false →
      s.journal.pendingWrite = none → s.journal.restartWaiting = true →
      ∃ t, exec .programPass s = .next t ∧ OnlyChanges [.flash, .journal, .link] s t
        ∧ t.journal = { s.journal with newest := some { sector := k, sequence := n, kind := w.kind },
                                       writePosition := i + 1, write := none, restartWaiting := false }
        ∧ t.link = { s.link with sending := some (replyByRules 0x99#8 [0#8, statusOf s t]), holding := false,
                                 dropped := false, badFrame := false })
  ∧ (∀ s : State, ∀ w, s.journal.write = some w → ∀ k i n, w.phase = .programming k i n →
      ∀ p, s.journal.pendingWrite = some p →
      ∃ t, exec .programPass s = .next t ∧ OnlyChanges [.flash, .journal, .link, .notices] s t
        ∧ TargetSought (freshWrite p.kind p.parkOwed t)
            { s.journal with
              newest := some { sector := k, sequence := n, kind := w.kind }, writePosition := i + 1, write := none,
              pendingWrite := none } t
        ∧ (w.parkOwed = false → t.journal.state ≠ .failed → t.notices = s.notices ∧ t.link = s.link)
        ∧ (w.parkOwed = false → t.journal.state = .failed → s.journal.state ≠ .failed → FailureReleases p.parkOwed s t))
  ∧ (∀ s : State, s.flash.wf = true → ∀ w, s.journal.write = some w → ∀ k i n, w.phase = .programming k i n →
      k < 8 → i < 16 → ∀ left : SlotOutcome,
      ∃ t, exec (.programFail left) s = .next t ∧ OnlyChanges [.flash, .journal, .notices, .link] s t
        ∧ ProgramLeft w k i n left s.flash t.flash
        ∧ t.journal.failCounts.get k = s.journal.failCounts.get k + 1
        ∧ (∀ k', k' < 8 → k' ≠ k → t.journal.failCounts.get k' = s.journal.failCounts.get k')
        ∧ TargetSought (fun x => { w with phase := x })
            { s.journal with failCounts := t.journal.failCounts, writePosition := i + 1 } t
        ∧ (t.journal.state ≠ .failed → t.notices = s.notices ∧ t.link = s.link)
        ∧ (t.journal.state = .failed → s.journal.state ≠ .failed → FailureReleases (owesPark w s.journal) s t))
  ∧ ∀ (left : SlotOutcome) (s : State), (∀ w, s.journal.write = some w → ∀ k i n, w.phase ≠ .programming k i n) →
      exec .programPass s = .next s ∧ exec (.programFail left) s = .next s

/-- The scan's end: the journal enters READY; it adopts the VALID record of the highest sequence, filter, tally, active sector,
write position and next sequence with it; a record whose CRC is not good, or whose sequence is 0 or 4,294,967,295, is passed over;
with no VALID record the filter and the tally stand. An adopted filter that is WORN, SPENT or SUSPECT raises FILTER, SUSPECT last.
The port then begins to serve: the head of the queue is served in the same event as if its frame had just arrived, the receiver
standing, and a second entry waits behind it (R151, R153, R154, R165, R195). That a scan's end outside SCANNING changes nothing is
the model's choice (log 3). -/
def Obligations.ScanEnded : Prop :=
  ∀ s : State,
    (s.journal.state ≠ .scanning → exec .scanEnd s = .next s)
    ∧ (s.journal.state = .scanning → s.link.queue = [] → (∀ e ∈ s.flash, e.2.valid? = none) →
      exec .scanEnd s = .next { s with journal := { s.journal with state := .ready } })
    ∧ (s.journal.state = .scanning → s.link.queue = [] → ∀ (a : Nat) (r : JournalRecord), (a, Slot.record r) ∈ s.flash →
      r.crc = crc16 (r.bytes.take 62) → 0 < r.sequence → r.sequence < 4294967295 →
      (∀ e ∈ s.flash, ∀ r', e.2.valid? = some r' → r'.sequence < r.sequence ∨ e.1 = a ∧ r' = r) →
      ∃ t, exec .scanEnd s = .next t ∧ OnlyChanges [.filter, .tally, .journal, .notices] s t
        ∧ t.filter = r.content.filter ∧ t.tally = r.content.tally
        ∧ (t.filter.suspect = true → ∃ p ∈ t.notices.pending, p.notice = .filter .suspect)
        ∧ (t.filter.suspect = false → t.filter.state = .worn → ∃ p ∈ t.notices.pending, p.notice = .filter .worn)
        ∧ (t.filter.suspect = false → t.filter.state = .spent → ∃ p ∈ t.notices.pending, p.notice = .filter .spent)
        ∧ (t.filter.suspect = false → t.filter.state = .none ∨ t.filter.state = .inService → t.notices = s.notices)
        ∧ t.journal = { s.journal with
            state := .ready, newest := some { sector := a / 16, sequence := r.sequence, kind := r.kind },
            activeSector := some (a / 16), writePosition := a % 16 + 1, nextSequence := r.sequence + 1 })
    ∧ ∀ (r : Request) (rest : List Request) (c : Instr), s.journal.state = .scanning → s.link.queue = r :: rest →
      s.link.sending = none → s.link.holding = false → requestOf c = some r →
      ∃ u t, exec .scanEnd { s with link := { s.link with queue := [] } } = .next u ∧ exec c u = .next t
        ∧ exec .scanEnd s = .next { t with link := { t.link with
            queue := r :: rest, receiver := s.link.receiver, gapMs := s.link.gapMs } }

/-! ### Doors, drive, time -/

/-- A contact change starts the debounce with its level, or ends it when the contact is back at the accepted level; an
acceptance takes the level and gives the door the state its polarity makes of it. A door that opens in HALTED starts a stop,
which an active tally counts; the other door stands. A door that opens with the other CLOSED sets open-since, and cancels a
running purge; a closing that leaves no door open starts a purge when the doors stood open for 5 s, the purge time is not 0 and
the truck is not PARKED, and makes open-since absent; the blower demand follows, and a level that rises from 0 under a stall
puts the blower in FAULT (R50, R52, R54, R93, R94, R95, R100, R133, R148). That a contact command to the level that already
stands changes nothing, nor an acceptance with no debounce running, is the model's choice (log 22, log 3). -/
def Obligations.ContactsAccepted : Prop :=
  (∀ (door : Door) (closed : Bool) (s : State),
      ((s.drive.door door).contactClosed = closed → exec (.contactChange door closed) s = .next s)
      ∧ ((s.drive.door door).contactClosed ≠ closed →
        ∃ t, exec (.contactChange door closed) s = .next t ∧ OnlyChanges [.drive] s t
          ∧ t.drive.door door = { s.drive.door door with
              contactClosed := closed,
              debounce := if (s.drive.door door).accepted = some closed then none
                else some { closed := closed, ms := 0 } }
          ∧ (∀ other, other ≠ door → t.drive.door other = s.drive.door other)
          ∧ t.drive.vehicle = s.drive.vehicle ∧ t.drive.stopFlag = s.drive.stopFlag))
  ∧ ∀ (door : Door) (s : State),
      ((s.drive.door door).debounce = none → exec (.debounceAccept door) s = .next s)
      ∧ ∀ b, (s.drive.door door).debounce = some b →
        ∃ t, exec (.debounceAccept door) s = .next t
          ∧ OnlyChanges [.drive, .policy, .timers, .blower, .tally, .notices] s t
          ∧ (t.drive.door door).accepted = some b.closed ∧ (t.drive.door door).debounce = none
          ∧ (t.drive.door door).isOpen
              = doorByRules (some b.closed) (s.drive.door door).polarity
          ∧ (∀ other, other ≠ door → t.drive.door other = s.drive.door other)
          ∧ ((t.drive.door door).isOpen = (s.drive.door door).isOpen → OnlyChanges [.drive] s t
              ∧ t.drive.vehicle = s.drive.vehicle)
          ∧ PurgeTookDoor door s t
          ∧ t.policy = { s.policy with purging := t.policy.purging, openSince := t.policy.openSince,
                                       demand := t.policy.demand }
          ∧ (t.policy.purging = s.policy.purging → t.policy.demand = s.policy.demand ∧ t.blower = s.blower)
          ∧ (t.policy.purging ≠ s.policy.purging →
              t.policy.demand = demandByTable (decide (s.drive.vehicle = .parked)) t.policy.purging s.policy.mode
                s.policy.basis s.policy.comfort
              ∧ (s.blower.level = s.policy.demand → BlowerFollows s t))
          ∧ ((s.drive.door door).isOpen = false → (t.drive.door door).isOpen = true → s.drive.vehicle = .halted →
              t.drive.vehicle = .atStop ∧ t.drive.stopFlag = true
                ∧ t.tally = (if s.drive.stopFlag = false then stopCounted s.tally else s.tally))
          ∧ (s.drive.vehicle ≠ .halted → t.drive.vehicle = s.drive.vehicle ∧ t.tally = s.tally)

/-- The DRIVE age at 5 s makes a FRESH report STALE and changes nothing else; at 30 s it becomes SILENT, the reported speed 0,
which is delivered where it is a new one: the SPEED slots are evaluated on it and a moving truck stands, with a door open starting
a stop that an active tally counts (R97, R99, R100, R148, R172); that the expiries set the age to 5 s and do nothing in the other
freshness states is the model's choice (log 3). A second of the time base raises uptime by 1, and after
4,294,967,295 the count returns to 0 (R105); that it also starts the next
second's milliseconds at 0, and changes nothing else, is the model's choice (log 25). -/
def Obligations.DriveAgesAndUptime : Prop :=
  ∀ s : State,
    (s.drive.freshness = .fresh → exec .driveAgeStale s
        = .next { s with drive := { s.drive with freshness := .stale, ageMs := 5000 } })
    ∧ (s.drive.freshness ≠ .fresh → exec .driveAgeStale s = .next s)
    ∧ (s.drive.freshness = .fresh ∨ s.drive.freshness = .stale →
      ∃ t, exec .driveAgeSilent s = .next t ∧ OnlyChanges [.drive, .watch, .notices, .tally] s t
        ∧ t.drive.freshness = .silent ∧ t.drive.reportedSpeed = 0 ∧ t.drive.engine = s.drive.engine
        ∧ t.drive.drv = s.drive.drv ∧ t.drive.krb = s.drive.krb
        ∧ (s.drive.vehicle ≠ .moving → t.drive.vehicle = s.drive.vehicle)
        ∧ (s.drive.vehicle = .moving → 0 < s.drive.lastSpeed →
            t.drive.vehicle = (if s.drive.drv.isOpen ∨ s.drive.krb.isOpen then .atStop else .halted))
        ∧ t.tally = (if s.drive.vehicle = .moving ∧ t.drive.vehicle = .atStop ∧ s.drive.stopFlag = false then
            stopCounted s.tally else s.tally)
        ∧ (0 < s.drive.lastSpeed → ∀ n : SlotNumber, t.watch.get n =
            (if (s.watch.get n).quantity = .speed then slotEvaluated (s.watch.get n) 0 s.uptime else s.watch.get n))
        ∧ (s.drive.lastSpeed = 0 → OnlyChanges [.drive] s t ∧ t.drive.vehicle = s.drive.vehicle))
    ∧ (s.drive.freshness = .none ∨ s.drive.freshness = .silent → exec .driveAgeSilent s = .next s)
    ∧ (s.uptime < 4294967295 → exec .uptimeTick s = .next { s with uptime := s.uptime + 1, secondMs := 0 })
    ∧ (s.uptime = 4294967295 → exec .uptimeTick s = .next { s with uptime := 0, secondMs := 0 })

/-! ### Flap and blower -/

/-- INHIBIT ends a wait for READY and otherwise changes its level alone; its release starts, from IDLE, the move that is due by the
rule of the drive mode, either way in TIMED, on READY's level in TRACKED, and brings DIRECT to the target. The FAULT line stops the
flap with FLAP-FAULT, LINE, makes a homing fail, and does nothing in FAULT and DISABLED; its release changes its level alone
(R115 to R117, R119, R120, R122, R123, R128). That a command to the level that already stands changes nothing is the model's choice
(log 22); that a TIMED homing which fails leaves the set point at the position reached is deduced (log 16). -/
def Obligations.InhibitAndFaultLine : Prop :=
  ∀ s : State,
    (s.flap.inhibit = false →
      exec .inhibitAssert s = .next { s with flap :=
        (if s.flap.state = .waitReady then { s.flap with inhibit := true, state := .idle, moveTimer := none }
        else { s.flap with inhibit := true }) })
    ∧ (s.flap.inhibit = true → exec .inhibitAssert s = .next s)
    ∧ (s.flap.inhibit = true →
      (s.flap.state ≠ .idle ∨ s.flap.mode ≠ .direct ∧ s.flap.target = s.flap.setPoint →
        exec .inhibitRelease s = .next { s with flap := { s.flap with inhibit := false } })
      ∧ (s.flap.state = .idle → s.flap.mode = .direct →
        exec .inhibitRelease s = .next { s with flap :=
          { s.flap with inhibit := false, demand := s.flap.target, setPoint := s.flap.target } })
      ∧ (s.flap.state = .idle → s.flap.mode ≠ .direct → s.flap.target ≠ s.flap.setPoint →
        ∃ t, exec .inhibitRelease s = .next t ∧ OnlyChanges [.flap] s t
          ∧ MoveStarted { s.flap with inhibit := false } t.flap))
    ∧ (s.flap.inhibit = false → exec .inhibitRelease s = .next s)
    ∧ (s.flap.faultLine = false →
      ∃ t, exec .faultLineAssert s = .next t ∧ OnlyChanges [.flap, .notices] s t ∧ t.flap.faultLine = true
        ∧ (s.flap.state = .idle ∨ s.flap.state = .waitReady ∨ s.flap.state = .moving → FlapFaulted .line s t)
        ∧ (s.flap.state = .homing → HomingFailed .line s t)
        ∧ (s.flap.state = .fault ∨ s.flap.state = .disabled →
            t.flap = { s.flap with faultLine := true } ∧ t.notices = s.notices))
    ∧ (s.flap.faultLine = true → exec .faultLineAssert s = .next s)
    ∧ exec .faultLineRelease s = .next { s with flap := { s.flap with faultLine := false } }

/-- READY rising after a fall completes a TRACKED move, any READY transition an EDGE move, and each does the same for a homing whose
demand is issued; a TRACKED homing that waits for READY issues its demand when it rises. The move timeout stops the flap with
FLAP-FAULT, TIMEOUT, or makes a homing fail; a TIMED drive's end leaves the flap at its destination, and a TIMED homing's end at
1000 with the failure count 0. A completion raises MOVE-DONE with the position, and where the target lies elsewhere than the set
point the next move starts in the same event, unless INHIBIT stands (R115 to R117, R119, R120, R122, R124, R127, R128). That a READY
command to the level that already stands changes nothing, nor a timer's or drive's end where none runs, is the model's choice
(log 22, log 3); that a waiting TRACKED homing takes 1000 as its set point when its demand is issued is deduced (log 16). -/
def Obligations.MovesComplete : Prop :=
  (∀ (high : Bool) (s : State), s.flap.ready ≠ high →
      ∃ t, exec (.readyChange high) s = .next t ∧ OnlyChanges [.flap, .notices] s t ∧ t.flap.ready = high
        ∧ (s.flap.state = .moving → s.flap.mode = .tracked → high = false →
            t.flap = { s.flap with ready := false, readyFallen := true } ∧ t.notices = s.notices)
        ∧ (s.flap.state = .moving → s.flap.mode = .tracked → high = true → s.flap.readyFallen = false →
            t.flap = { s.flap with ready := true } ∧ t.notices = s.notices)
        ∧ (s.flap.state = .moving →
            (s.flap.mode = .tracked ∧ high = true ∧ s.flap.readyFallen = true) ∨ s.flap.mode = .edge →
            MoveFollows { s.flap with ready := high, state := .idle, moveTimer := none } t.flap
              ∧ ∃ p ∈ t.notices.pending, p.notice = .moveDone (s.usable .fpos))
        ∧ (s.flap.state = .homing → s.flap.mode = .tracked → s.flap.homingWaiting = true →
            t.notices = s.notices
              ∧ t.flap = (if high = true then
                  { s.flap with ready := true, homingWaiting := false, demand := 1000, setPoint := 1000,
                                readyFallen := false,
                                moveTimer := some { elapsed := 0, limit := s.flap.moveTimeout } }
                else { s.flap with ready := false }))
        ∧ (s.flap.state = .homing → s.flap.mode = .tracked → s.flap.homingWaiting = false →
            (high = false → t.flap = { s.flap with ready := false, readyFallen := true } ∧ t.notices = s.notices)
              ∧ (high = true → s.flap.readyFallen = false →
                  t.flap = { s.flap with ready := true } ∧ t.notices = s.notices))
        ∧ (s.flap.state = .homing →
            (s.flap.mode = .tracked ∧ s.flap.homingWaiting = false ∧ high = true ∧ s.flap.readyFallen = true)
              ∨ s.flap.mode = .edge →
            MoveFollows { s.flap with ready := high }.homed t.flap
              ∧ ∃ p ∈ t.notices.pending, p.notice = .moveDone (s.usable .fpos))
        ∧ (s.flap.state = .waitReady → high = true →
            t.notices = s.notices
              ∧ t.flap = { s.flap with
                  ready := true, state := .moving, demand := s.flap.target, setPoint := s.flap.target,
                  readyFallen := false, moveTimer := some { elapsed := 0, limit := s.flap.moveTimeout } })
        ∧ (s.flap.state = .idle ∨ s.flap.state = .fault ∨ s.flap.state = .disabled ∨ s.flap.state = .waitReady ∧ high = false
            ∨ (s.flap.state = .moving ∨ s.flap.state = .homing) ∧ (s.flap.mode = .timed ∨ s.flap.mode = .direct) →
            t.flap = { s.flap with ready := high } ∧ t.notices = s.notices))
  ∧ (∀ (high : Bool) (s : State), s.flap.ready = high → exec (.readyChange high) s = .next s)
  ∧ (∀ s : State,
      (s.flap.moveTimer = none → exec .moveTimeout s = .next s)
      ∧ (s.flap.moveTimer.isSome = true → s.flap.state = .waitReady ∨ s.flap.state = .moving →
        ∃ t, exec .moveTimeout s = .next t ∧ OnlyChanges [.flap, .notices] s t ∧ FlapFaulted .timeout s t)
      ∧ (s.flap.moveTimer.isSome = true → s.flap.state = .homing →
        ∃ t, exec .moveTimeout s = .next t ∧ OnlyChanges [.flap, .notices] s t ∧ HomingFailed .timeout s t))
  ∧ (∀ s : State, s.flap.state = .moving → s.flap.mode = .timed → ∀ d, s.flap.driveInFlight = some d →
      ∃ t, exec .timedDriveEnd s = .next t ∧ OnlyChanges [.flap, .notices] s t
        ∧ MoveFollows { s.flap with state := .idle, setPoint := d.destination, moveTimer := none, towardFresh := false,
                                    towardRecirc := false, driveInFlight := none } t.flap
        ∧ (s.flap.target = d.destination → t.flap.state = .idle ∧ t.flapPosition = d.destination)
        ∧ ∃ p ∈ t.notices.pending, p.notice = .moveDone d.destination)
  ∧ (∀ s : State, s.flap.state = .homing → s.flap.mode = .timed → s.flap.driveInFlight.isSome = true →
      ∃ t, exec .timedHomingEnd s = .next t ∧ OnlyChanges [.flap, .notices] s t
        ∧ MoveFollows s.flap.homed t.flap ∧ t.flap.failCount = 0
        ∧ (s.flap.target = 1000 → t.flap.state = .idle ∧ t.flapPosition = 1000)
        ∧ ∃ p ∈ t.notices.pending, p.notice = .moveDone 1000)
  ∧ (∀ s : State, s.flap.driveInFlight = none ∨ s.flap.state ≠ .moving → exec .timedDriveEnd s = .next s)
  ∧ ∀ s : State, s.flap.driveInFlight = none ∨ s.flap.state ≠ .homing → exec .timedHomingEnd s = .next s

/-- The stall input puts a turning blower in FAULT with BLOWER-FAULT, does nothing at level 0 beyond its own level, and its release
returns the blower to RUNNING; the applied level stands throughout. A level that rises from 0 while the stall stands asserted, here
by COMFORT in FRESH, puts the blower in FAULT in the same event (R35, R53, R133). That a repeated assertion changes nothing is the
model's choice (log 22). -/
def Obligations.StallTaken : Prop :=
  (∀ s : State,
    (s.blower.stall = false → 0 < s.blower.level → s.blower.fault = false →
      ∃ t, exec .stallAssert s = .next t ∧ OnlyChanges [.blower, .notices] s t
        ∧ t.blower = { s.blower with stall := true, fault := true }
        ∧ ∃ p ∈ t.notices.pending, p.notice = .blowerFault)
    ∧ (s.blower.stall = false → s.blower.level = 0 →
      exec .stallAssert s = .next { s with blower := { s.blower with stall := true } })
    ∧ (s.blower.stall = true → exec .stallAssert s = .next s)
    ∧ exec .stallRelease s = .next { s with blower := { s.blower with stall := false, fault := false } })
  ∧ ∀ (level : Byte) (s : State), PortFree s → s.policy.mode = .fresh → s.drive.vehicle ≠ .parked →
      s.policy.purging = false → s.policy.demand = 0 → s.blower.level = 0 → s.blower.stall = true →
      s.blower.fault = false → 0 < level.toNat →
      ∃ t, exec (.comfort level) s = .next t ∧ OnlyChanges [.link, .policy, .blower, .notices] s t
        ∧ t.blower = { s.blower with level := min level.toNat 7, fault := true }
        ∧ ∃ p ∈ t.notices.pending, p.notice = .blowerFault

/-! ### What every step keeps -/

/-- The state after a power-on reset has every property that the statements below say a step keeps. -/
def Obligations.InvariantsHoldAtReset : Prop :=
  EstimatesInRange State.reset ∧ TargetIsCandidate State.reset ∧ RecircTarget State.reset ∧ DemandIsDue State.reset ∧ TimersFollow State.reset
    ∧ ChannelsSound State.reset ∧ EpisodesSound State.reset ∧ NoticesSound State.reset ∧ JournalSound State.reset
    ∧ FlapSound State.reset ∧ PositionsInRange State.reset ∧ State.reset.link.queue.length ≤ 2
    ∧ ReplyFramed State.reset

/-- Every step, whatever the command or none, keeps every estimate within its range and the target one of the six candidates
(R17, R30); it keeps the target in RECIRC at 0, 500 or 1000, and that of a PARKED truck at 1000, where the interval channels follow
their machines (R32, R33, R45). -/
def Obligations.EstimatesAndTargetKept : Prop :=
  ∀ s t : State, step s = .next t →
    (EstimatesInRange s → EstimatesInRange t) ∧ (TargetIsCandidate s → TargetIsCandidate t)
      ∧ (TimersFollow s → RecircTarget s → RecircTarget t)

/-- Every step keeps the blower demand at what R53's table gives for the state, and the applied level at the demand: in AUTO and
DEFROST the level is at least 1 unless PARKED, and PARKED stops the blower. It keeps EST, DEC and CKPT stopped exactly while
PARKED, HOLD with the hold machine and PURGE with the purge machine (R47, R48, R50 to R54, R102, R103, R106, R132). -/
def Obligations.DemandAndTimersKept : Prop :=
  ∀ s t : State, step s = .next t →
    (DemandIsDue s →
      DemandIsDue t
        ∧ (t.drive.vehicle = .parked → t.blower.level = 0)
        ∧ (t.drive.vehicle ≠ .parked → t.policy.mode = .auto ∨ t.policy.mode = .defrost → 1 ≤ t.blower.level))
    ∧ (TimersFollow s → TimersFollow t)

/-- Every step keeps each channel record within the ranges of R75 and R76, and the flap's actual position within 0..1000 (R113). -/
def Obligations.ChannelsAndPositionsKept : Prop :=
  ∀ s t : State, step s = .next t →
    (ChannelsSound s → ChannelsSound t) ∧ (PositionsInRange s → PositionsInRange t)

/-- Every step keeps the episode table at 16 records at most, with one OPEN record at most per detector, the one the detector
names and its latest in the table (R57, R60, R62). -/
def Obligations.EpisodesKept : Prop :=
  ∀ s t : State, step s = .next t → EpisodesSound s → EpisodesSound t

/-- Every step keeps the attention line asserted exactly when an unmasked notice is pending, one notice per kind in priority
order, the request queue at two entries, and every reply that goes out framed with its LEN and CRC, of 64 payload bytes at most
(R181, R184, R191, R194). -/
def Obligations.NoticesAndQueueKept : Prop :=
  ∀ s t : State, step s = .next t →
    (NoticesSound s → NoticesSound t) ∧ (s.link.queue.length ≤ 2 → t.link.queue.length ≤ 2)
      ∧ (ReplyFramed s → ReplyFramed t)

/-- Every step keeps the newest record in the flash, VALID, and every erase away from its sector, the active one and the retired
ones; every program goes to a slot that reads ERASED, with a sequence a VALID record may carry, and every record that stands in the
flash carries such a one. While no write is in flight no write
is pending and no RESTART waits (R153 to R158, R160, R163, R167). -/
def Obligations.NewestRecordKept : Prop :=
  ∀ s t : State, step s = .next t → JournalSound s → JournalSound t

/-- Every step keeps the flap channel sound: never both drive lines, a line on only while a TIMED drive runs. While INHIBIT stands
asserted no move and no homing starts, and DISABLED is left by a reset alone (R112, R115, R120, R126, R128). -/
def Obligations.FlapKept : Prop :=
  (∀ s t : State, step s = .next t → FlapSound s → FlapSound t)
  ∧ (∀ (c : Instr) (s t : State), exec c s = .next t → s.flap.inhibit = true → t.flap.inhibit = true →
      s.flap.state = .idle ∨ s.flap.state = .fault ∨ s.flap.state = .disabled →
      t.flap.state = .idle ∨ t.flap.state = .fault ∨ t.flap.state = .disabled)
  ∧ ∀ (c : Instr) (s t : State), exec c s = .next t → (∀ lines cut, c ≠ .powerOnReset lines cut) → c ≠ .replySent →
      s.flap.state = .disabled → t.flap.state = .disabled

/-- Who may change what. The flash is changed by the flash completions and a power-on reset alone (R153); uptime by UPTIME_TICK
and the resets alone (R105); the four estimates by an estimator update, EGS by the gas snap of an OGS sample, and the resets alone
(R1, R20), so that they stand while PARKED with EST stopped (R26); with no request waiting, and no frame of a catalogue KIND sent
as an unknown request, a set hit flag stays but for WATCH SET, WATCH CLEAR and a reset (R176), and the filter loads fall by FILTER
FIT, an adoption and a reset alone (R140). -/
def Obligations.OnlyTheOwnersChange : Prop :=
  ∀ (c : Instr) (s t : State), exec c s = .next t → (∀ lines cut, c ≠ .powerOnReset lines cut) →
    (c ≠ .erasePass → (∀ left, c ≠ .eraseFail left) → c ≠ .programPass → (∀ left, c ≠ .programFail left) →
        t.flash = s.flash)
    ∧ (c ≠ .replySent → c ≠ .uptimeTick → t.uptime = s.uptime)
    ∧ (c ≠ .replySent → s.drive.vehicle = .parked → s.timers.est = none →
        t.est.epm = s.est.epm ∧ t.est.egs = s.est.egs ∧ t.est.eco = s.est.eco ∧ t.est.eah = s.est.eah)
    ∧ ((c = .replySent → s.link.queue.head? ≠ some .restart) → (c = .estimatorUpdate → s.timers.est = none) →
        t.est.epm = s.est.epm ∧ t.est.eco = s.est.eco ∧ t.est.eah = s.est.eah
          ∧ ((∀ raw, c ≠ .sample 1 raw 0) ∨ s.est.gasSnapArmed = false ∨ s.drive.vehicle = .parked →
              t.est.egs = s.est.egs ∧ t.est.gasSnapArmed = s.est.gasSnapArmed))
    ∧ (s.link.queue = [] → (∀ bytes, c ≠ .receiveFrame bytes) → (∀ f, c ≠ .watchSet f) → (∀ x, c ≠ .watchClear x) →
        (∀ kind payload, c = .unknownRequest kind payload → kind.toNat = 0 ∨ 25 < kind.toNat) →
        ∀ n h, (s.watch.get n).firstHit = some h → (t.watch.get n).firstHit = some h)
    ∧ (s.link.queue = [] → (∀ bytes, c ≠ .receiveFrame bytes) → (∀ f, c ≠ .filterFit f) → c ≠ .scanEnd →
        (∀ kind payload, c = .unknownRequest kind payload → kind.toNat = 0 ∨ 25 < kind.toNat) →
        s.filter.pmLoad ≤ t.filter.pmLoad ∧ s.filter.gasLoad ≤ t.filter.gasLoad)
end

