-- ==== Sys2Proof/Laws/Flash.lean ====
section
/-! SUPPORT. The flash (R153): what a slot reads after each operation, that each keeps the canonical form, and what a cut
erase or program leaves (R168); a journal record (R154): its bytes, its CRC, and when its slot is VALID. -/

namespace Sys2Proof.Machine

/-- A slot numbered at or below the low end of a canonical flash reads ERASED. -/
theorem Flash.read_of_wfAbove {f : Flash} {b n : Nat} (h : Flash.wfAbove (some b) f = true) (hn : n ≤ b) :
    f.read n = .erased := by
  induction f generalizing b with
  | nil => rfl
  | cons e rest ih =>
    simp only [Flash.wfAbove, Bool.and_eq_true, decide_eq_true_eq] at h
    rw [Flash.read, if_neg (by omega)]
    exact ih h.2 (by omega)

/-- Writing a slot leaves every other slot as it was. -/
theorem Flash.read_write_other (f : Flash) {n m : Nat} (x : Slot) (h : m ≠ n) : (f.write n x).read m = f.read m := by
  induction f with
  | nil => by_cases hx : x = .erased <;> simp [Flash.write, Flash.read, hx, Ne.symm h]
  | cons e rest ih =>
    obtain ⟨k, y⟩ := e
    rw [Flash.write]
    split
    · split <;> simp [Flash.read, Ne.symm h]
    · split
      · rename_i hk
        subst hk
        split <;> simp [Flash.read, Ne.symm h]
      · simp only [Flash.read, ih]

/-- A slot written in a canonical flash reads what was written. -/
theorem Flash.read_write_same {f : Flash} {low : Option Nat} (n : Nat) (x : Slot) (h : Flash.wfAbove low f = true) :
    (f.write n x).read n = x := by
  induction f generalizing low with
  | nil => by_cases hx : x = .erased <;> simp [Flash.write, Flash.read, hx]
  | cons e rest ih =>
    obtain ⟨k, y⟩ := e
    simp only [Flash.wfAbove, Bool.and_eq_true, decide_eq_true_eq] at h
    rw [Flash.write]
    split
    · split
      · rename_i hn hx
        rw [Flash.read, if_neg (by omega), Flash.read_of_wfAbove h.2 (by omega), hx]
      · simp [Flash.read]
    · split
      · rename_i hk
        subst hk
        split
        · rename_i hx
          rw [Flash.read_of_wfAbove h.2 (le_refl _), hx]
        · simp [Flash.read]
      · rename_i hk
        rw [Flash.read, if_neg (fun he => hk he.symm), ih h.2]

/-- A canonical flash above a number is canonical above every smaller one. -/
theorem Flash.wfAbove_mono {f : Flash} {a b : Nat} (hab : a ≤ b) (h : Flash.wfAbove (some b) f = true) :
    Flash.wfAbove (some a) f = true := by
  cases f with
  | nil => rfl
  | cons e rest =>
    simp only [Flash.wfAbove, Bool.and_eq_true, decide_eq_true_eq] at h ⊢
    exact ⟨⟨⟨by omega, h.1.1.2⟩, h.1.2⟩, h.2⟩

/-- Writing a slot of the flash keeps its form, above any number the slot lies above. -/
theorem Flash.wfAbove_write {f : Flash} {low : Option Nat} {n : Nat} (x : Slot) (hn : n < 128)
    (hl : ∀ b, low = some b → b < n) (h : Flash.wfAbove low f = true) : Flash.wfAbove low (f.write n x) = true := by
  induction f generalizing low with
  | nil => by_cases hx : x = .erased <;> cases low <;> simp_all [Flash.write, Flash.wfAbove]
  | cons e rest ih =>
    obtain ⟨k, y⟩ := e
    have h' := h
    simp only [Flash.wfAbove, Bool.and_eq_true, decide_eq_true_eq] at h
    rw [Flash.write]
    split
    · split
      · exact h'
      · cases low <;> simp_all [Flash.wfAbove]
    · split
      · rename_i hk
        subst hk
        split
        · cases low with
          | none =>
            cases rest with
            | nil => rfl
            | cons e rest =>
              have h2 := h.2
              simp only [Flash.wfAbove, Bool.and_eq_true, decide_eq_true_eq] at h2 ⊢
              exact ⟨⟨⟨trivial, h2.1.1.2⟩, h2.1.2⟩, h2.2⟩
          | some b => exact Flash.wfAbove_mono (le_of_lt (hl b rfl)) h.2
        · cases low <;> simp_all [Flash.wfAbove]
      · simp only [Flash.wfAbove, Bool.and_eq_true, decide_eq_true_eq]
        exact ⟨h.1, ih (fun b hb => by cases hb; omega) h.2⟩

/-- Writing a slot of the flash keeps its form. -/
theorem Flash.wf_write {f : Flash} {n : Nat} (x : Slot) (hn : n < 128) (h : f.wf = true) : (f.write n x).wf = true :=
  Flash.wfAbove_write x hn (fun _ hb => nomatch hb) h

/-- In a canonical flash a written slot reads what was written. -/
theorem Flash.read_write {f : Flash} (n m : Nat) (x : Slot) (h : f.wf = true) :
    (f.write n x).read m = if m = n then x else f.read m := by
  split
  · rename_i hm
    rw [hm, Flash.read_write_same n x h]
  · rename_i hm
    exact Flash.read_write_other f x hm

/-- What a run of writes to slots of one sector does: it keeps the form, and a slot outside the sector reads as before. -/
theorem Flash.foldl_sector {sector : Nat} (g : Flash → Nat → Flash)
    (hg : ∀ f i, i < 16 → f.wf = true → (g f i).wf = true)
    (ho : ∀ f i a, i < 16 → a / 16 ≠ sector → (g f i).read a = f.read a) (l : List Nat) (hl : ∀ i ∈ l, i < 16)
    {f : Flash} (h : f.wf = true) :
    (l.foldl g f).wf = true ∧ ∀ a, a / 16 ≠ sector → (l.foldl g f).read a = f.read a := by
  induction l generalizing f with
  | nil => exact ⟨h, fun _ _ => rfl⟩
  | cons i rest ih =>
    have hi := hl i (by simp)
    obtain ⟨h1, h2⟩ := ih (fun j hj => hl j (by simp [hj])) (hg f i hi h)
    exact ⟨h1, fun a ha => by rw [List.foldl_cons, h2 a ha, ho f i a hi ha]⟩

theorem mem_sectorSlots {i : Nat} : i ∈ sectorSlots ↔ i < 16 := by
  simp only [sectorSlots, List.mem_cons, List.not_mem_nil, or_false]
  omega

/-- An erase that passes keeps the form of the flash and spares every slot outside the sector (R153). -/
theorem Flash.eraseSector_outside {f : Flash} {sector : Nat} (hs : sector < 8) (h : f.wf = true) :
    (f.eraseSector sector).wf = true
      ∧ ∀ a, a / 16 ≠ sector → (f.eraseSector sector).read a = f.read a :=
  Flash.foldl_sector (fun g i => g.write (slotNumber sector i) .erased)
    (fun _ i hi hf => Flash.wf_write .erased (by simp only [slotNumber]; omega) hf)
    (fun f i a hi ha => Flash.read_write_other f .erased (by simp only [slotNumber]; omega))
    sectorSlots (fun _ hi => mem_sectorSlots.mp hi) h

/-- An erase that was cut or failed keeps the form and spares every slot outside the sector (R159, R168). -/
theorem Flash.spoilSector_outside {f : Flash} {sector : Nat} (left : List SlotOutcome) (hs : sector < 8)
    (h : f.wf = true) :
    (f.spoilSector sector left).wf = true
      ∧ ∀ a, a / 16 ≠ sector → (f.spoilSector sector left).read a = f.read a := by
  refine Flash.foldl_sector _ ?_ ?_ sectorSlots (fun _ hi => mem_sectorSlots.mp hi) h
  · intro f i hi hf
    split
    · exact hf
    · exact Flash.wf_write .damaged (by simp only [slotNumber]; omega) hf
    · exact Flash.wf_write .erased (by simp only [slotNumber]; omega) hf
  · intro f i a hi ha
    split
    · rfl
    · exact Flash.read_write_other f .damaged (by simp only [slotNumber]; omega)
    · exact Flash.read_write_other f .erased (by simp only [slotNumber]; omega)

/-- What a run of writes to slots of sector c, each slot at most once, leaves in slot i: what its own write makes of it. -/
theorem Flash.foldl_slot {c i : Nat} (g : Flash → Nat → Flash) (out : Slot → Slot)
    (hg : ∀ f j, j < 16 → f.wf = true → (g f j).wf = true)
    (ho : ∀ f j, j ≠ i → (g f j).read (16 * c + i) = f.read (16 * c + i))
    (hi : ∀ f, f.wf = true → (g f i).read (16 * c + i) = out (f.read (16 * c + i)))
    {l : List Nat} (hl : ∀ j ∈ l, j < 16) (hn : l.Nodup) {f : Flash} (h : f.wf = true) :
    (l.foldl g f).read (16 * c + i) = if i ∈ l then out (f.read (16 * c + i)) else f.read (16 * c + i) := by
  induction l generalizing f with
  | nil => rfl
  | cons j rest ih =>
    obtain ⟨hj, hn⟩ := List.nodup_cons.mp hn
    rw [List.foldl_cons, ih (fun k hk => hl k (by simp [hk])) hn (hg f j (hl j (by simp)) h)]
    by_cases hij : i = j
    · subst hij
      rw [if_neg hj, if_pos (by simp), hi f h]
    · simp only [List.mem_cons, hij, false_or, ho f j (Ne.symm hij)]

/-- An erase that passes leaves every slot of the sector ERASED (R153). -/
theorem Flash.eraseSector_inside {f : Flash} {sector i : Nat} (hs : sector < 8) (hi : i < 16) (h : f.wf = true) :
    (f.eraseSector sector).read (16 * sector + i) = .erased :=
  (Flash.foldl_slot _ (fun _ => .erased) (fun _ j hj hf => Flash.wf_write .erased (by simp only [slotNumber]; omega) hf)
    (fun f j hj => Flash.read_write_other f .erased (by simp only [slotNumber]; omega))
    (fun f hf => Flash.read_write_same (slotNumber sector i) .erased hf) (fun _ hj => mem_sectorSlots.mp hj) (by decide) h).trans
    (if_pos (mem_sectorSlots.mpr hi))

/-- What an erase that was cut or failed leaves, slot by slot (R159, R168). -/
theorem Flash.spoilSector_left {f : Flash} {c : Nat} (left : List SlotOutcome) (hc : c < 8) (h : f.wf = true) :
    EraseLeft c left f (f.spoilSector c left) := by
  refine ⟨(Flash.spoilSector_outside left hc h).2, fun i hi => ?_⟩
  have wf (f : Flash) (j : Nat) (x : Slot) (hj : j < 16) (hf : f.wf = true) : (f.write (slotNumber c j) x).wf = true :=
    Flash.wf_write x (by simp only [slotNumber]; omega) hf
  have run (out : Slot → Slot) (own : ∀ f : Flash, f.wf = true →
        Flash.read (match left[i]?.getD .untouched with
          | .untouched => f
          | .damaged => f.write (slotNumber c i) .damaged
          | .complete => f.write (slotNumber c i) .erased) (16 * c + i) = out (f.read (16 * c + i))) :
      (f.spoilSector c left).read (16 * c + i) = out (f.read (16 * c + i)) := by
    refine (Flash.foldl_slot _ out (fun f j hj hf => ?_) (fun f j hj => ?_) (fun f hf => ?_)
      (fun _ hj => mem_sectorSlots.mp hj) (by decide) h).trans (if_pos (mem_sectorSlots.mpr hi))
    · split <;> first | exact hf | exact wf f j _ hj hf
    · have other (x : Slot) : (f.write (slotNumber c j) x).read (16 * c + i) = f.read (16 * c + i) :=
        Flash.read_write_other f x (by simp only [slotNumber]; omega)
      split <;> first | rfl | exact other _
    · refine Eq.trans ?_ (own f hf)
      cases left[i]?.getD .untouched <;> rfl
  refine ⟨fun e => run (fun _ => .damaged) fun f hf => ?_, fun e => run (fun _ => .erased) fun f hf => ?_,
    fun e => run id fun f hf => ?_⟩
  · rw [e]
    exact Flash.read_write_same (slotNumber c i) .damaged hf
  · rw [e]
    exact Flash.read_write_same (slotNumber c i) .erased hf
  · rcases e with e | e <;> simp only [e, Option.getD, id]

/-- A program that was cut or failed keeps the form and spares every other slot (R161, R168). -/
theorem Flash.spoilSlot_outside {f : Flash} {sector i : Nat} (r : JournalRecord) (left : SlotOutcome) (hs : sector < 8)
    (hi : i < 16) (h : f.wf = true) :
    (f.spoilSlot sector i r left).wf = true
      ∧ ∀ a, a ≠ 16 * sector + i → (f.spoilSlot sector i r left).read a = f.read a := by
  cases left with
  | untouched => exact ⟨h, fun _ _ => rfl⟩
  | damaged => exact ⟨Flash.wf_write _ (by simp only [slotNumber]; omega) h, fun a ha => Flash.read_write_other f _ ha⟩
  | complete => exact ⟨Flash.wf_write _ (by simp only [slotNumber]; omega) h, fun a ha => Flash.read_write_other f _ ha⟩

/-- A write of a slot keeps the sequences of the records in their range, where it writes none outside it (R154). -/
theorem SequencesInRange.write {f : Flash} {n : Nat} {x : Slot} (h : SequencesInRange f) (hf : f.wf = true)
    (hx : ∀ r, x = .record r → 0 < r.sequence ∧ r.sequence < 4294967295) : SequencesInRange (f.write n x) := by
  intro a r hr
  rw [Flash.read_write n a x hf] at hr
  split at hr
  · exact hx r hr
  · exact h a r hr

/-- The flash after a power-on reset has the canonical form: it lists nothing. -/
theorem reset_flash_wf : State.reset.flash.wf = true := rfl

/-! ### Journal records (R154) -/

theorem recordCovered_length (n : Nat) (k : RecordKind) (c : Snapshot) : (recordCovered n k c).length = 62 := by
  simp [recordCovered]

/-- A record fills its slot: 64 bytes. -/
theorem JournalRecord.bytes_length (r : JournalRecord) : r.bytes.length = 64 := by
  simp [JournalRecord.bytes, recordCovered_length, bytes16]

/-- The CRC stands in the last two bytes, behind the 62 it covers. -/
theorem JournalRecord.bytes_split (r : JournalRecord) :
    r.bytes.take 62 = recordCovered r.sequence r.kind r.content ∧ r.bytes.drop 62 = bytes16 r.crc := by
  rw [JournalRecord.bytes]
  exact ⟨List.take_left' (recordCovered_length ..), List.drop_left' (recordCovered_length ..)⟩

/-- Two bytes of 0xFF stand behind the fields. -/
theorem JournalRecord.bytes_filler (r : JournalRecord) : (r.bytes.drop 60).take 2 = [0xFF#8, 0xFF#8] := by
  have h : (Config.recordBody r.sequence r.kind r.content).toList.length = 60 := by simp
  rw [JournalRecord.bytes, recordCovered, List.append_assoc, List.drop_left' h]
  rfl

/-- A program writes a record whose CRC is good. -/
theorem WriteInFlight.record_crcGood (w : WriteInFlight) (n : Nat) : (w.record n).crcGood = true :=
  decide_eq_true rfl

/-- When a slot is VALID, and with which record. -/
theorem Slot.valid?_eq_some {x : Slot} {r : JournalRecord} :
    x.valid? = some r ↔ x = .record r ∧ r.crcGood = true ∧ r.sequence ≠ 0 ∧ r.sequence ≠ max32 := by
  cases x with
  | erased => simp [Slot.valid?]
  | damaged => simp [Slot.valid?]
  | record y =>
    simp only [Slot.valid?, Slot.record.injEq]
    split
    · rename_i h
      refine ⟨fun h' => (nomatch h'), ?_⟩
      rintro ⟨rfl, h1, h2, h3⟩
      simp_all
    · rename_i h
      simp only [not_or] at h
      constructor
      · intro h'
        cases h'
        exact ⟨rfl, by simpa using h.1, h.2⟩
      · rintro ⟨rfl, -⟩
        rfl

/-- The slot a program has passed on is VALID: its sequence is one that a record may carry. -/
theorem Slot.valid?_of_programmed (w : WriteInFlight) {n : Nat} (h0 : n ≠ 0) (hm : n ≠ max32) :
    (Slot.record (w.record n)).valid? = some (w.record n) :=
  Slot.valid?_eq_some.mpr ⟨rfl, w.record_crcGood n, h0, hm⟩

/-- The record a write programs is the one its slot then holds (R154). -/
theorem WriteInFlight.holdsRecord (w : WriteInFlight) (n : Nat) : HoldsRecord w n (.record (w.record n)) :=
  ⟨w.record n, rfl, rfl, rfl, rfl, JournalRecord.bytes_length _, JournalRecord.bytes_filler _,
    by rw [(JournalRecord.bytes_split _).1, (JournalRecord.bytes_split _).2]; rfl,
    fun h0 hm => Slot.valid?_of_programmed w (by omega) (by simp only [max32]; omega)⟩

/-- What a program that was cut or failed leaves in its slot (R161, R168). -/
theorem Flash.spoilSlot_left {f : Flash} (w : WriteInFlight) (k i n : Nat) (left : SlotOutcome) (h : f.wf = true) :
    ProgramLeft w k i n left f (f.spoilSlot k i (w.record n) left) := by
  have reads (x : Slot) : (f.write (slotNumber k i) x).read (16 * k + i) = x := Flash.read_write_same _ x h
  refine ⟨fun a ha => ?_, fun e => ?_, fun e => ?_, fun e => ?_⟩
  · cases left <;> first | rfl | exact Flash.read_write_other f _ ha
  · subst e
    exact reads _
  · subst e
    rfl
  · subst e
    exact (reads _).symm ▸ w.holdsRecord n

/-- What a power-on reset that cuts a write leaves in the flash (R168). -/
theorem flashAfterCut_left {s : State} {w : WriteInFlight} (cut : List SlotOutcome) (hw : s.journal.write = some w)
    (h : s.flash.wf = true) :
    (∀ c, w.phase = .erasing c → c < 8 → EraseLeft c cut s.flash (s.flashAfterCut cut))
      ∧ ∀ k i n, w.phase = .programming k i n →
          ProgramLeft w k i n (cut[i]?.getD .untouched) s.flash (s.flashAfterCut cut) := by
  refine ⟨fun c hp hc => ?_, fun k i n hp => ?_⟩
  · simpa [State.flashAfterCut, hw, hp] using Flash.spoilSector_left cut hc h
  · simpa [State.flashAfterCut, hw, hp] using Flash.spoilSlot_left w k i n (cut[i]?.getD .untouched) h

/-- A VALID slot of such a flash leaves the next sequence within R155's bound (R165). -/
theorem SequencesInRange.valid {f : Flash} {a : Nat} {r : JournalRecord} (h : SequencesInRange f)
    (hr : (f.read a).valid? = some r) : 0 < r.sequence ∧ r.sequence < 4294967295 :=
  h a r (Slot.valid?_eq_some.mp hr).1

/-- What the scan finds: the VALID record above which no slot holds another (R165). -/
theorem Flash.newestValid_eq {f : Flash} {a : Nat} {r : JournalRecord} (hm : (a, Slot.record r) ∈ f)
    (hv : (Slot.record r).valid? = some r)
    (hmax : ∀ e ∈ f, ∀ x, e.2.valid? = some x → x.sequence < r.sequence ∨ e.1 = a ∧ x = r) :
    f.newestValid = some ⟨a, r⟩ := by
  have key : ∀ (l : Flash) (best : Option Found),
      (∀ e ∈ l, ∀ x, e.2.valid? = some x → x.sequence < r.sequence ∨ e.1 = a ∧ x = r) →
      best = some ⟨a, r⟩ ∨ (a, Slot.record r) ∈ l ∧ (∀ b, best = some b → b.stored.sequence < r.sequence) →
      l.foldl (fun b kx => newer b kx.1 kx.2) best = some ⟨a, r⟩ := by
    intro l
    induction l with
    | nil => simp
    | cons e rest ih =>
      intro best hl hor
      have he := hl e (by simp)
      rw [List.foldl_cons]
      refine ih _ (fun e' h' => hl e' (by simp [h'])) ?_
      rw [newer]
      cases hx : e.2.valid? with
      | none =>
        rcases hor with h | ⟨hmem, hlt⟩
        · exact .inl h
        · refine .inr ⟨?_, hlt⟩
          rcases List.mem_cons.mp hmem with h | h
          · subst h
            rw [hv] at hx
            cases hx
          · exact h
      | some x =>
        rcases hor with rfl | ⟨hmem, hlt⟩
        · left
          dsimp only
          rcases he x hx with h | ⟨-, rfl⟩
          · rw [if_neg (by omega)]
          · rw [if_neg (by omega)]
        · rcases he x hx with h | ⟨ha, rfl⟩
          · refine .inr ⟨?_, ?_⟩
            · rcases List.mem_cons.mp hmem with h' | h'
              · subst h'
                rw [hv] at hx
                cases hx
                omega
              · exact h'
            · intro b hb
              cases best with
              | none => cases hb; exact h
              | some b' =>
                have := hlt b' rfl
                dsimp only at hb
                split at hb <;> cases hb <;> assumption
          · left
            cases best with
            | none => rw [ha]
            | some b' =>
              dsimp only
              rw [if_pos (hlt b' rfl), ha]
  exact key f none hmax (.inr ⟨hm, fun _ h => nomatch h⟩)

end Sys2Proof.Machine
end

