-- ==== Sys2Proof/Laws/State.lean ====
section
/-! SUPPORT. What each update of the state leaves in each field: one lemma per field per update. -/

namespace Sys2Proof.Machine

variable (s : State)

/-! ### withEst -/

@[simp] theorem State.withEst_est (x : Estimator) : (s.withEst x).est = x := rfl
@[simp] theorem State.withEst_policy (x : Estimator) : (s.withEst x).policy = s.policy := rfl
@[simp] theorem State.withEst_tracker (x : Estimator) : (s.withEst x).tracker = s.tracker := rfl
@[simp] theorem State.withEst_channels (x : Estimator) : (s.withEst x).channels = s.channels := rfl
@[simp] theorem State.withEst_drive (x : Estimator) : (s.withEst x).drive = s.drive := rfl
@[simp] theorem State.withEst_timers (x : Estimator) : (s.withEst x).timers = s.timers := rfl
@[simp] theorem State.withEst_uptime (x : Estimator) : (s.withEst x).uptime = s.uptime := rfl
@[simp] theorem State.withEst_secondMs (x : Estimator) : (s.withEst x).secondMs = s.secondMs := rfl
@[simp] theorem State.withEst_flap (x : Estimator) : (s.withEst x).flap = s.flap := rfl
@[simp] theorem State.withEst_blower (x : Estimator) : (s.withEst x).blower = s.blower := rfl
@[simp] theorem State.withEst_filter (x : Estimator) : (s.withEst x).filter = s.filter := rfl
@[simp] theorem State.withEst_tally (x : Estimator) : (s.withEst x).tally = s.tally := rfl
@[simp] theorem State.withEst_journal (x : Estimator) : (s.withEst x).journal = s.journal := rfl
@[simp] theorem State.withEst_flash (x : Estimator) : (s.withEst x).flash = s.flash := rfl
@[simp] theorem State.withEst_watch (x : Estimator) : (s.withEst x).watch = s.watch := rfl
@[simp] theorem State.withEst_notices (x : Estimator) : (s.withEst x).notices = s.notices := rfl
@[simp] theorem State.withEst_link (x : Estimator) : (s.withEst x).link = s.link := rfl
@[simp] theorem State.withEst_freeCount (x : Estimator) : (s.withEst x).freeCount = s.freeCount := rfl
@[simp] theorem State.withEst_pending (x : Estimator) : (s.withEst x).pending = s.pending := rfl

/-! ### withPolicy -/

@[simp] theorem State.withPolicy_est (x : Policy) : (s.withPolicy x).est = s.est := rfl
@[simp] theorem State.withPolicy_policy (x : Policy) : (s.withPolicy x).policy = x := rfl
@[simp] theorem State.withPolicy_tracker (x : Policy) : (s.withPolicy x).tracker = s.tracker := rfl
@[simp] theorem State.withPolicy_channels (x : Policy) : (s.withPolicy x).channels = s.channels := rfl
@[simp] theorem State.withPolicy_drive (x : Policy) : (s.withPolicy x).drive = s.drive := rfl
@[simp] theorem State.withPolicy_timers (x : Policy) : (s.withPolicy x).timers = s.timers := rfl
@[simp] theorem State.withPolicy_uptime (x : Policy) : (s.withPolicy x).uptime = s.uptime := rfl
@[simp] theorem State.withPolicy_secondMs (x : Policy) : (s.withPolicy x).secondMs = s.secondMs := rfl
@[simp] theorem State.withPolicy_flap (x : Policy) : (s.withPolicy x).flap = s.flap := rfl
@[simp] theorem State.withPolicy_blower (x : Policy) : (s.withPolicy x).blower = s.blower := rfl
@[simp] theorem State.withPolicy_filter (x : Policy) : (s.withPolicy x).filter = s.filter := rfl
@[simp] theorem State.withPolicy_tally (x : Policy) : (s.withPolicy x).tally = s.tally := rfl
@[simp] theorem State.withPolicy_journal (x : Policy) : (s.withPolicy x).journal = s.journal := rfl
@[simp] theorem State.withPolicy_flash (x : Policy) : (s.withPolicy x).flash = s.flash := rfl
@[simp] theorem State.withPolicy_watch (x : Policy) : (s.withPolicy x).watch = s.watch := rfl
@[simp] theorem State.withPolicy_notices (x : Policy) : (s.withPolicy x).notices = s.notices := rfl
@[simp] theorem State.withPolicy_link (x : Policy) : (s.withPolicy x).link = s.link := rfl
@[simp] theorem State.withPolicy_freeCount (x : Policy) : (s.withPolicy x).freeCount = s.freeCount := rfl
@[simp] theorem State.withPolicy_pending (x : Policy) : (s.withPolicy x).pending = s.pending := rfl

/-! ### withTracker -/

@[simp] theorem State.withTracker_est (x : Tracker) : (s.withTracker x).est = s.est := rfl
@[simp] theorem State.withTracker_policy (x : Tracker) : (s.withTracker x).policy = s.policy := rfl
@[simp] theorem State.withTracker_tracker (x : Tracker) : (s.withTracker x).tracker = x := rfl
@[simp] theorem State.withTracker_channels (x : Tracker) : (s.withTracker x).channels = s.channels := rfl
@[simp] theorem State.withTracker_drive (x : Tracker) : (s.withTracker x).drive = s.drive := rfl
@[simp] theorem State.withTracker_timers (x : Tracker) : (s.withTracker x).timers = s.timers := rfl
@[simp] theorem State.withTracker_uptime (x : Tracker) : (s.withTracker x).uptime = s.uptime := rfl
@[simp] theorem State.withTracker_secondMs (x : Tracker) : (s.withTracker x).secondMs = s.secondMs := rfl
@[simp] theorem State.withTracker_flap (x : Tracker) : (s.withTracker x).flap = s.flap := rfl
@[simp] theorem State.withTracker_blower (x : Tracker) : (s.withTracker x).blower = s.blower := rfl
@[simp] theorem State.withTracker_filter (x : Tracker) : (s.withTracker x).filter = s.filter := rfl
@[simp] theorem State.withTracker_tally (x : Tracker) : (s.withTracker x).tally = s.tally := rfl
@[simp] theorem State.withTracker_journal (x : Tracker) : (s.withTracker x).journal = s.journal := rfl
@[simp] theorem State.withTracker_flash (x : Tracker) : (s.withTracker x).flash = s.flash := rfl
@[simp] theorem State.withTracker_watch (x : Tracker) : (s.withTracker x).watch = s.watch := rfl
@[simp] theorem State.withTracker_notices (x : Tracker) : (s.withTracker x).notices = s.notices := rfl
@[simp] theorem State.withTracker_link (x : Tracker) : (s.withTracker x).link = s.link := rfl
@[simp] theorem State.withTracker_freeCount (x : Tracker) : (s.withTracker x).freeCount = s.freeCount := rfl
@[simp] theorem State.withTracker_pending (x : Tracker) : (s.withTracker x).pending = s.pending := rfl

/-! ### withChannels -/

@[simp] theorem State.withChannels_est (x : Channels) : (s.withChannels x).est = s.est := rfl
@[simp] theorem State.withChannels_policy (x : Channels) : (s.withChannels x).policy = s.policy := rfl
@[simp] theorem State.withChannels_tracker (x : Channels) : (s.withChannels x).tracker = s.tracker := rfl
@[simp] theorem State.withChannels_channels (x : Channels) : (s.withChannels x).channels = x := rfl
@[simp] theorem State.withChannels_drive (x : Channels) : (s.withChannels x).drive = s.drive := rfl
@[simp] theorem State.withChannels_timers (x : Channels) : (s.withChannels x).timers = s.timers := rfl
@[simp] theorem State.withChannels_uptime (x : Channels) : (s.withChannels x).uptime = s.uptime := rfl
@[simp] theorem State.withChannels_secondMs (x : Channels) : (s.withChannels x).secondMs = s.secondMs := rfl
@[simp] theorem State.withChannels_flap (x : Channels) : (s.withChannels x).flap = s.flap := rfl
@[simp] theorem State.withChannels_blower (x : Channels) : (s.withChannels x).blower = s.blower := rfl
@[simp] theorem State.withChannels_filter (x : Channels) : (s.withChannels x).filter = s.filter := rfl
@[simp] theorem State.withChannels_tally (x : Channels) : (s.withChannels x).tally = s.tally := rfl
@[simp] theorem State.withChannels_journal (x : Channels) : (s.withChannels x).journal = s.journal := rfl
@[simp] theorem State.withChannels_flash (x : Channels) : (s.withChannels x).flash = s.flash := rfl
@[simp] theorem State.withChannels_watch (x : Channels) : (s.withChannels x).watch = s.watch := rfl
@[simp] theorem State.withChannels_notices (x : Channels) : (s.withChannels x).notices = s.notices := rfl
@[simp] theorem State.withChannels_link (x : Channels) : (s.withChannels x).link = s.link := rfl
@[simp] theorem State.withChannels_freeCount (x : Channels) : (s.withChannels x).freeCount = s.freeCount := rfl
@[simp] theorem State.withChannels_pending (x : Channels) : (s.withChannels x).pending = s.pending := rfl

/-! ### withDrive -/

@[simp] theorem State.withDrive_est (x : Drive) : (s.withDrive x).est = s.est := rfl
@[simp] theorem State.withDrive_policy (x : Drive) : (s.withDrive x).policy = s.policy := rfl
@[simp] theorem State.withDrive_tracker (x : Drive) : (s.withDrive x).tracker = s.tracker := rfl
@[simp] theorem State.withDrive_channels (x : Drive) : (s.withDrive x).channels = s.channels := rfl
@[simp] theorem State.withDrive_drive (x : Drive) : (s.withDrive x).drive = x := rfl
@[simp] theorem State.withDrive_timers (x : Drive) : (s.withDrive x).timers = s.timers := rfl
@[simp] theorem State.withDrive_uptime (x : Drive) : (s.withDrive x).uptime = s.uptime := rfl
@[simp] theorem State.withDrive_secondMs (x : Drive) : (s.withDrive x).secondMs = s.secondMs := rfl
@[simp] theorem State.withDrive_flap (x : Drive) : (s.withDrive x).flap = s.flap := rfl
@[simp] theorem State.withDrive_blower (x : Drive) : (s.withDrive x).blower = s.blower := rfl
@[simp] theorem State.withDrive_filter (x : Drive) : (s.withDrive x).filter = s.filter := rfl
@[simp] theorem State.withDrive_tally (x : Drive) : (s.withDrive x).tally = s.tally := rfl
@[simp] theorem State.withDrive_journal (x : Drive) : (s.withDrive x).journal = s.journal := rfl
@[simp] theorem State.withDrive_flash (x : Drive) : (s.withDrive x).flash = s.flash := rfl
@[simp] theorem State.withDrive_watch (x : Drive) : (s.withDrive x).watch = s.watch := rfl
@[simp] theorem State.withDrive_notices (x : Drive) : (s.withDrive x).notices = s.notices := rfl
@[simp] theorem State.withDrive_link (x : Drive) : (s.withDrive x).link = s.link := rfl
@[simp] theorem State.withDrive_freeCount (x : Drive) : (s.withDrive x).freeCount = s.freeCount := rfl
@[simp] theorem State.withDrive_pending (x : Drive) : (s.withDrive x).pending = s.pending := rfl

/-! ### withTimers -/

@[simp] theorem State.withTimers_est (x : Timers) : (s.withTimers x).est = s.est := rfl
@[simp] theorem State.withTimers_policy (x : Timers) : (s.withTimers x).policy = s.policy := rfl
@[simp] theorem State.withTimers_tracker (x : Timers) : (s.withTimers x).tracker = s.tracker := rfl
@[simp] theorem State.withTimers_channels (x : Timers) : (s.withTimers x).channels = s.channels := rfl
@[simp] theorem State.withTimers_drive (x : Timers) : (s.withTimers x).drive = s.drive := rfl
@[simp] theorem State.withTimers_timers (x : Timers) : (s.withTimers x).timers = x := rfl
@[simp] theorem State.withTimers_uptime (x : Timers) : (s.withTimers x).uptime = s.uptime := rfl
@[simp] theorem State.withTimers_secondMs (x : Timers) : (s.withTimers x).secondMs = s.secondMs := rfl
@[simp] theorem State.withTimers_flap (x : Timers) : (s.withTimers x).flap = s.flap := rfl
@[simp] theorem State.withTimers_blower (x : Timers) : (s.withTimers x).blower = s.blower := rfl
@[simp] theorem State.withTimers_filter (x : Timers) : (s.withTimers x).filter = s.filter := rfl
@[simp] theorem State.withTimers_tally (x : Timers) : (s.withTimers x).tally = s.tally := rfl
@[simp] theorem State.withTimers_journal (x : Timers) : (s.withTimers x).journal = s.journal := rfl
@[simp] theorem State.withTimers_flash (x : Timers) : (s.withTimers x).flash = s.flash := rfl
@[simp] theorem State.withTimers_watch (x : Timers) : (s.withTimers x).watch = s.watch := rfl
@[simp] theorem State.withTimers_notices (x : Timers) : (s.withTimers x).notices = s.notices := rfl
@[simp] theorem State.withTimers_link (x : Timers) : (s.withTimers x).link = s.link := rfl
@[simp] theorem State.withTimers_freeCount (x : Timers) : (s.withTimers x).freeCount = s.freeCount := rfl
@[simp] theorem State.withTimers_pending (x : Timers) : (s.withTimers x).pending = s.pending := rfl

/-! ### withUptime -/

@[simp] theorem State.withUptime_est (x : Nat) : (s.withUptime x).est = s.est := rfl
@[simp] theorem State.withUptime_policy (x : Nat) : (s.withUptime x).policy = s.policy := rfl
@[simp] theorem State.withUptime_tracker (x : Nat) : (s.withUptime x).tracker = s.tracker := rfl
@[simp] theorem State.withUptime_channels (x : Nat) : (s.withUptime x).channels = s.channels := rfl
@[simp] theorem State.withUptime_drive (x : Nat) : (s.withUptime x).drive = s.drive := rfl
@[simp] theorem State.withUptime_timers (x : Nat) : (s.withUptime x).timers = s.timers := rfl
@[simp] theorem State.withUptime_uptime (x : Nat) : (s.withUptime x).uptime = x := rfl
@[simp] theorem State.withUptime_secondMs (x : Nat) : (s.withUptime x).secondMs = s.secondMs := rfl
@[simp] theorem State.withUptime_flap (x : Nat) : (s.withUptime x).flap = s.flap := rfl
@[simp] theorem State.withUptime_blower (x : Nat) : (s.withUptime x).blower = s.blower := rfl
@[simp] theorem State.withUptime_filter (x : Nat) : (s.withUptime x).filter = s.filter := rfl
@[simp] theorem State.withUptime_tally (x : Nat) : (s.withUptime x).tally = s.tally := rfl
@[simp] theorem State.withUptime_journal (x : Nat) : (s.withUptime x).journal = s.journal := rfl
@[simp] theorem State.withUptime_flash (x : Nat) : (s.withUptime x).flash = s.flash := rfl
@[simp] theorem State.withUptime_watch (x : Nat) : (s.withUptime x).watch = s.watch := rfl
@[simp] theorem State.withUptime_notices (x : Nat) : (s.withUptime x).notices = s.notices := rfl
@[simp] theorem State.withUptime_link (x : Nat) : (s.withUptime x).link = s.link := rfl
@[simp] theorem State.withUptime_freeCount (x : Nat) : (s.withUptime x).freeCount = s.freeCount := rfl
@[simp] theorem State.withUptime_pending (x : Nat) : (s.withUptime x).pending = s.pending := rfl

/-! ### withSecondMs -/

@[simp] theorem State.withSecondMs_est (x : Nat) : (s.withSecondMs x).est = s.est := rfl
@[simp] theorem State.withSecondMs_policy (x : Nat) : (s.withSecondMs x).policy = s.policy := rfl
@[simp] theorem State.withSecondMs_tracker (x : Nat) : (s.withSecondMs x).tracker = s.tracker := rfl
@[simp] theorem State.withSecondMs_channels (x : Nat) : (s.withSecondMs x).channels = s.channels := rfl
@[simp] theorem State.withSecondMs_drive (x : Nat) : (s.withSecondMs x).drive = s.drive := rfl
@[simp] theorem State.withSecondMs_timers (x : Nat) : (s.withSecondMs x).timers = s.timers := rfl
@[simp] theorem State.withSecondMs_uptime (x : Nat) : (s.withSecondMs x).uptime = s.uptime := rfl
@[simp] theorem State.withSecondMs_secondMs (x : Nat) : (s.withSecondMs x).secondMs = x := rfl
@[simp] theorem State.withSecondMs_flap (x : Nat) : (s.withSecondMs x).flap = s.flap := rfl
@[simp] theorem State.withSecondMs_blower (x : Nat) : (s.withSecondMs x).blower = s.blower := rfl
@[simp] theorem State.withSecondMs_filter (x : Nat) : (s.withSecondMs x).filter = s.filter := rfl
@[simp] theorem State.withSecondMs_tally (x : Nat) : (s.withSecondMs x).tally = s.tally := rfl
@[simp] theorem State.withSecondMs_journal (x : Nat) : (s.withSecondMs x).journal = s.journal := rfl
@[simp] theorem State.withSecondMs_flash (x : Nat) : (s.withSecondMs x).flash = s.flash := rfl
@[simp] theorem State.withSecondMs_watch (x : Nat) : (s.withSecondMs x).watch = s.watch := rfl
@[simp] theorem State.withSecondMs_notices (x : Nat) : (s.withSecondMs x).notices = s.notices := rfl
@[simp] theorem State.withSecondMs_link (x : Nat) : (s.withSecondMs x).link = s.link := rfl
@[simp] theorem State.withSecondMs_freeCount (x : Nat) : (s.withSecondMs x).freeCount = s.freeCount := rfl
@[simp] theorem State.withSecondMs_pending (x : Nat) : (s.withSecondMs x).pending = s.pending := rfl

/-! ### withFlap -/

@[simp] theorem State.withFlap_est (x : Flap) : (s.withFlap x).est = s.est := rfl
@[simp] theorem State.withFlap_policy (x : Flap) : (s.withFlap x).policy = s.policy := rfl
@[simp] theorem State.withFlap_tracker (x : Flap) : (s.withFlap x).tracker = s.tracker := rfl
@[simp] theorem State.withFlap_channels (x : Flap) : (s.withFlap x).channels = s.channels := rfl
@[simp] theorem State.withFlap_drive (x : Flap) : (s.withFlap x).drive = s.drive := rfl
@[simp] theorem State.withFlap_timers (x : Flap) : (s.withFlap x).timers = s.timers := rfl
@[simp] theorem State.withFlap_uptime (x : Flap) : (s.withFlap x).uptime = s.uptime := rfl
@[simp] theorem State.withFlap_secondMs (x : Flap) : (s.withFlap x).secondMs = s.secondMs := rfl
@[simp] theorem State.withFlap_flap (x : Flap) : (s.withFlap x).flap = x := rfl
@[simp] theorem State.withFlap_blower (x : Flap) : (s.withFlap x).blower = s.blower := rfl
@[simp] theorem State.withFlap_filter (x : Flap) : (s.withFlap x).filter = s.filter := rfl
@[simp] theorem State.withFlap_tally (x : Flap) : (s.withFlap x).tally = s.tally := rfl
@[simp] theorem State.withFlap_journal (x : Flap) : (s.withFlap x).journal = s.journal := rfl
@[simp] theorem State.withFlap_flash (x : Flap) : (s.withFlap x).flash = s.flash := rfl
@[simp] theorem State.withFlap_watch (x : Flap) : (s.withFlap x).watch = s.watch := rfl
@[simp] theorem State.withFlap_notices (x : Flap) : (s.withFlap x).notices = s.notices := rfl
@[simp] theorem State.withFlap_link (x : Flap) : (s.withFlap x).link = s.link := rfl
@[simp] theorem State.withFlap_freeCount (x : Flap) : (s.withFlap x).freeCount = s.freeCount := rfl
@[simp] theorem State.withFlap_pending (x : Flap) : (s.withFlap x).pending = s.pending := rfl

/-! ### withBlower -/

@[simp] theorem State.withBlower_est (x : Blower) : (s.withBlower x).est = s.est := rfl
@[simp] theorem State.withBlower_policy (x : Blower) : (s.withBlower x).policy = s.policy := rfl
@[simp] theorem State.withBlower_tracker (x : Blower) : (s.withBlower x).tracker = s.tracker := rfl
@[simp] theorem State.withBlower_channels (x : Blower) : (s.withBlower x).channels = s.channels := rfl
@[simp] theorem State.withBlower_drive (x : Blower) : (s.withBlower x).drive = s.drive := rfl
@[simp] theorem State.withBlower_timers (x : Blower) : (s.withBlower x).timers = s.timers := rfl
@[simp] theorem State.withBlower_uptime (x : Blower) : (s.withBlower x).uptime = s.uptime := rfl
@[simp] theorem State.withBlower_secondMs (x : Blower) : (s.withBlower x).secondMs = s.secondMs := rfl
@[simp] theorem State.withBlower_flap (x : Blower) : (s.withBlower x).flap = s.flap := rfl
@[simp] theorem State.withBlower_blower (x : Blower) : (s.withBlower x).blower = x := rfl
@[simp] theorem State.withBlower_filter (x : Blower) : (s.withBlower x).filter = s.filter := rfl
@[simp] theorem State.withBlower_tally (x : Blower) : (s.withBlower x).tally = s.tally := rfl
@[simp] theorem State.withBlower_journal (x : Blower) : (s.withBlower x).journal = s.journal := rfl
@[simp] theorem State.withBlower_flash (x : Blower) : (s.withBlower x).flash = s.flash := rfl
@[simp] theorem State.withBlower_watch (x : Blower) : (s.withBlower x).watch = s.watch := rfl
@[simp] theorem State.withBlower_notices (x : Blower) : (s.withBlower x).notices = s.notices := rfl
@[simp] theorem State.withBlower_link (x : Blower) : (s.withBlower x).link = s.link := rfl
@[simp] theorem State.withBlower_freeCount (x : Blower) : (s.withBlower x).freeCount = s.freeCount := rfl
@[simp] theorem State.withBlower_pending (x : Blower) : (s.withBlower x).pending = s.pending := rfl

/-! ### withFilter -/

@[simp] theorem State.withFilter_est (x : FilterRecord) : (s.withFilter x).est = s.est := rfl
@[simp] theorem State.withFilter_policy (x : FilterRecord) : (s.withFilter x).policy = s.policy := rfl
@[simp] theorem State.withFilter_tracker (x : FilterRecord) : (s.withFilter x).tracker = s.tracker := rfl
@[simp] theorem State.withFilter_channels (x : FilterRecord) : (s.withFilter x).channels = s.channels := rfl
@[simp] theorem State.withFilter_drive (x : FilterRecord) : (s.withFilter x).drive = s.drive := rfl
@[simp] theorem State.withFilter_timers (x : FilterRecord) : (s.withFilter x).timers = s.timers := rfl
@[simp] theorem State.withFilter_uptime (x : FilterRecord) : (s.withFilter x).uptime = s.uptime := rfl
@[simp] theorem State.withFilter_secondMs (x : FilterRecord) : (s.withFilter x).secondMs = s.secondMs := rfl
@[simp] theorem State.withFilter_flap (x : FilterRecord) : (s.withFilter x).flap = s.flap := rfl
@[simp] theorem State.withFilter_blower (x : FilterRecord) : (s.withFilter x).blower = s.blower := rfl
@[simp] theorem State.withFilter_filter (x : FilterRecord) : (s.withFilter x).filter = x := rfl
@[simp] theorem State.withFilter_tally (x : FilterRecord) : (s.withFilter x).tally = s.tally := rfl
@[simp] theorem State.withFilter_journal (x : FilterRecord) : (s.withFilter x).journal = s.journal := rfl
@[simp] theorem State.withFilter_flash (x : FilterRecord) : (s.withFilter x).flash = s.flash := rfl
@[simp] theorem State.withFilter_watch (x : FilterRecord) : (s.withFilter x).watch = s.watch := rfl
@[simp] theorem State.withFilter_notices (x : FilterRecord) : (s.withFilter x).notices = s.notices := rfl
@[simp] theorem State.withFilter_link (x : FilterRecord) : (s.withFilter x).link = s.link := rfl
@[simp] theorem State.withFilter_freeCount (x : FilterRecord) : (s.withFilter x).freeCount = s.freeCount := rfl
@[simp] theorem State.withFilter_pending (x : FilterRecord) : (s.withFilter x).pending = s.pending := rfl

/-! ### withTally -/

@[simp] theorem State.withTally_est (x : Tally) : (s.withTally x).est = s.est := rfl
@[simp] theorem State.withTally_policy (x : Tally) : (s.withTally x).policy = s.policy := rfl
@[simp] theorem State.withTally_tracker (x : Tally) : (s.withTally x).tracker = s.tracker := rfl
@[simp] theorem State.withTally_channels (x : Tally) : (s.withTally x).channels = s.channels := rfl
@[simp] theorem State.withTally_drive (x : Tally) : (s.withTally x).drive = s.drive := rfl
@[simp] theorem State.withTally_timers (x : Tally) : (s.withTally x).timers = s.timers := rfl
@[simp] theorem State.withTally_uptime (x : Tally) : (s.withTally x).uptime = s.uptime := rfl
@[simp] theorem State.withTally_secondMs (x : Tally) : (s.withTally x).secondMs = s.secondMs := rfl
@[simp] theorem State.withTally_flap (x : Tally) : (s.withTally x).flap = s.flap := rfl
@[simp] theorem State.withTally_blower (x : Tally) : (s.withTally x).blower = s.blower := rfl
@[simp] theorem State.withTally_filter (x : Tally) : (s.withTally x).filter = s.filter := rfl
@[simp] theorem State.withTally_tally (x : Tally) : (s.withTally x).tally = x := rfl
@[simp] theorem State.withTally_journal (x : Tally) : (s.withTally x).journal = s.journal := rfl
@[simp] theorem State.withTally_flash (x : Tally) : (s.withTally x).flash = s.flash := rfl
@[simp] theorem State.withTally_watch (x : Tally) : (s.withTally x).watch = s.watch := rfl
@[simp] theorem State.withTally_notices (x : Tally) : (s.withTally x).notices = s.notices := rfl
@[simp] theorem State.withTally_link (x : Tally) : (s.withTally x).link = s.link := rfl
@[simp] theorem State.withTally_freeCount (x : Tally) : (s.withTally x).freeCount = s.freeCount := rfl
@[simp] theorem State.withTally_pending (x : Tally) : (s.withTally x).pending = s.pending := rfl

/-! ### withJournal -/

@[simp] theorem State.withJournal_est (x : Journal) : (s.withJournal x).est = s.est := rfl
@[simp] theorem State.withJournal_policy (x : Journal) : (s.withJournal x).policy = s.policy := rfl
@[simp] theorem State.withJournal_tracker (x : Journal) : (s.withJournal x).tracker = s.tracker := rfl
@[simp] theorem State.withJournal_channels (x : Journal) : (s.withJournal x).channels = s.channels := rfl
@[simp] theorem State.withJournal_drive (x : Journal) : (s.withJournal x).drive = s.drive := rfl
@[simp] theorem State.withJournal_timers (x : Journal) : (s.withJournal x).timers = s.timers := rfl
@[simp] theorem State.withJournal_uptime (x : Journal) : (s.withJournal x).uptime = s.uptime := rfl
@[simp] theorem State.withJournal_secondMs (x : Journal) : (s.withJournal x).secondMs = s.secondMs := rfl
@[simp] theorem State.withJournal_flap (x : Journal) : (s.withJournal x).flap = s.flap := rfl
@[simp] theorem State.withJournal_blower (x : Journal) : (s.withJournal x).blower = s.blower := rfl
@[simp] theorem State.withJournal_filter (x : Journal) : (s.withJournal x).filter = s.filter := rfl
@[simp] theorem State.withJournal_tally (x : Journal) : (s.withJournal x).tally = s.tally := rfl
@[simp] theorem State.withJournal_journal (x : Journal) : (s.withJournal x).journal = x := rfl
@[simp] theorem State.withJournal_flash (x : Journal) : (s.withJournal x).flash = s.flash := rfl
@[simp] theorem State.withJournal_watch (x : Journal) : (s.withJournal x).watch = s.watch := rfl
@[simp] theorem State.withJournal_notices (x : Journal) : (s.withJournal x).notices = s.notices := rfl
@[simp] theorem State.withJournal_link (x : Journal) : (s.withJournal x).link = s.link := rfl
@[simp] theorem State.withJournal_freeCount (x : Journal) : (s.withJournal x).freeCount = s.freeCount := rfl
@[simp] theorem State.withJournal_pending (x : Journal) : (s.withJournal x).pending = s.pending := rfl

/-! ### withFlash -/

@[simp] theorem State.withFlash_est (x : Flash) : (s.withFlash x).est = s.est := rfl
@[simp] theorem State.withFlash_policy (x : Flash) : (s.withFlash x).policy = s.policy := rfl
@[simp] theorem State.withFlash_tracker (x : Flash) : (s.withFlash x).tracker = s.tracker := rfl
@[simp] theorem State.withFlash_channels (x : Flash) : (s.withFlash x).channels = s.channels := rfl
@[simp] theorem State.withFlash_drive (x : Flash) : (s.withFlash x).drive = s.drive := rfl
@[simp] theorem State.withFlash_timers (x : Flash) : (s.withFlash x).timers = s.timers := rfl
@[simp] theorem State.withFlash_uptime (x : Flash) : (s.withFlash x).uptime = s.uptime := rfl
@[simp] theorem State.withFlash_secondMs (x : Flash) : (s.withFlash x).secondMs = s.secondMs := rfl
@[simp] theorem State.withFlash_flap (x : Flash) : (s.withFlash x).flap = s.flap := rfl
@[simp] theorem State.withFlash_blower (x : Flash) : (s.withFlash x).blower = s.blower := rfl
@[simp] theorem State.withFlash_filter (x : Flash) : (s.withFlash x).filter = s.filter := rfl
@[simp] theorem State.withFlash_tally (x : Flash) : (s.withFlash x).tally = s.tally := rfl
@[simp] theorem State.withFlash_journal (x : Flash) : (s.withFlash x).journal = s.journal := rfl
@[simp] theorem State.withFlash_flash (x : Flash) : (s.withFlash x).flash = x := rfl
@[simp] theorem State.withFlash_watch (x : Flash) : (s.withFlash x).watch = s.watch := rfl
@[simp] theorem State.withFlash_notices (x : Flash) : (s.withFlash x).notices = s.notices := rfl
@[simp] theorem State.withFlash_link (x : Flash) : (s.withFlash x).link = s.link := rfl
@[simp] theorem State.withFlash_freeCount (x : Flash) : (s.withFlash x).freeCount = s.freeCount := rfl
@[simp] theorem State.withFlash_pending (x : Flash) : (s.withFlash x).pending = s.pending := rfl

/-! ### withWatch -/

@[simp] theorem State.withWatch_est (x : WatchUnit) : (s.withWatch x).est = s.est := rfl
@[simp] theorem State.withWatch_policy (x : WatchUnit) : (s.withWatch x).policy = s.policy := rfl
@[simp] theorem State.withWatch_tracker (x : WatchUnit) : (s.withWatch x).tracker = s.tracker := rfl
@[simp] theorem State.withWatch_channels (x : WatchUnit) : (s.withWatch x).channels = s.channels := rfl
@[simp] theorem State.withWatch_drive (x : WatchUnit) : (s.withWatch x).drive = s.drive := rfl
@[simp] theorem State.withWatch_timers (x : WatchUnit) : (s.withWatch x).timers = s.timers := rfl
@[simp] theorem State.withWatch_uptime (x : WatchUnit) : (s.withWatch x).uptime = s.uptime := rfl
@[simp] theorem State.withWatch_secondMs (x : WatchUnit) : (s.withWatch x).secondMs = s.secondMs := rfl
@[simp] theorem State.withWatch_flap (x : WatchUnit) : (s.withWatch x).flap = s.flap := rfl
@[simp] theorem State.withWatch_blower (x : WatchUnit) : (s.withWatch x).blower = s.blower := rfl
@[simp] theorem State.withWatch_filter (x : WatchUnit) : (s.withWatch x).filter = s.filter := rfl
@[simp] theorem State.withWatch_tally (x : WatchUnit) : (s.withWatch x).tally = s.tally := rfl
@[simp] theorem State.withWatch_journal (x : WatchUnit) : (s.withWatch x).journal = s.journal := rfl
@[simp] theorem State.withWatch_flash (x : WatchUnit) : (s.withWatch x).flash = s.flash := rfl
@[simp] theorem State.withWatch_watch (x : WatchUnit) : (s.withWatch x).watch = x := rfl
@[simp] theorem State.withWatch_notices (x : WatchUnit) : (s.withWatch x).notices = s.notices := rfl
@[simp] theorem State.withWatch_link (x : WatchUnit) : (s.withWatch x).link = s.link := rfl
@[simp] theorem State.withWatch_freeCount (x : WatchUnit) : (s.withWatch x).freeCount = s.freeCount := rfl
@[simp] theorem State.withWatch_pending (x : WatchUnit) : (s.withWatch x).pending = s.pending := rfl

/-! ### withNotices -/

@[simp] theorem State.withNotices_est (x : Notices) : (s.withNotices x).est = s.est := rfl
@[simp] theorem State.withNotices_policy (x : Notices) : (s.withNotices x).policy = s.policy := rfl
@[simp] theorem State.withNotices_tracker (x : Notices) : (s.withNotices x).tracker = s.tracker := rfl
@[simp] theorem State.withNotices_channels (x : Notices) : (s.withNotices x).channels = s.channels := rfl
@[simp] theorem State.withNotices_drive (x : Notices) : (s.withNotices x).drive = s.drive := rfl
@[simp] theorem State.withNotices_timers (x : Notices) : (s.withNotices x).timers = s.timers := rfl
@[simp] theorem State.withNotices_uptime (x : Notices) : (s.withNotices x).uptime = s.uptime := rfl
@[simp] theorem State.withNotices_secondMs (x : Notices) : (s.withNotices x).secondMs = s.secondMs := rfl
@[simp] theorem State.withNotices_flap (x : Notices) : (s.withNotices x).flap = s.flap := rfl
@[simp] theorem State.withNotices_blower (x : Notices) : (s.withNotices x).blower = s.blower := rfl
@[simp] theorem State.withNotices_filter (x : Notices) : (s.withNotices x).filter = s.filter := rfl
@[simp] theorem State.withNotices_tally (x : Notices) : (s.withNotices x).tally = s.tally := rfl
@[simp] theorem State.withNotices_journal (x : Notices) : (s.withNotices x).journal = s.journal := rfl
@[simp] theorem State.withNotices_flash (x : Notices) : (s.withNotices x).flash = s.flash := rfl
@[simp] theorem State.withNotices_watch (x : Notices) : (s.withNotices x).watch = s.watch := rfl
@[simp] theorem State.withNotices_notices (x : Notices) : (s.withNotices x).notices = x := rfl
@[simp] theorem State.withNotices_link (x : Notices) : (s.withNotices x).link = s.link := rfl
@[simp] theorem State.withNotices_freeCount (x : Notices) : (s.withNotices x).freeCount = s.freeCount := rfl
@[simp] theorem State.withNotices_pending (x : Notices) : (s.withNotices x).pending = s.pending := rfl

/-! ### withLink -/

@[simp] theorem State.withLink_est (x : Link) : (s.withLink x).est = s.est := rfl
@[simp] theorem State.withLink_policy (x : Link) : (s.withLink x).policy = s.policy := rfl
@[simp] theorem State.withLink_tracker (x : Link) : (s.withLink x).tracker = s.tracker := rfl
@[simp] theorem State.withLink_channels (x : Link) : (s.withLink x).channels = s.channels := rfl
@[simp] theorem State.withLink_drive (x : Link) : (s.withLink x).drive = s.drive := rfl
@[simp] theorem State.withLink_timers (x : Link) : (s.withLink x).timers = s.timers := rfl
@[simp] theorem State.withLink_uptime (x : Link) : (s.withLink x).uptime = s.uptime := rfl
@[simp] theorem State.withLink_secondMs (x : Link) : (s.withLink x).secondMs = s.secondMs := rfl
@[simp] theorem State.withLink_flap (x : Link) : (s.withLink x).flap = s.flap := rfl
@[simp] theorem State.withLink_blower (x : Link) : (s.withLink x).blower = s.blower := rfl
@[simp] theorem State.withLink_filter (x : Link) : (s.withLink x).filter = s.filter := rfl
@[simp] theorem State.withLink_tally (x : Link) : (s.withLink x).tally = s.tally := rfl
@[simp] theorem State.withLink_journal (x : Link) : (s.withLink x).journal = s.journal := rfl
@[simp] theorem State.withLink_flash (x : Link) : (s.withLink x).flash = s.flash := rfl
@[simp] theorem State.withLink_watch (x : Link) : (s.withLink x).watch = s.watch := rfl
@[simp] theorem State.withLink_notices (x : Link) : (s.withLink x).notices = s.notices := rfl
@[simp] theorem State.withLink_link (x : Link) : (s.withLink x).link = x := rfl
@[simp] theorem State.withLink_freeCount (x : Link) : (s.withLink x).freeCount = s.freeCount := rfl
@[simp] theorem State.withLink_pending (x : Link) : (s.withLink x).pending = s.pending := rfl

/-! ### withFreeCount -/

@[simp] theorem State.withFreeCount_est (x : Nat) : (s.withFreeCount x).est = s.est := rfl
@[simp] theorem State.withFreeCount_policy (x : Nat) : (s.withFreeCount x).policy = s.policy := rfl
@[simp] theorem State.withFreeCount_tracker (x : Nat) : (s.withFreeCount x).tracker = s.tracker := rfl
@[simp] theorem State.withFreeCount_channels (x : Nat) : (s.withFreeCount x).channels = s.channels := rfl
@[simp] theorem State.withFreeCount_drive (x : Nat) : (s.withFreeCount x).drive = s.drive := rfl
@[simp] theorem State.withFreeCount_timers (x : Nat) : (s.withFreeCount x).timers = s.timers := rfl
@[simp] theorem State.withFreeCount_uptime (x : Nat) : (s.withFreeCount x).uptime = s.uptime := rfl
@[simp] theorem State.withFreeCount_secondMs (x : Nat) : (s.withFreeCount x).secondMs = s.secondMs := rfl
@[simp] theorem State.withFreeCount_flap (x : Nat) : (s.withFreeCount x).flap = s.flap := rfl
@[simp] theorem State.withFreeCount_blower (x : Nat) : (s.withFreeCount x).blower = s.blower := rfl
@[simp] theorem State.withFreeCount_filter (x : Nat) : (s.withFreeCount x).filter = s.filter := rfl
@[simp] theorem State.withFreeCount_tally (x : Nat) : (s.withFreeCount x).tally = s.tally := rfl
@[simp] theorem State.withFreeCount_journal (x : Nat) : (s.withFreeCount x).journal = s.journal := rfl
@[simp] theorem State.withFreeCount_flash (x : Nat) : (s.withFreeCount x).flash = s.flash := rfl
@[simp] theorem State.withFreeCount_watch (x : Nat) : (s.withFreeCount x).watch = s.watch := rfl
@[simp] theorem State.withFreeCount_notices (x : Nat) : (s.withFreeCount x).notices = s.notices := rfl
@[simp] theorem State.withFreeCount_link (x : Nat) : (s.withFreeCount x).link = s.link := rfl
@[simp] theorem State.withFreeCount_freeCount (x : Nat) : (s.withFreeCount x).freeCount = x := rfl
@[simp] theorem State.withFreeCount_pending (x : Nat) : (s.withFreeCount x).pending = s.pending := rfl

/-! ### withPending -/

@[simp] theorem State.withPending_est (x : List Instr) : (s.withPending x).est = s.est := rfl
@[simp] theorem State.withPending_policy (x : List Instr) : (s.withPending x).policy = s.policy := rfl
@[simp] theorem State.withPending_tracker (x : List Instr) : (s.withPending x).tracker = s.tracker := rfl
@[simp] theorem State.withPending_channels (x : List Instr) : (s.withPending x).channels = s.channels := rfl
@[simp] theorem State.withPending_drive (x : List Instr) : (s.withPending x).drive = s.drive := rfl
@[simp] theorem State.withPending_timers (x : List Instr) : (s.withPending x).timers = s.timers := rfl
@[simp] theorem State.withPending_uptime (x : List Instr) : (s.withPending x).uptime = s.uptime := rfl
@[simp] theorem State.withPending_secondMs (x : List Instr) : (s.withPending x).secondMs = s.secondMs := rfl
@[simp] theorem State.withPending_flap (x : List Instr) : (s.withPending x).flap = s.flap := rfl
@[simp] theorem State.withPending_blower (x : List Instr) : (s.withPending x).blower = s.blower := rfl
@[simp] theorem State.withPending_filter (x : List Instr) : (s.withPending x).filter = s.filter := rfl
@[simp] theorem State.withPending_tally (x : List Instr) : (s.withPending x).tally = s.tally := rfl
@[simp] theorem State.withPending_journal (x : List Instr) : (s.withPending x).journal = s.journal := rfl
@[simp] theorem State.withPending_flash (x : List Instr) : (s.withPending x).flash = s.flash := rfl
@[simp] theorem State.withPending_watch (x : List Instr) : (s.withPending x).watch = s.watch := rfl
@[simp] theorem State.withPending_notices (x : List Instr) : (s.withPending x).notices = s.notices := rfl
@[simp] theorem State.withPending_link (x : List Instr) : (s.withPending x).link = s.link := rfl
@[simp] theorem State.withPending_freeCount (x : List Instr) : (s.withPending x).freeCount = s.freeCount := rfl
@[simp] theorem State.withPending_pending (x : List Instr) : (s.withPending x).pending = x := rfl

end Sys2Proof.Machine
end

