-- ==== Sys2Proof/Laws/Keeps.lean ====
section
/-! SUPPORT. What each operation leaves alone: one lemma per operation, naming the parts of the state it keeps. -/

set_option linter.unnecessarySeqFocus false
set_option linter.unusedTactic false

namespace Sys2Proof.Machine

/-! ### Ops -/

@[simp] theorem setChannel_keeps (s : State) (c : Channel) (r : ChannelRecord) :
    (State.setChannel s c r).est = s.est ∧ (State.setChannel s c r).policy = s.policy ∧
    (State.setChannel s c r).tracker = s.tracker ∧ (State.setChannel s c r).drive = s.drive ∧
    (State.setChannel s c r).timers = s.timers ∧ (State.setChannel s c r).uptime = s.uptime ∧
    (State.setChannel s c r).secondMs = s.secondMs ∧ (State.setChannel s c r).flap = s.flap ∧
    (State.setChannel s c r).blower = s.blower ∧ (State.setChannel s c r).filter = s.filter ∧
    (State.setChannel s c r).tally = s.tally ∧ (State.setChannel s c r).journal = s.journal ∧
    (State.setChannel s c r).flash = s.flash ∧ (State.setChannel s c r).watch = s.watch ∧
    (State.setChannel s c r).notices = s.notices ∧ (State.setChannel s c r).link = s.link ∧
    (State.setChannel s c r).freeCount = s.freeCount ∧ (State.setChannel s c r).pending = s.pending := by
  unfold State.setChannel
  try dsimp only
  (repeat' split) <;> simp

/-! ### Flags -/

@[simp] theorem raise_keeps (n : Notice) (s : State) :
    (raise n s).est = s.est ∧ (raise n s).policy = s.policy ∧ (raise n s).tracker = s.tracker ∧
    (raise n s).channels = s.channels ∧ (raise n s).drive = s.drive ∧ (raise n s).timers = s.timers ∧
    (raise n s).uptime = s.uptime ∧ (raise n s).secondMs = s.secondMs ∧ (raise n s).flap = s.flap ∧
    (raise n s).blower = s.blower ∧ (raise n s).filter = s.filter ∧ (raise n s).tally = s.tally ∧
    (raise n s).journal = s.journal ∧ (raise n s).flash = s.flash ∧ (raise n s).watch = s.watch ∧
    (raise n s).link = s.link ∧ (raise n s).freeCount = s.freeCount ∧ (raise n s).pending = s.pending := by
  unfold raise
  try dsimp only
  (repeat' split) <;> simp

@[simp] theorem occur_keeps (k : ConditionKind) (q : Option Quantity) (v : Int) (s : State) :
    (occur k q v s).est = s.est ∧ (occur k q v s).policy = s.policy ∧ (occur k q v s).tracker = s.tracker ∧
    (occur k q v s).channels = s.channels ∧ (occur k q v s).drive = s.drive ∧ (occur k q v s).timers = s.timers ∧
    (occur k q v s).uptime = s.uptime ∧ (occur k q v s).secondMs = s.secondMs ∧ (occur k q v s).flap = s.flap ∧
    (occur k q v s).blower = s.blower ∧ (occur k q v s).filter = s.filter ∧ (occur k q v s).tally = s.tally ∧
    (occur k q v s).journal = s.journal ∧ (occur k q v s).flash = s.flash ∧ (occur k q v s).watch = s.watch ∧
    (occur k q v s).link = s.link ∧ (occur k q v s).freeCount = s.freeCount ∧ (occur k q v s).pending = s.pending := by
  unfold occur
  try dsimp only
  (repeat' split) <;> simp

@[simp] theorem noteLookup_keeps (c : Channel) (t : Int) (s : State) :
    (noteLookup c t s).est = s.est ∧ (noteLookup c t s).policy = s.policy ∧ (noteLookup c t s).tracker = s.tracker ∧
    (noteLookup c t s).channels = s.channels ∧ (noteLookup c t s).drive = s.drive ∧
    (noteLookup c t s).timers = s.timers ∧ (noteLookup c t s).uptime = s.uptime ∧
    (noteLookup c t s).secondMs = s.secondMs ∧ (noteLookup c t s).flap = s.flap ∧
    (noteLookup c t s).blower = s.blower ∧ (noteLookup c t s).filter = s.filter ∧
    (noteLookup c t s).tally = s.tally ∧ (noteLookup c t s).journal = s.journal ∧
    (noteLookup c t s).flash = s.flash ∧ (noteLookup c t s).watch = s.watch ∧ (noteLookup c t s).link = s.link ∧
    (noteLookup c t s).freeCount = s.freeCount ∧ (noteLookup c t s).pending = s.pending := by
  unfold noteLookup
  try dsimp only
  (repeat' split) <;> simp

/-! ### Watch -/

@[simp] theorem evaluateSlot_keeps (n : SlotNumber) (v : Int) (s : State) :
    (evaluateSlot n v s).est = s.est ∧ (evaluateSlot n v s).policy = s.policy ∧
    (evaluateSlot n v s).tracker = s.tracker ∧ (evaluateSlot n v s).channels = s.channels ∧
    (evaluateSlot n v s).drive = s.drive ∧ (evaluateSlot n v s).timers = s.timers ∧
    (evaluateSlot n v s).uptime = s.uptime ∧ (evaluateSlot n v s).secondMs = s.secondMs ∧
    (evaluateSlot n v s).flap = s.flap ∧ (evaluateSlot n v s).blower = s.blower ∧
    (evaluateSlot n v s).filter = s.filter ∧ (evaluateSlot n v s).tally = s.tally ∧
    (evaluateSlot n v s).journal = s.journal ∧ (evaluateSlot n v s).flash = s.flash ∧
    (evaluateSlot n v s).link = s.link ∧ (evaluateSlot n v s).freeCount = s.freeCount ∧
    (evaluateSlot n v s).pending = s.pending := by
  unfold evaluateSlot
  try dsimp only
  (repeat' split) <;> simp

@[simp] theorem deliverTo_keeps (q : Quantity) (v : Int) (n : SlotNumber) (s : State) :
    (deliverTo q v n s).est = s.est ∧ (deliverTo q v n s).policy = s.policy ∧
    (deliverTo q v n s).tracker = s.tracker ∧ (deliverTo q v n s).channels = s.channels ∧
    (deliverTo q v n s).drive = s.drive ∧ (deliverTo q v n s).timers = s.timers ∧
    (deliverTo q v n s).uptime = s.uptime ∧ (deliverTo q v n s).secondMs = s.secondMs ∧
    (deliverTo q v n s).flap = s.flap ∧ (deliverTo q v n s).blower = s.blower ∧
    (deliverTo q v n s).filter = s.filter ∧ (deliverTo q v n s).tally = s.tally ∧
    (deliverTo q v n s).journal = s.journal ∧ (deliverTo q v n s).flash = s.flash ∧
    (deliverTo q v n s).link = s.link ∧ (deliverTo q v n s).freeCount = s.freeCount ∧
    (deliverTo q v n s).pending = s.pending := by
  unfold deliverTo
  try dsimp only
  (repeat' split) <;> simp

@[simp] theorem deliver_keeps (q : Quantity) (v : Int) (s : State) :
    (deliver q v s).est = s.est ∧ (deliver q v s).policy = s.policy ∧ (deliver q v s).tracker = s.tracker ∧
    (deliver q v s).channels = s.channels ∧ (deliver q v s).drive = s.drive ∧ (deliver q v s).timers = s.timers ∧
    (deliver q v s).uptime = s.uptime ∧ (deliver q v s).secondMs = s.secondMs ∧ (deliver q v s).flap = s.flap ∧
    (deliver q v s).blower = s.blower ∧ (deliver q v s).filter = s.filter ∧ (deliver q v s).tally = s.tally ∧
    (deliver q v s).journal = s.journal ∧ (deliver q v s).flash = s.flash ∧ (deliver q v s).link = s.link ∧
    (deliver q v s).freeCount = s.freeCount ∧ (deliver q v s).pending = s.pending := by
  unfold deliver
  try dsimp only
  (repeat' split) <;> simp

@[simp] theorem evaluatePresent_keeps (n : SlotNumber) (s : State) :
    (evaluatePresent n s).est = s.est ∧ (evaluatePresent n s).policy = s.policy ∧
    (evaluatePresent n s).tracker = s.tracker ∧ (evaluatePresent n s).channels = s.channels ∧
    (evaluatePresent n s).drive = s.drive ∧ (evaluatePresent n s).timers = s.timers ∧
    (evaluatePresent n s).uptime = s.uptime ∧ (evaluatePresent n s).secondMs = s.secondMs ∧
    (evaluatePresent n s).flap = s.flap ∧ (evaluatePresent n s).blower = s.blower ∧
    (evaluatePresent n s).filter = s.filter ∧ (evaluatePresent n s).tally = s.tally ∧
    (evaluatePresent n s).journal = s.journal ∧ (evaluatePresent n s).flash = s.flash ∧
    (evaluatePresent n s).link = s.link ∧ (evaluatePresent n s).freeCount = s.freeCount ∧
    (evaluatePresent n s).pending = s.pending := by
  unfold evaluatePresent
  try dsimp only
  (repeat' split) <;> simp

@[simp] theorem watchStopEnd_keeps (s : State) :
    (watchStopEnd s).est = s.est ∧ (watchStopEnd s).policy = s.policy ∧ (watchStopEnd s).tracker = s.tracker ∧
    (watchStopEnd s).channels = s.channels ∧ (watchStopEnd s).drive = s.drive ∧ (watchStopEnd s).timers = s.timers ∧
    (watchStopEnd s).uptime = s.uptime ∧ (watchStopEnd s).secondMs = s.secondMs ∧ (watchStopEnd s).flap = s.flap ∧
    (watchStopEnd s).blower = s.blower ∧ (watchStopEnd s).filter = s.filter ∧ (watchStopEnd s).tally = s.tally ∧
    (watchStopEnd s).journal = s.journal ∧ (watchStopEnd s).flash = s.flash ∧ (watchStopEnd s).notices = s.notices ∧
    (watchStopEnd s).link = s.link ∧ (watchStopEnd s).freeCount = s.freeCount ∧
    (watchStopEnd s).pending = s.pending := by
  unfold watchStopEnd
  try dsimp only
  (repeat' split) <;> simp

@[simp] theorem clearSlot_keeps (n : SlotNumber) (s : State) :
    (clearSlot n s).est = s.est ∧ (clearSlot n s).policy = s.policy ∧ (clearSlot n s).tracker = s.tracker ∧
    (clearSlot n s).channels = s.channels ∧ (clearSlot n s).drive = s.drive ∧ (clearSlot n s).timers = s.timers ∧
    (clearSlot n s).uptime = s.uptime ∧ (clearSlot n s).secondMs = s.secondMs ∧ (clearSlot n s).flap = s.flap ∧
    (clearSlot n s).blower = s.blower ∧ (clearSlot n s).filter = s.filter ∧ (clearSlot n s).tally = s.tally ∧
    (clearSlot n s).journal = s.journal ∧ (clearSlot n s).flash = s.flash ∧ (clearSlot n s).link = s.link ∧
    (clearSlot n s).freeCount = s.freeCount ∧ (clearSlot n s).pending = s.pending := by
  unfold clearSlot
  try dsimp only
  (repeat' split) <;> simp

@[simp] theorem writeSlot_keeps (n : SlotNumber) (w : WatchSlot) (s : State) :
    (writeSlot n w s).est = s.est ∧ (writeSlot n w s).policy = s.policy ∧ (writeSlot n w s).tracker = s.tracker ∧
    (writeSlot n w s).channels = s.channels ∧ (writeSlot n w s).drive = s.drive ∧
    (writeSlot n w s).timers = s.timers ∧ (writeSlot n w s).uptime = s.uptime ∧
    (writeSlot n w s).secondMs = s.secondMs ∧ (writeSlot n w s).flap = s.flap ∧ (writeSlot n w s).blower = s.blower ∧
    (writeSlot n w s).filter = s.filter ∧ (writeSlot n w s).tally = s.tally ∧ (writeSlot n w s).journal = s.journal ∧
    (writeSlot n w s).flash = s.flash ∧ (writeSlot n w s).link = s.link ∧ (writeSlot n w s).freeCount = s.freeCount ∧
    (writeSlot n w s).pending = s.pending := by
  unfold writeSlot
  try dsimp only
  (repeat' split) <;> simp

/-! ### Actuator -/

@[simp] theorem completeMove_keeps (f : Flap) (s : State) :
    (completeMove f s).est = s.est ∧ (completeMove f s).policy = s.policy ∧ (completeMove f s).tracker = s.tracker ∧
    (completeMove f s).channels = s.channels ∧ (completeMove f s).drive = s.drive ∧
    (completeMove f s).timers = s.timers ∧ (completeMove f s).uptime = s.uptime ∧
    (completeMove f s).secondMs = s.secondMs ∧ (completeMove f s).blower = s.blower ∧
    (completeMove f s).filter = s.filter ∧ (completeMove f s).tally = s.tally ∧
    (completeMove f s).journal = s.journal ∧ (completeMove f s).flash = s.flash ∧
    (completeMove f s).watch = s.watch ∧ (completeMove f s).link = s.link ∧
    (completeMove f s).freeCount = s.freeCount ∧ (completeMove f s).pending = s.pending := by
  unfold completeMove
  try dsimp only
  (repeat' split) <;> simp

@[simp] theorem retargetTimed_keeps (f : Flap) (t : Int) (s : State) :
    (retargetTimed f t s).est = s.est ∧ (retargetTimed f t s).policy = s.policy ∧
    (retargetTimed f t s).tracker = s.tracker ∧ (retargetTimed f t s).channels = s.channels ∧
    (retargetTimed f t s).drive = s.drive ∧ (retargetTimed f t s).timers = s.timers ∧
    (retargetTimed f t s).uptime = s.uptime ∧ (retargetTimed f t s).secondMs = s.secondMs ∧
    (retargetTimed f t s).blower = s.blower ∧ (retargetTimed f t s).filter = s.filter ∧
    (retargetTimed f t s).tally = s.tally ∧ (retargetTimed f t s).journal = s.journal ∧
    (retargetTimed f t s).flash = s.flash ∧ (retargetTimed f t s).watch = s.watch ∧
    (retargetTimed f t s).link = s.link ∧ (retargetTimed f t s).freeCount = s.freeCount ∧
    (retargetTimed f t s).pending = s.pending := by
  unfold retargetTimed
  try dsimp only
  (repeat' split) <;> simp

@[simp] theorem flapTarget_keeps (t : Int) (s : State) :
    (flapTarget t s).est = s.est ∧ (flapTarget t s).policy = s.policy ∧ (flapTarget t s).tracker = s.tracker ∧
    (flapTarget t s).channels = s.channels ∧ (flapTarget t s).drive = s.drive ∧ (flapTarget t s).timers = s.timers ∧
    (flapTarget t s).uptime = s.uptime ∧ (flapTarget t s).secondMs = s.secondMs ∧
    (flapTarget t s).blower = s.blower ∧ (flapTarget t s).filter = s.filter ∧ (flapTarget t s).tally = s.tally ∧
    (flapTarget t s).journal = s.journal ∧ (flapTarget t s).flash = s.flash ∧ (flapTarget t s).watch = s.watch ∧
    (flapTarget t s).link = s.link ∧ (flapTarget t s).freeCount = s.freeCount ∧
    (flapTarget t s).pending = s.pending := by
  unfold flapTarget
  try dsimp only
  (repeat' split) <;> simp

@[simp] theorem enterFlapFault_keeps (cause : FlapCause) (s : State) :
    (enterFlapFault cause s).est = s.est ∧ (enterFlapFault cause s).policy = s.policy ∧
    (enterFlapFault cause s).tracker = s.tracker ∧ (enterFlapFault cause s).channels = s.channels ∧
    (enterFlapFault cause s).drive = s.drive ∧ (enterFlapFault cause s).timers = s.timers ∧
    (enterFlapFault cause s).uptime = s.uptime ∧ (enterFlapFault cause s).secondMs = s.secondMs ∧
    (enterFlapFault cause s).blower = s.blower ∧ (enterFlapFault cause s).filter = s.filter ∧
    (enterFlapFault cause s).tally = s.tally ∧ (enterFlapFault cause s).journal = s.journal ∧
    (enterFlapFault cause s).flash = s.flash ∧ (enterFlapFault cause s).watch = s.watch ∧
    (enterFlapFault cause s).link = s.link ∧ (enterFlapFault cause s).freeCount = s.freeCount ∧
    (enterFlapFault cause s).pending = s.pending := by
  unfold enterFlapFault
  try dsimp only
  (repeat' split) <;> simp

@[simp] theorem homingSuccess_keeps (s : State) :
    (homingSuccess s).est = s.est ∧ (homingSuccess s).policy = s.policy ∧ (homingSuccess s).tracker = s.tracker ∧
    (homingSuccess s).channels = s.channels ∧ (homingSuccess s).drive = s.drive ∧
    (homingSuccess s).timers = s.timers ∧ (homingSuccess s).uptime = s.uptime ∧
    (homingSuccess s).secondMs = s.secondMs ∧ (homingSuccess s).blower = s.blower ∧
    (homingSuccess s).filter = s.filter ∧ (homingSuccess s).tally = s.tally ∧ (homingSuccess s).journal = s.journal ∧
    (homingSuccess s).flash = s.flash ∧ (homingSuccess s).watch = s.watch ∧ (homingSuccess s).link = s.link ∧
    (homingSuccess s).freeCount = s.freeCount ∧ (homingSuccess s).pending = s.pending := by
  unfold homingSuccess
  try dsimp only
  (repeat' split) <;> simp

@[simp] theorem homingFail_keeps (cause : FlapCause) (s : State) :
    (homingFail cause s).est = s.est ∧ (homingFail cause s).policy = s.policy ∧
    (homingFail cause s).tracker = s.tracker ∧ (homingFail cause s).channels = s.channels ∧
    (homingFail cause s).drive = s.drive ∧ (homingFail cause s).timers = s.timers ∧
    (homingFail cause s).uptime = s.uptime ∧ (homingFail cause s).secondMs = s.secondMs ∧
    (homingFail cause s).blower = s.blower ∧ (homingFail cause s).filter = s.filter ∧
    (homingFail cause s).tally = s.tally ∧ (homingFail cause s).journal = s.journal ∧
    (homingFail cause s).flash = s.flash ∧ (homingFail cause s).watch = s.watch ∧
    (homingFail cause s).link = s.link ∧ (homingFail cause s).freeCount = s.freeCount ∧
    (homingFail cause s).pending = s.pending := by
  unfold homingFail
  try dsimp only
  (repeat' split) <;> simp

@[simp] theorem startHoming_keeps (s : State) :
    (startHoming s).est = s.est ∧ (startHoming s).policy = s.policy ∧ (startHoming s).tracker = s.tracker ∧
    (startHoming s).channels = s.channels ∧ (startHoming s).drive = s.drive ∧ (startHoming s).timers = s.timers ∧
    (startHoming s).uptime = s.uptime ∧ (startHoming s).secondMs = s.secondMs ∧ (startHoming s).blower = s.blower ∧
    (startHoming s).filter = s.filter ∧ (startHoming s).tally = s.tally ∧ (startHoming s).journal = s.journal ∧
    (startHoming s).flash = s.flash ∧ (startHoming s).watch = s.watch ∧ (startHoming s).link = s.link ∧
    (startHoming s).freeCount = s.freeCount ∧ (startHoming s).pending = s.pending := by
  unfold startHoming
  try dsimp only
  (repeat' split) <;> simp

@[simp] theorem inhibitAsserted_keeps (s : State) :
    (inhibitAsserted s).est = s.est ∧ (inhibitAsserted s).policy = s.policy ∧
    (inhibitAsserted s).tracker = s.tracker ∧ (inhibitAsserted s).channels = s.channels ∧
    (inhibitAsserted s).drive = s.drive ∧ (inhibitAsserted s).timers = s.timers ∧
    (inhibitAsserted s).uptime = s.uptime ∧ (inhibitAsserted s).secondMs = s.secondMs ∧
    (inhibitAsserted s).blower = s.blower ∧ (inhibitAsserted s).filter = s.filter ∧
    (inhibitAsserted s).tally = s.tally ∧ (inhibitAsserted s).journal = s.journal ∧
    (inhibitAsserted s).flash = s.flash ∧ (inhibitAsserted s).watch = s.watch ∧
    (inhibitAsserted s).notices = s.notices ∧ (inhibitAsserted s).link = s.link ∧
    (inhibitAsserted s).freeCount = s.freeCount ∧ (inhibitAsserted s).pending = s.pending := by
  unfold inhibitAsserted
  try dsimp only
  (repeat' split) <;> simp

@[simp] theorem inhibitReleased_keeps (s : State) :
    (inhibitReleased s).est = s.est ∧ (inhibitReleased s).policy = s.policy ∧
    (inhibitReleased s).tracker = s.tracker ∧ (inhibitReleased s).channels = s.channels ∧
    (inhibitReleased s).drive = s.drive ∧ (inhibitReleased s).timers = s.timers ∧
    (inhibitReleased s).uptime = s.uptime ∧ (inhibitReleased s).secondMs = s.secondMs ∧
    (inhibitReleased s).blower = s.blower ∧ (inhibitReleased s).filter = s.filter ∧
    (inhibitReleased s).tally = s.tally ∧ (inhibitReleased s).journal = s.journal ∧
    (inhibitReleased s).flash = s.flash ∧ (inhibitReleased s).watch = s.watch ∧
    (inhibitReleased s).notices = s.notices ∧ (inhibitReleased s).link = s.link ∧
    (inhibitReleased s).freeCount = s.freeCount ∧ (inhibitReleased s).pending = s.pending := by
  unfold inhibitReleased
  try dsimp only
  (repeat' split) <;> simp

@[simp] theorem faultLineActs_keeps (s : State) :
    (faultLineActs s).est = s.est ∧ (faultLineActs s).policy = s.policy ∧ (faultLineActs s).tracker = s.tracker ∧
    (faultLineActs s).channels = s.channels ∧ (faultLineActs s).drive = s.drive ∧
    (faultLineActs s).timers = s.timers ∧ (faultLineActs s).uptime = s.uptime ∧
    (faultLineActs s).secondMs = s.secondMs ∧ (faultLineActs s).blower = s.blower ∧
    (faultLineActs s).filter = s.filter ∧ (faultLineActs s).tally = s.tally ∧ (faultLineActs s).journal = s.journal ∧
    (faultLineActs s).flash = s.flash ∧ (faultLineActs s).watch = s.watch ∧ (faultLineActs s).link = s.link ∧
    (faultLineActs s).freeCount = s.freeCount ∧ (faultLineActs s).pending = s.pending := by
  unfold faultLineActs
  try dsimp only
  (repeat' split) <;> simp

@[simp] theorem faultLineAsserted_keeps (s : State) :
    (faultLineAsserted s).est = s.est ∧ (faultLineAsserted s).policy = s.policy ∧
    (faultLineAsserted s).tracker = s.tracker ∧ (faultLineAsserted s).channels = s.channels ∧
    (faultLineAsserted s).drive = s.drive ∧ (faultLineAsserted s).timers = s.timers ∧
    (faultLineAsserted s).uptime = s.uptime ∧ (faultLineAsserted s).secondMs = s.secondMs ∧
    (faultLineAsserted s).blower = s.blower ∧ (faultLineAsserted s).filter = s.filter ∧
    (faultLineAsserted s).tally = s.tally ∧ (faultLineAsserted s).journal = s.journal ∧
    (faultLineAsserted s).flash = s.flash ∧ (faultLineAsserted s).watch = s.watch ∧
    (faultLineAsserted s).link = s.link ∧ (faultLineAsserted s).freeCount = s.freeCount ∧
    (faultLineAsserted s).pending = s.pending := by
  unfold faultLineAsserted
  try dsimp only
  (repeat' split) <;> simp

@[simp] theorem faultLineReleased_keeps (s : State) :
    (faultLineReleased s).est = s.est ∧ (faultLineReleased s).policy = s.policy ∧
    (faultLineReleased s).tracker = s.tracker ∧ (faultLineReleased s).channels = s.channels ∧
    (faultLineReleased s).drive = s.drive ∧ (faultLineReleased s).timers = s.timers ∧
    (faultLineReleased s).uptime = s.uptime ∧ (faultLineReleased s).secondMs = s.secondMs ∧
    (faultLineReleased s).blower = s.blower ∧ (faultLineReleased s).filter = s.filter ∧
    (faultLineReleased s).tally = s.tally ∧ (faultLineReleased s).journal = s.journal ∧
    (faultLineReleased s).flash = s.flash ∧ (faultLineReleased s).watch = s.watch ∧
    (faultLineReleased s).notices = s.notices ∧ (faultLineReleased s).link = s.link ∧
    (faultLineReleased s).freeCount = s.freeCount ∧ (faultLineReleased s).pending = s.pending := by
  unfold faultLineReleased
  try dsimp only
  (repeat' split) <;> simp

@[simp] theorem readyActs_keeps (high : Bool) (s : State) :
    (readyActs high s).est = s.est ∧ (readyActs high s).policy = s.policy ∧ (readyActs high s).tracker = s.tracker ∧
    (readyActs high s).channels = s.channels ∧ (readyActs high s).drive = s.drive ∧
    (readyActs high s).timers = s.timers ∧ (readyActs high s).uptime = s.uptime ∧
    (readyActs high s).secondMs = s.secondMs ∧ (readyActs high s).blower = s.blower ∧
    (readyActs high s).filter = s.filter ∧ (readyActs high s).tally = s.tally ∧
    (readyActs high s).journal = s.journal ∧ (readyActs high s).flash = s.flash ∧
    (readyActs high s).watch = s.watch ∧ (readyActs high s).link = s.link ∧
    (readyActs high s).freeCount = s.freeCount ∧ (readyActs high s).pending = s.pending := by
  unfold readyActs trackedReady
  try dsimp only
  (repeat' split) <;> simp

@[simp] theorem readyChanged_keeps (high : Bool) (s : State) :
    (readyChanged high s).est = s.est ∧ (readyChanged high s).policy = s.policy ∧
    (readyChanged high s).tracker = s.tracker ∧ (readyChanged high s).channels = s.channels ∧
    (readyChanged high s).drive = s.drive ∧ (readyChanged high s).timers = s.timers ∧
    (readyChanged high s).uptime = s.uptime ∧ (readyChanged high s).secondMs = s.secondMs ∧
    (readyChanged high s).blower = s.blower ∧ (readyChanged high s).filter = s.filter ∧
    (readyChanged high s).tally = s.tally ∧ (readyChanged high s).journal = s.journal ∧
    (readyChanged high s).flash = s.flash ∧ (readyChanged high s).watch = s.watch ∧
    (readyChanged high s).link = s.link ∧ (readyChanged high s).freeCount = s.freeCount ∧
    (readyChanged high s).pending = s.pending := by
  unfold readyChanged
  try dsimp only
  (repeat' split) <;> simp

@[simp] theorem moveTimedOut_keeps (s : State) :
    (moveTimedOut s).est = s.est ∧ (moveTimedOut s).policy = s.policy ∧ (moveTimedOut s).tracker = s.tracker ∧
    (moveTimedOut s).channels = s.channels ∧ (moveTimedOut s).drive = s.drive ∧ (moveTimedOut s).timers = s.timers ∧
    (moveTimedOut s).uptime = s.uptime ∧ (moveTimedOut s).secondMs = s.secondMs ∧
    (moveTimedOut s).blower = s.blower ∧ (moveTimedOut s).filter = s.filter ∧ (moveTimedOut s).tally = s.tally ∧
    (moveTimedOut s).journal = s.journal ∧ (moveTimedOut s).flash = s.flash ∧ (moveTimedOut s).watch = s.watch ∧
    (moveTimedOut s).link = s.link ∧ (moveTimedOut s).freeCount = s.freeCount ∧
    (moveTimedOut s).pending = s.pending := by
  unfold moveTimedOut
  try dsimp only
  (repeat' split) <;> simp

@[simp] theorem timedDriveEnded_keeps (s : State) :
    (timedDriveEnded s).est = s.est ∧ (timedDriveEnded s).policy = s.policy ∧
    (timedDriveEnded s).tracker = s.tracker ∧ (timedDriveEnded s).channels = s.channels ∧
    (timedDriveEnded s).drive = s.drive ∧ (timedDriveEnded s).timers = s.timers ∧
    (timedDriveEnded s).uptime = s.uptime ∧ (timedDriveEnded s).secondMs = s.secondMs ∧
    (timedDriveEnded s).blower = s.blower ∧ (timedDriveEnded s).filter = s.filter ∧
    (timedDriveEnded s).tally = s.tally ∧ (timedDriveEnded s).journal = s.journal ∧
    (timedDriveEnded s).flash = s.flash ∧ (timedDriveEnded s).watch = s.watch ∧ (timedDriveEnded s).link = s.link ∧
    (timedDriveEnded s).freeCount = s.freeCount ∧ (timedDriveEnded s).pending = s.pending := by
  unfold timedDriveEnded
  try dsimp only
  (repeat' split) <;> simp

@[simp] theorem timedHomingEnded_keeps (s : State) :
    (timedHomingEnded s).est = s.est ∧ (timedHomingEnded s).policy = s.policy ∧
    (timedHomingEnded s).tracker = s.tracker ∧ (timedHomingEnded s).channels = s.channels ∧
    (timedHomingEnded s).drive = s.drive ∧ (timedHomingEnded s).timers = s.timers ∧
    (timedHomingEnded s).uptime = s.uptime ∧ (timedHomingEnded s).secondMs = s.secondMs ∧
    (timedHomingEnded s).blower = s.blower ∧ (timedHomingEnded s).filter = s.filter ∧
    (timedHomingEnded s).tally = s.tally ∧ (timedHomingEnded s).journal = s.journal ∧
    (timedHomingEnded s).flash = s.flash ∧ (timedHomingEnded s).watch = s.watch ∧
    (timedHomingEnded s).link = s.link ∧ (timedHomingEnded s).freeCount = s.freeCount ∧
    (timedHomingEnded s).pending = s.pending := by
  unfold timedHomingEnded
  try dsimp only
  (repeat' split) <;> simp

@[simp] theorem storeActuator_keeps (mode : DriveMode) (travelTime moveTimeout : Nat) (s : State) :
    (storeActuator mode travelTime moveTimeout s).est = s.est ∧
    (storeActuator mode travelTime moveTimeout s).policy = s.policy ∧
    (storeActuator mode travelTime moveTimeout s).tracker = s.tracker ∧
    (storeActuator mode travelTime moveTimeout s).channels = s.channels ∧
    (storeActuator mode travelTime moveTimeout s).drive = s.drive ∧
    (storeActuator mode travelTime moveTimeout s).timers = s.timers ∧
    (storeActuator mode travelTime moveTimeout s).uptime = s.uptime ∧
    (storeActuator mode travelTime moveTimeout s).secondMs = s.secondMs ∧
    (storeActuator mode travelTime moveTimeout s).blower = s.blower ∧
    (storeActuator mode travelTime moveTimeout s).filter = s.filter ∧
    (storeActuator mode travelTime moveTimeout s).tally = s.tally ∧
    (storeActuator mode travelTime moveTimeout s).journal = s.journal ∧
    (storeActuator mode travelTime moveTimeout s).flash = s.flash ∧
    (storeActuator mode travelTime moveTimeout s).watch = s.watch ∧
    (storeActuator mode travelTime moveTimeout s).notices = s.notices ∧
    (storeActuator mode travelTime moveTimeout s).link = s.link ∧
    (storeActuator mode travelTime moveTimeout s).freeCount = s.freeCount ∧
    (storeActuator mode travelTime moveTimeout s).pending = s.pending := by
  unfold storeActuator
  try dsimp only
  (repeat' split) <;> simp

@[simp] theorem blowerDemand_keeps (d : Nat) (s : State) :
    (blowerDemand d s).est = s.est ∧ (blowerDemand d s).policy = s.policy ∧ (blowerDemand d s).tracker = s.tracker ∧
    (blowerDemand d s).channels = s.channels ∧ (blowerDemand d s).drive = s.drive ∧
    (blowerDemand d s).timers = s.timers ∧ (blowerDemand d s).uptime = s.uptime ∧
    (blowerDemand d s).secondMs = s.secondMs ∧ (blowerDemand d s).flap = s.flap ∧
    (blowerDemand d s).filter = s.filter ∧ (blowerDemand d s).tally = s.tally ∧
    (blowerDemand d s).journal = s.journal ∧ (blowerDemand d s).flash = s.flash ∧
    (blowerDemand d s).watch = s.watch ∧ (blowerDemand d s).link = s.link ∧
    (blowerDemand d s).freeCount = s.freeCount ∧ (blowerDemand d s).pending = s.pending := by
  unfold blowerDemand
  try dsimp only
  (repeat' split) <;> simp

@[simp] theorem stallActs_keeps (s : State) :
    (stallActs s).est = s.est ∧ (stallActs s).policy = s.policy ∧ (stallActs s).tracker = s.tracker ∧
    (stallActs s).channels = s.channels ∧ (stallActs s).drive = s.drive ∧ (stallActs s).timers = s.timers ∧
    (stallActs s).uptime = s.uptime ∧ (stallActs s).secondMs = s.secondMs ∧ (stallActs s).flap = s.flap ∧
    (stallActs s).filter = s.filter ∧ (stallActs s).tally = s.tally ∧ (stallActs s).journal = s.journal ∧
    (stallActs s).flash = s.flash ∧ (stallActs s).watch = s.watch ∧ (stallActs s).link = s.link ∧
    (stallActs s).freeCount = s.freeCount ∧ (stallActs s).pending = s.pending := by
  unfold stallActs
  try dsimp only
  (repeat' split) <;> simp

@[simp] theorem stallAsserted_keeps (s : State) :
    (stallAsserted s).est = s.est ∧ (stallAsserted s).policy = s.policy ∧ (stallAsserted s).tracker = s.tracker ∧
    (stallAsserted s).channels = s.channels ∧ (stallAsserted s).drive = s.drive ∧
    (stallAsserted s).timers = s.timers ∧ (stallAsserted s).uptime = s.uptime ∧
    (stallAsserted s).secondMs = s.secondMs ∧ (stallAsserted s).flap = s.flap ∧ (stallAsserted s).filter = s.filter ∧
    (stallAsserted s).tally = s.tally ∧ (stallAsserted s).journal = s.journal ∧ (stallAsserted s).flash = s.flash ∧
    (stallAsserted s).watch = s.watch ∧ (stallAsserted s).link = s.link ∧ (stallAsserted s).freeCount = s.freeCount ∧
    (stallAsserted s).pending = s.pending := by
  unfold stallAsserted
  try dsimp only
  (repeat' split) <;> simp

@[simp] theorem stallReleased_keeps (s : State) :
    (stallReleased s).est = s.est ∧ (stallReleased s).policy = s.policy ∧ (stallReleased s).tracker = s.tracker ∧
    (stallReleased s).channels = s.channels ∧ (stallReleased s).drive = s.drive ∧
    (stallReleased s).timers = s.timers ∧ (stallReleased s).uptime = s.uptime ∧
    (stallReleased s).secondMs = s.secondMs ∧ (stallReleased s).flap = s.flap ∧ (stallReleased s).filter = s.filter ∧
    (stallReleased s).tally = s.tally ∧ (stallReleased s).journal = s.journal ∧ (stallReleased s).flash = s.flash ∧
    (stallReleased s).watch = s.watch ∧ (stallReleased s).notices = s.notices ∧ (stallReleased s).link = s.link ∧
    (stallReleased s).freeCount = s.freeCount ∧ (stallReleased s).pending = s.pending := by
  unfold stallReleased
  try dsimp only
  (repeat' split) <;> simp

/-! ### Filter -/

@[simp] theorem raiseFilterState_keeps (x : FilterState) (s : State) :
    (raiseFilterState x s).est = s.est ∧ (raiseFilterState x s).policy = s.policy ∧
    (raiseFilterState x s).tracker = s.tracker ∧ (raiseFilterState x s).channels = s.channels ∧
    (raiseFilterState x s).drive = s.drive ∧ (raiseFilterState x s).timers = s.timers ∧
    (raiseFilterState x s).uptime = s.uptime ∧ (raiseFilterState x s).secondMs = s.secondMs ∧
    (raiseFilterState x s).flap = s.flap ∧ (raiseFilterState x s).blower = s.blower ∧
    (raiseFilterState x s).filter = s.filter ∧ (raiseFilterState x s).tally = s.tally ∧
    (raiseFilterState x s).journal = s.journal ∧ (raiseFilterState x s).flash = s.flash ∧
    (raiseFilterState x s).watch = s.watch ∧ (raiseFilterState x s).link = s.link ∧
    (raiseFilterState x s).freeCount = s.freeCount ∧ (raiseFilterState x s).pending = s.pending := by
  unfold raiseFilterState
  try dsimp only
  (repeat' split) <;> simp

@[simp] theorem captureLoad_keeps (s : State) :
    (captureLoad s).est = s.est ∧ (captureLoad s).policy = s.policy ∧ (captureLoad s).tracker = s.tracker ∧
    (captureLoad s).channels = s.channels ∧ (captureLoad s).drive = s.drive ∧ (captureLoad s).timers = s.timers ∧
    (captureLoad s).uptime = s.uptime ∧ (captureLoad s).secondMs = s.secondMs ∧ (captureLoad s).flap = s.flap ∧
    (captureLoad s).blower = s.blower ∧ (captureLoad s).tally = s.tally ∧ (captureLoad s).journal = s.journal ∧
    (captureLoad s).flash = s.flash ∧ (captureLoad s).watch = s.watch ∧ (captureLoad s).link = s.link ∧
    (captureLoad s).freeCount = s.freeCount ∧ (captureLoad s).pending = s.pending := by
  unfold captureLoad
  try dsimp only
  (repeat' split) <;> simp

@[simp] theorem setSuspect_keeps (s : State) :
    (setSuspect s).est = s.est ∧ (setSuspect s).policy = s.policy ∧ (setSuspect s).tracker = s.tracker ∧
    (setSuspect s).channels = s.channels ∧ (setSuspect s).drive = s.drive ∧ (setSuspect s).timers = s.timers ∧
    (setSuspect s).uptime = s.uptime ∧ (setSuspect s).secondMs = s.secondMs ∧ (setSuspect s).flap = s.flap ∧
    (setSuspect s).blower = s.blower ∧ (setSuspect s).tally = s.tally ∧ (setSuspect s).journal = s.journal ∧
    (setSuspect s).flash = s.flash ∧ (setSuspect s).watch = s.watch ∧ (setSuspect s).link = s.link ∧
    (setSuspect s).freeCount = s.freeCount ∧ (setSuspect s).pending = s.pending := by
  unfold setSuspect
  try dsimp only
  (repeat' split) <;> simp

@[simp] theorem adopt_keeps (stored : Snapshot) (s : State) :
    (adopt stored s).est = s.est ∧ (adopt stored s).policy = s.policy ∧ (adopt stored s).tracker = s.tracker ∧
    (adopt stored s).channels = s.channels ∧ (adopt stored s).drive = s.drive ∧ (adopt stored s).timers = s.timers ∧
    (adopt stored s).uptime = s.uptime ∧ (adopt stored s).secondMs = s.secondMs ∧ (adopt stored s).flap = s.flap ∧
    (adopt stored s).blower = s.blower ∧ (adopt stored s).journal = s.journal ∧ (adopt stored s).flash = s.flash ∧
    (adopt stored s).watch = s.watch ∧ (adopt stored s).link = s.link ∧ (adopt stored s).freeCount = s.freeCount ∧
    (adopt stored s).pending = s.pending := by
  unfold adopt
  try dsimp only
  (repeat' split) <;> simp

@[simp] theorem tallyUpdate_keeps (s : State) :
    (tallyUpdate s).est = s.est ∧ (tallyUpdate s).policy = s.policy ∧ (tallyUpdate s).tracker = s.tracker ∧
    (tallyUpdate s).channels = s.channels ∧ (tallyUpdate s).drive = s.drive ∧ (tallyUpdate s).timers = s.timers ∧
    (tallyUpdate s).uptime = s.uptime ∧ (tallyUpdate s).secondMs = s.secondMs ∧ (tallyUpdate s).flap = s.flap ∧
    (tallyUpdate s).blower = s.blower ∧ (tallyUpdate s).filter = s.filter ∧ (tallyUpdate s).journal = s.journal ∧
    (tallyUpdate s).flash = s.flash ∧ (tallyUpdate s).watch = s.watch ∧ (tallyUpdate s).notices = s.notices ∧
    (tallyUpdate s).link = s.link ∧ (tallyUpdate s).freeCount = s.freeCount ∧ (tallyUpdate s).pending = s.pending := by
  unfold tallyUpdate
  try dsimp only
  (repeat' split) <;> simp

@[simp] theorem tallyStop_keeps (s : State) :
    (tallyStop s).est = s.est ∧ (tallyStop s).policy = s.policy ∧ (tallyStop s).tracker = s.tracker ∧
    (tallyStop s).channels = s.channels ∧ (tallyStop s).drive = s.drive ∧ (tallyStop s).timers = s.timers ∧
    (tallyStop s).uptime = s.uptime ∧ (tallyStop s).secondMs = s.secondMs ∧ (tallyStop s).flap = s.flap ∧
    (tallyStop s).blower = s.blower ∧ (tallyStop s).filter = s.filter ∧ (tallyStop s).journal = s.journal ∧
    (tallyStop s).flash = s.flash ∧ (tallyStop s).watch = s.watch ∧ (tallyStop s).notices = s.notices ∧
    (tallyStop s).link = s.link ∧ (tallyStop s).freeCount = s.freeCount ∧ (tallyStop s).pending = s.pending := by
  unfold tallyStop
  try dsimp only
  (repeat' split) <;> simp

@[simp] theorem tallyEpisode_keeps (s : State) :
    (tallyEpisode s).est = s.est ∧ (tallyEpisode s).policy = s.policy ∧ (tallyEpisode s).tracker = s.tracker ∧
    (tallyEpisode s).channels = s.channels ∧ (tallyEpisode s).drive = s.drive ∧ (tallyEpisode s).timers = s.timers ∧
    (tallyEpisode s).uptime = s.uptime ∧ (tallyEpisode s).secondMs = s.secondMs ∧ (tallyEpisode s).flap = s.flap ∧
    (tallyEpisode s).blower = s.blower ∧ (tallyEpisode s).filter = s.filter ∧ (tallyEpisode s).journal = s.journal ∧
    (tallyEpisode s).flash = s.flash ∧ (tallyEpisode s).watch = s.watch ∧ (tallyEpisode s).notices = s.notices ∧
    (tallyEpisode s).link = s.link ∧ (tallyEpisode s).freeCount = s.freeCount ∧
    (tallyEpisode s).pending = s.pending := by
  unfold tallyEpisode
  try dsimp only
  (repeat' split) <;> simp

/-! ### Policy -/

@[simp] theorem recomputeDemand_keeps (s : State) :
    (recomputeDemand s).est = s.est ∧ (recomputeDemand s).tracker = s.tracker ∧
    (recomputeDemand s).channels = s.channels ∧ (recomputeDemand s).drive = s.drive ∧
    (recomputeDemand s).timers = s.timers ∧ (recomputeDemand s).uptime = s.uptime ∧
    (recomputeDemand s).secondMs = s.secondMs ∧ (recomputeDemand s).flap = s.flap ∧
    (recomputeDemand s).filter = s.filter ∧ (recomputeDemand s).tally = s.tally ∧
    (recomputeDemand s).journal = s.journal ∧ (recomputeDemand s).flash = s.flash ∧
    (recomputeDemand s).watch = s.watch ∧ (recomputeDemand s).link = s.link ∧
    (recomputeDemand s).freeCount = s.freeCount ∧ (recomputeDemand s).pending = s.pending := by
  unfold recomputeDemand
  try dsimp only
  (repeat' split) <;> simp

@[simp] theorem setTarget_keeps (t : Int) (s : State) :
    (setTarget t s).est = s.est ∧ (setTarget t s).tracker = s.tracker ∧ (setTarget t s).channels = s.channels ∧
    (setTarget t s).drive = s.drive ∧ (setTarget t s).timers = s.timers ∧ (setTarget t s).uptime = s.uptime ∧
    (setTarget t s).secondMs = s.secondMs ∧ (setTarget t s).blower = s.blower ∧ (setTarget t s).filter = s.filter ∧
    (setTarget t s).tally = s.tally ∧ (setTarget t s).journal = s.journal ∧ (setTarget t s).flash = s.flash ∧
    (setTarget t s).watch = s.watch ∧ (setTarget t s).link = s.link ∧ (setTarget t s).freeCount = s.freeCount ∧
    (setTarget t s).pending = s.pending := by
  unfold setTarget
  try dsimp only
  (repeat' split) <;> simp

@[simp] theorem recordBasis_keeps (b : Basis) (s : State) :
    (recordBasis b s).est = s.est ∧ (recordBasis b s).tracker = s.tracker ∧ (recordBasis b s).channels = s.channels ∧
    (recordBasis b s).drive = s.drive ∧ (recordBasis b s).timers = s.timers ∧ (recordBasis b s).uptime = s.uptime ∧
    (recordBasis b s).secondMs = s.secondMs ∧ (recordBasis b s).flap = s.flap ∧ (recordBasis b s).blower = s.blower ∧
    (recordBasis b s).filter = s.filter ∧ (recordBasis b s).tally = s.tally ∧ (recordBasis b s).journal = s.journal ∧
    (recordBasis b s).flash = s.flash ∧ (recordBasis b s).watch = s.watch ∧ (recordBasis b s).link = s.link ∧
    (recordBasis b s).freeCount = s.freeCount ∧ (recordBasis b s).pending = s.pending := by
  unfold recordBasis
  try dsimp only
  (repeat' split) <;> simp

@[simp] theorem setHeld_keeps (h : Bool) (s : State) :
    (setHeld h s).est = s.est ∧ (setHeld h s).tracker = s.tracker ∧ (setHeld h s).channels = s.channels ∧
    (setHeld h s).drive = s.drive ∧ (setHeld h s).timers = s.timers ∧ (setHeld h s).uptime = s.uptime ∧
    (setHeld h s).secondMs = s.secondMs ∧ (setHeld h s).flap = s.flap ∧ (setHeld h s).blower = s.blower ∧
    (setHeld h s).filter = s.filter ∧ (setHeld h s).tally = s.tally ∧ (setHeld h s).journal = s.journal ∧
    (setHeld h s).flash = s.flash ∧ (setHeld h s).watch = s.watch ∧ (setHeld h s).notices = s.notices ∧
    (setHeld h s).link = s.link ∧ (setHeld h s).freeCount = s.freeCount ∧ (setHeld h s).pending = s.pending := by
  unfold setHeld
  try dsimp only
  (repeat' split) <;> simp

@[simp] theorem applyNow_keeps (t : Int) (b : Basis) (s : State) :
    (applyNow t b s).est = s.est ∧ (applyNow t b s).tracker = s.tracker ∧ (applyNow t b s).channels = s.channels ∧
    (applyNow t b s).drive = s.drive ∧ (applyNow t b s).timers = s.timers ∧ (applyNow t b s).uptime = s.uptime ∧
    (applyNow t b s).secondMs = s.secondMs ∧ (applyNow t b s).blower = s.blower ∧
    (applyNow t b s).filter = s.filter ∧ (applyNow t b s).tally = s.tally ∧ (applyNow t b s).journal = s.journal ∧
    (applyNow t b s).flash = s.flash ∧ (applyNow t b s).watch = s.watch ∧ (applyNow t b s).link = s.link ∧
    (applyNow t b s).freeCount = s.freeCount ∧ (applyNow t b s).pending = s.pending := by
  unfold applyNow
  try dsimp only
  (repeat' split) <;> simp

@[simp] theorem applyDwelled_keeps (t : Int) (b : Basis) (s : State) :
    (applyDwelled t b s).est = s.est ∧ (applyDwelled t b s).tracker = s.tracker ∧
    (applyDwelled t b s).channels = s.channels ∧ (applyDwelled t b s).drive = s.drive ∧
    (applyDwelled t b s).timers = s.timers ∧ (applyDwelled t b s).uptime = s.uptime ∧
    (applyDwelled t b s).secondMs = s.secondMs ∧ (applyDwelled t b s).blower = s.blower ∧
    (applyDwelled t b s).filter = s.filter ∧ (applyDwelled t b s).tally = s.tally ∧
    (applyDwelled t b s).journal = s.journal ∧ (applyDwelled t b s).flash = s.flash ∧
    (applyDwelled t b s).watch = s.watch ∧ (applyDwelled t b s).link = s.link ∧
    (applyDwelled t b s).freeCount = s.freeCount ∧ (applyDwelled t b s).pending = s.pending := by
  unfold applyDwelled
  try dsimp only
  (repeat' split) <;> simp

@[simp] theorem fogTest_keeps (s : State) :
    (fogTest s).est = s.est ∧ (fogTest s).tracker = s.tracker ∧ (fogTest s).channels = s.channels ∧
    (fogTest s).drive = s.drive ∧ (fogTest s).timers = s.timers ∧ (fogTest s).uptime = s.uptime ∧
    (fogTest s).secondMs = s.secondMs ∧ (fogTest s).flap = s.flap ∧ (fogTest s).blower = s.blower ∧
    (fogTest s).filter = s.filter ∧ (fogTest s).tally = s.tally ∧ (fogTest s).journal = s.journal ∧
    (fogTest s).flash = s.flash ∧ (fogTest s).watch = s.watch ∧ (fogTest s).link = s.link ∧
    (fogTest s).freeCount = s.freeCount ∧ (fogTest s).pending = s.pending := by
  unfold fogTest
  try dsimp only
  (repeat' split) <;> simp

@[simp] theorem ceilingTest_keeps (s : State) :
    (ceilingTest s).est = s.est ∧ (ceilingTest s).tracker = s.tracker ∧ (ceilingTest s).channels = s.channels ∧
    (ceilingTest s).drive = s.drive ∧ (ceilingTest s).timers = s.timers ∧ (ceilingTest s).uptime = s.uptime ∧
    (ceilingTest s).secondMs = s.secondMs ∧ (ceilingTest s).flap = s.flap ∧ (ceilingTest s).blower = s.blower ∧
    (ceilingTest s).filter = s.filter ∧ (ceilingTest s).tally = s.tally ∧ (ceilingTest s).journal = s.journal ∧
    (ceilingTest s).flash = s.flash ∧ (ceilingTest s).watch = s.watch ∧ (ceilingTest s).link = s.link ∧
    (ceilingTest s).freeCount = s.freeCount ∧ (ceilingTest s).pending = s.pending := by
  unfold ceilingTest
  try dsimp only
  (repeat' split) <;> simp

@[simp] theorem noteWorkingLookups_keeps (s : State) :
    (noteWorkingLookups s).est = s.est ∧ (noteWorkingLookups s).policy = s.policy ∧
    (noteWorkingLookups s).tracker = s.tracker ∧ (noteWorkingLookups s).channels = s.channels ∧
    (noteWorkingLookups s).drive = s.drive ∧ (noteWorkingLookups s).timers = s.timers ∧
    (noteWorkingLookups s).uptime = s.uptime ∧ (noteWorkingLookups s).secondMs = s.secondMs ∧
    (noteWorkingLookups s).flap = s.flap ∧ (noteWorkingLookups s).blower = s.blower ∧
    (noteWorkingLookups s).filter = s.filter ∧ (noteWorkingLookups s).tally = s.tally ∧
    (noteWorkingLookups s).journal = s.journal ∧ (noteWorkingLookups s).flash = s.flash ∧
    (noteWorkingLookups s).watch = s.watch ∧ (noteWorkingLookups s).link = s.link ∧
    (noteWorkingLookups s).freeCount = s.freeCount ∧ (noteWorkingLookups s).pending = s.pending := by
  unfold noteWorkingLookups
  try dsimp only
  (repeat' split) <;> simp

@[simp] theorem autoBelowFog_keeps (s : State) :
    (autoBelowFog s).est = s.est ∧ (autoBelowFog s).tracker = s.tracker ∧ (autoBelowFog s).channels = s.channels ∧
    (autoBelowFog s).drive = s.drive ∧ (autoBelowFog s).timers = s.timers ∧ (autoBelowFog s).uptime = s.uptime ∧
    (autoBelowFog s).secondMs = s.secondMs ∧ (autoBelowFog s).blower = s.blower ∧
    (autoBelowFog s).filter = s.filter ∧ (autoBelowFog s).tally = s.tally ∧ (autoBelowFog s).journal = s.journal ∧
    (autoBelowFog s).flash = s.flash ∧ (autoBelowFog s).watch = s.watch ∧ (autoBelowFog s).link = s.link ∧
    (autoBelowFog s).freeCount = s.freeCount ∧ (autoBelowFog s).pending = s.pending := by
  unfold autoBelowFog
  try dsimp only
  (repeat' split) <;> simp

@[simp] theorem decideByMode_keeps (s : State) :
    (decideByMode s).est = s.est ∧ (decideByMode s).tracker = s.tracker ∧ (decideByMode s).channels = s.channels ∧
    (decideByMode s).drive = s.drive ∧ (decideByMode s).timers = s.timers ∧ (decideByMode s).uptime = s.uptime ∧
    (decideByMode s).secondMs = s.secondMs ∧ (decideByMode s).blower = s.blower ∧
    (decideByMode s).filter = s.filter ∧ (decideByMode s).tally = s.tally ∧ (decideByMode s).journal = s.journal ∧
    (decideByMode s).flash = s.flash ∧ (decideByMode s).watch = s.watch ∧ (decideByMode s).link = s.link ∧
    (decideByMode s).freeCount = s.freeCount ∧ (decideByMode s).pending = s.pending := by
  unfold decideByMode
  try dsimp only
  (repeat' split) <;> simp

@[simp] theorem fullDecision_keeps (s : State) :
    (fullDecision s).est = s.est ∧ (fullDecision s).tracker = s.tracker ∧ (fullDecision s).channels = s.channels ∧
    (fullDecision s).drive = s.drive ∧ (fullDecision s).timers = s.timers ∧ (fullDecision s).uptime = s.uptime ∧
    (fullDecision s).secondMs = s.secondMs ∧ (fullDecision s).filter = s.filter ∧ (fullDecision s).tally = s.tally ∧
    (fullDecision s).journal = s.journal ∧ (fullDecision s).flash = s.flash ∧ (fullDecision s).watch = s.watch ∧
    (fullDecision s).link = s.link ∧ (fullDecision s).freeCount = s.freeCount ∧
    (fullDecision s).pending = s.pending := by
  unfold fullDecision
  try dsimp only
  (repeat' split) <;> simp

@[simp] theorem applyOverride_keeps (s : State) :
    (applyOverride s).est = s.est ∧ (applyOverride s).tracker = s.tracker ∧ (applyOverride s).channels = s.channels ∧
    (applyOverride s).drive = s.drive ∧ (applyOverride s).timers = s.timers ∧ (applyOverride s).uptime = s.uptime ∧
    (applyOverride s).secondMs = s.secondMs ∧ (applyOverride s).blower = s.blower ∧
    (applyOverride s).filter = s.filter ∧ (applyOverride s).tally = s.tally ∧ (applyOverride s).journal = s.journal ∧
    (applyOverride s).flash = s.flash ∧ (applyOverride s).watch = s.watch ∧ (applyOverride s).link = s.link ∧
    (applyOverride s).freeCount = s.freeCount ∧ (applyOverride s).pending = s.pending := by
  unfold applyOverride
  try dsimp only
  (repeat' split) <;> simp

@[simp] theorem overrideCheck_keeps (s : State) :
    (overrideCheck s).est = s.est ∧ (overrideCheck s).tracker = s.tracker ∧ (overrideCheck s).channels = s.channels ∧
    (overrideCheck s).drive = s.drive ∧ (overrideCheck s).timers = s.timers ∧ (overrideCheck s).uptime = s.uptime ∧
    (overrideCheck s).secondMs = s.secondMs ∧ (overrideCheck s).filter = s.filter ∧
    (overrideCheck s).tally = s.tally ∧ (overrideCheck s).journal = s.journal ∧ (overrideCheck s).flash = s.flash ∧
    (overrideCheck s).watch = s.watch ∧ (overrideCheck s).link = s.link ∧ (overrideCheck s).freeCount = s.freeCount ∧
    (overrideCheck s).pending = s.pending := by
  unfold overrideCheck
  try dsimp only
  (repeat' split) <;> simp

@[simp] theorem holdMove_keeps (h : HoldState) (timer : Option Nat) (s : State) :
    (holdMove h timer s).est = s.est ∧ (holdMove h timer s).tracker = s.tracker ∧
    (holdMove h timer s).channels = s.channels ∧ (holdMove h timer s).drive = s.drive ∧
    (holdMove h timer s).uptime = s.uptime ∧ (holdMove h timer s).secondMs = s.secondMs ∧
    (holdMove h timer s).filter = s.filter ∧ (holdMove h timer s).tally = s.tally ∧
    (holdMove h timer s).journal = s.journal ∧ (holdMove h timer s).flash = s.flash ∧
    (holdMove h timer s).watch = s.watch ∧ (holdMove h timer s).link = s.link ∧
    (holdMove h timer s).freeCount = s.freeCount ∧ (holdMove h timer s).pending = s.pending := by
  unfold holdMove
  try dsimp only
  (repeat' split) <;> simp

@[simp] theorem holdEpisodeOpens_keeps (s : State) :
    (holdEpisodeOpens s).est = s.est ∧ (holdEpisodeOpens s).tracker = s.tracker ∧
    (holdEpisodeOpens s).channels = s.channels ∧ (holdEpisodeOpens s).drive = s.drive ∧
    (holdEpisodeOpens s).uptime = s.uptime ∧ (holdEpisodeOpens s).secondMs = s.secondMs ∧
    (holdEpisodeOpens s).filter = s.filter ∧ (holdEpisodeOpens s).tally = s.tally ∧
    (holdEpisodeOpens s).journal = s.journal ∧ (holdEpisodeOpens s).flash = s.flash ∧
    (holdEpisodeOpens s).watch = s.watch ∧ (holdEpisodeOpens s).link = s.link ∧
    (holdEpisodeOpens s).freeCount = s.freeCount ∧ (holdEpisodeOpens s).pending = s.pending := by
  unfold holdEpisodeOpens
  try dsimp only
  (repeat' split) <;> simp

@[simp] theorem holdEpisodeCloses_keeps (s : State) :
    (holdEpisodeCloses s).est = s.est ∧ (holdEpisodeCloses s).tracker = s.tracker ∧
    (holdEpisodeCloses s).channels = s.channels ∧ (holdEpisodeCloses s).drive = s.drive ∧
    (holdEpisodeCloses s).uptime = s.uptime ∧ (holdEpisodeCloses s).secondMs = s.secondMs ∧
    (holdEpisodeCloses s).filter = s.filter ∧ (holdEpisodeCloses s).tally = s.tally ∧
    (holdEpisodeCloses s).journal = s.journal ∧ (holdEpisodeCloses s).flash = s.flash ∧
    (holdEpisodeCloses s).watch = s.watch ∧ (holdEpisodeCloses s).link = s.link ∧
    (holdEpisodeCloses s).freeCount = s.freeCount ∧ (holdEpisodeCloses s).pending = s.pending := by
  unfold holdEpisodeCloses
  try dsimp only
  (repeat' split) <;> simp

@[simp] theorem holdExpired_keeps (s : State) :
    (holdExpired s).est = s.est ∧ (holdExpired s).tracker = s.tracker ∧ (holdExpired s).channels = s.channels ∧
    (holdExpired s).drive = s.drive ∧ (holdExpired s).uptime = s.uptime ∧ (holdExpired s).secondMs = s.secondMs ∧
    (holdExpired s).filter = s.filter ∧ (holdExpired s).tally = s.tally ∧ (holdExpired s).journal = s.journal ∧
    (holdExpired s).flash = s.flash ∧ (holdExpired s).watch = s.watch ∧ (holdExpired s).link = s.link ∧
    (holdExpired s).freeCount = s.freeCount ∧ (holdExpired s).pending = s.pending := by
  unfold holdExpired
  try dsimp only
  (repeat' split) <;> simp

@[simp] theorem endPurge_keeps (s : State) :
    (endPurge s).est = s.est ∧ (endPurge s).tracker = s.tracker ∧ (endPurge s).channels = s.channels ∧
    (endPurge s).drive = s.drive ∧ (endPurge s).uptime = s.uptime ∧ (endPurge s).secondMs = s.secondMs ∧
    (endPurge s).flap = s.flap ∧ (endPurge s).filter = s.filter ∧ (endPurge s).tally = s.tally ∧
    (endPurge s).journal = s.journal ∧ (endPurge s).flash = s.flash ∧ (endPurge s).watch = s.watch ∧
    (endPurge s).link = s.link ∧ (endPurge s).freeCount = s.freeCount ∧ (endPurge s).pending = s.pending := by
  unfold endPurge
  try dsimp only
  (repeat' split) <;> simp

@[simp] theorem startPurge_keeps (s : State) :
    (startPurge s).est = s.est ∧ (startPurge s).tracker = s.tracker ∧ (startPurge s).channels = s.channels ∧
    (startPurge s).drive = s.drive ∧ (startPurge s).uptime = s.uptime ∧ (startPurge s).secondMs = s.secondMs ∧
    (startPurge s).flap = s.flap ∧ (startPurge s).filter = s.filter ∧ (startPurge s).tally = s.tally ∧
    (startPurge s).journal = s.journal ∧ (startPurge s).flash = s.flash ∧ (startPurge s).watch = s.watch ∧
    (startPurge s).link = s.link ∧ (startPurge s).freeCount = s.freeCount ∧ (startPurge s).pending = s.pending := by
  unfold startPurge
  try dsimp only
  (repeat' split) <;> simp

@[simp] theorem purgeDoorOpened_keeps (s : State) :
    (purgeDoorOpened s).est = s.est ∧ (purgeDoorOpened s).tracker = s.tracker ∧
    (purgeDoorOpened s).channels = s.channels ∧ (purgeDoorOpened s).drive = s.drive ∧
    (purgeDoorOpened s).uptime = s.uptime ∧ (purgeDoorOpened s).secondMs = s.secondMs ∧
    (purgeDoorOpened s).flap = s.flap ∧ (purgeDoorOpened s).filter = s.filter ∧ (purgeDoorOpened s).tally = s.tally ∧
    (purgeDoorOpened s).journal = s.journal ∧ (purgeDoorOpened s).flash = s.flash ∧
    (purgeDoorOpened s).watch = s.watch ∧ (purgeDoorOpened s).link = s.link ∧
    (purgeDoorOpened s).freeCount = s.freeCount ∧ (purgeDoorOpened s).pending = s.pending := by
  unfold purgeDoorOpened
  try dsimp only
  (repeat' split) <;> simp

@[simp] theorem purgeDoorClosed_keeps (s : State) :
    (purgeDoorClosed s).est = s.est ∧ (purgeDoorClosed s).tracker = s.tracker ∧
    (purgeDoorClosed s).channels = s.channels ∧ (purgeDoorClosed s).drive = s.drive ∧
    (purgeDoorClosed s).uptime = s.uptime ∧ (purgeDoorClosed s).secondMs = s.secondMs ∧
    (purgeDoorClosed s).flap = s.flap ∧ (purgeDoorClosed s).filter = s.filter ∧ (purgeDoorClosed s).tally = s.tally ∧
    (purgeDoorClosed s).journal = s.journal ∧ (purgeDoorClosed s).flash = s.flash ∧
    (purgeDoorClosed s).watch = s.watch ∧ (purgeDoorClosed s).link = s.link ∧
    (purgeDoorClosed s).freeCount = s.freeCount ∧ (purgeDoorClosed s).pending = s.pending := by
  unfold purgeDoorClosed
  try dsimp only
  (repeat' split) <;> simp

@[simp] theorem purgeExpired_keeps (s : State) :
    (purgeExpired s).est = s.est ∧ (purgeExpired s).tracker = s.tracker ∧ (purgeExpired s).channels = s.channels ∧
    (purgeExpired s).drive = s.drive ∧ (purgeExpired s).uptime = s.uptime ∧ (purgeExpired s).secondMs = s.secondMs ∧
    (purgeExpired s).flap = s.flap ∧ (purgeExpired s).filter = s.filter ∧ (purgeExpired s).tally = s.tally ∧
    (purgeExpired s).journal = s.journal ∧ (purgeExpired s).flash = s.flash ∧ (purgeExpired s).watch = s.watch ∧
    (purgeExpired s).link = s.link ∧ (purgeExpired s).freeCount = s.freeCount ∧
    (purgeExpired s).pending = s.pending := by
  unfold purgeExpired
  try dsimp only
  (repeat' split) <;> simp

@[simp] theorem purgeCleaning_keeps (s : State) :
    (purgeCleaning s).est = s.est ∧ (purgeCleaning s).tracker = s.tracker ∧ (purgeCleaning s).channels = s.channels ∧
    (purgeCleaning s).drive = s.drive ∧ (purgeCleaning s).uptime = s.uptime ∧
    (purgeCleaning s).secondMs = s.secondMs ∧ (purgeCleaning s).flap = s.flap ∧ (purgeCleaning s).filter = s.filter ∧
    (purgeCleaning s).tally = s.tally ∧ (purgeCleaning s).journal = s.journal ∧ (purgeCleaning s).flash = s.flash ∧
    (purgeCleaning s).watch = s.watch ∧ (purgeCleaning s).link = s.link ∧ (purgeCleaning s).freeCount = s.freeCount ∧
    (purgeCleaning s).pending = s.pending := by
  unfold purgeCleaning
  try dsimp only
  (repeat' split) <;> simp

@[simp] theorem policyPark_keeps (s : State) :
    (policyPark s).est = s.est ∧ (policyPark s).tracker = s.tracker ∧ (policyPark s).channels = s.channels ∧
    (policyPark s).drive = s.drive ∧ (policyPark s).uptime = s.uptime ∧ (policyPark s).secondMs = s.secondMs ∧
    (policyPark s).filter = s.filter ∧ (policyPark s).tally = s.tally ∧ (policyPark s).journal = s.journal ∧
    (policyPark s).flash = s.flash ∧ (policyPark s).watch = s.watch ∧ (policyPark s).link = s.link ∧
    (policyPark s).freeCount = s.freeCount ∧ (policyPark s).pending = s.pending := by
  unfold policyPark
  try dsimp only
  (repeat' split) <;> simp

@[simp] theorem policyWake_keeps (s : State) :
    (policyWake s).est = s.est ∧ (policyWake s).tracker = s.tracker ∧ (policyWake s).channels = s.channels ∧
    (policyWake s).drive = s.drive ∧ (policyWake s).timers = s.timers ∧ (policyWake s).uptime = s.uptime ∧
    (policyWake s).secondMs = s.secondMs ∧ (policyWake s).filter = s.filter ∧ (policyWake s).tally = s.tally ∧
    (policyWake s).journal = s.journal ∧ (policyWake s).flash = s.flash ∧ (policyWake s).watch = s.watch ∧
    (policyWake s).link = s.link ∧ (policyWake s).freeCount = s.freeCount ∧ (policyWake s).pending = s.pending := by
  unfold policyWake
  try dsimp only
  (repeat' split) <;> simp

/-! ### Tracker -/

@[simp] theorem openEpisode_keeps (d : DetectorId) (value v b : Int) (s : State) :
    (openEpisode d value v b s).est = s.est ∧ (openEpisode d value v b s).channels = s.channels ∧
    (openEpisode d value v b s).drive = s.drive ∧ (openEpisode d value v b s).uptime = s.uptime ∧
    (openEpisode d value v b s).secondMs = s.secondMs ∧ (openEpisode d value v b s).filter = s.filter ∧
    (openEpisode d value v b s).journal = s.journal ∧ (openEpisode d value v b s).flash = s.flash ∧
    (openEpisode d value v b s).watch = s.watch ∧ (openEpisode d value v b s).link = s.link ∧
    (openEpisode d value v b s).freeCount = s.freeCount ∧ (openEpisode d value v b s).pending = s.pending := by
  unfold openEpisode
  try dsimp only
  (repeat' split) <;> simp

@[simp] theorem closeEpisode_keeps (d : DetectorId) (cause : EndCause) (s : State) :
    (closeEpisode d cause s).est = s.est ∧ (closeEpisode d cause s).channels = s.channels ∧
    (closeEpisode d cause s).drive = s.drive ∧ (closeEpisode d cause s).uptime = s.uptime ∧
    (closeEpisode d cause s).secondMs = s.secondMs ∧ (closeEpisode d cause s).filter = s.filter ∧
    (closeEpisode d cause s).tally = s.tally ∧ (closeEpisode d cause s).journal = s.journal ∧
    (closeEpisode d cause s).flash = s.flash ∧ (closeEpisode d cause s).watch = s.watch ∧
    (closeEpisode d cause s).link = s.link ∧ (closeEpisode d cause s).freeCount = s.freeCount ∧
    (closeEpisode d cause s).pending = s.pending := by
  unfold closeEpisode
  try dsimp only
  (repeat' split) <;> simp

@[simp] theorem sampleOpen_keeps (d : DetectorId) (value v b : Int) (s : State) :
    (sampleOpen d value v b s).est = s.est ∧ (sampleOpen d value v b s).channels = s.channels ∧
    (sampleOpen d value v b s).drive = s.drive ∧ (sampleOpen d value v b s).uptime = s.uptime ∧
    (sampleOpen d value v b s).secondMs = s.secondMs ∧ (sampleOpen d value v b s).filter = s.filter ∧
    (sampleOpen d value v b s).tally = s.tally ∧ (sampleOpen d value v b s).journal = s.journal ∧
    (sampleOpen d value v b s).flash = s.flash ∧ (sampleOpen d value v b s).watch = s.watch ∧
    (sampleOpen d value v b s).link = s.link ∧ (sampleOpen d value v b s).freeCount = s.freeCount ∧
    (sampleOpen d value v b s).pending = s.pending := by
  unfold sampleOpen
  try dsimp only
  (repeat' split) <;> simp

@[simp] theorem sampleQuiet_keeps (d : DetectorId) (value v b : Int) (s : State) :
    (sampleQuiet d value v b s).est = s.est ∧ (sampleQuiet d value v b s).channels = s.channels ∧
    (sampleQuiet d value v b s).drive = s.drive ∧ (sampleQuiet d value v b s).uptime = s.uptime ∧
    (sampleQuiet d value v b s).secondMs = s.secondMs ∧ (sampleQuiet d value v b s).filter = s.filter ∧
    (sampleQuiet d value v b s).journal = s.journal ∧ (sampleQuiet d value v b s).flash = s.flash ∧
    (sampleQuiet d value v b s).watch = s.watch ∧ (sampleQuiet d value v b s).link = s.link ∧
    (sampleQuiet d value v b s).freeCount = s.freeCount ∧ (sampleQuiet d value v b s).pending = s.pending := by
  unfold sampleQuiet
  try dsimp only
  (repeat' split) <;> simp

@[simp] theorem detectorSample_keeps (d : DetectorId) (value : Int) (s : State) :
    (detectorSample d value s).est = s.est ∧ (detectorSample d value s).channels = s.channels ∧
    (detectorSample d value s).drive = s.drive ∧ (detectorSample d value s).uptime = s.uptime ∧
    (detectorSample d value s).secondMs = s.secondMs ∧ (detectorSample d value s).filter = s.filter ∧
    (detectorSample d value s).journal = s.journal ∧ (detectorSample d value s).flash = s.flash ∧
    (detectorSample d value s).watch = s.watch ∧ (detectorSample d value s).link = s.link ∧
    (detectorSample d value s).freeCount = s.freeCount ∧ (detectorSample d value s).pending = s.pending := by
  unfold detectorSample
  try dsimp only
  (repeat' split) <;> simp

@[simp] theorem detectorLost_keeps (d : DetectorId) (s : State) :
    (detectorLost d s).est = s.est ∧ (detectorLost d s).channels = s.channels ∧ (detectorLost d s).drive = s.drive ∧
    (detectorLost d s).uptime = s.uptime ∧ (detectorLost d s).secondMs = s.secondMs ∧
    (detectorLost d s).filter = s.filter ∧ (detectorLost d s).tally = s.tally ∧
    (detectorLost d s).journal = s.journal ∧ (detectorLost d s).flash = s.flash ∧
    (detectorLost d s).watch = s.watch ∧ (detectorLost d s).link = s.link ∧
    (detectorLost d s).freeCount = s.freeCount ∧ (detectorLost d s).pending = s.pending := by
  unfold detectorLost
  try dsimp only
  (repeat' split) <;> simp

/-! ### Sensors -/

@[simp] theorem recomputeMargin_keeps (s : State) :
    (recomputeMargin s).policy = s.policy ∧ (recomputeMargin s).tracker = s.tracker ∧
    (recomputeMargin s).channels = s.channels ∧ (recomputeMargin s).drive = s.drive ∧
    (recomputeMargin s).timers = s.timers ∧ (recomputeMargin s).uptime = s.uptime ∧
    (recomputeMargin s).secondMs = s.secondMs ∧ (recomputeMargin s).flap = s.flap ∧
    (recomputeMargin s).blower = s.blower ∧ (recomputeMargin s).filter = s.filter ∧
    (recomputeMargin s).tally = s.tally ∧ (recomputeMargin s).journal = s.journal ∧
    (recomputeMargin s).flash = s.flash ∧ (recomputeMargin s).link = s.link ∧
    (recomputeMargin s).freeCount = s.freeCount ∧ (recomputeMargin s).pending = s.pending := by
  unfold recomputeMargin
  try dsimp only
  (repeat' split) <;> simp

@[simp] theorem gasSnap_keeps (v : Int) (s : State) :
    (gasSnap v s).policy = s.policy ∧ (gasSnap v s).tracker = s.tracker ∧ (gasSnap v s).channels = s.channels ∧
    (gasSnap v s).drive = s.drive ∧ (gasSnap v s).timers = s.timers ∧ (gasSnap v s).uptime = s.uptime ∧
    (gasSnap v s).secondMs = s.secondMs ∧ (gasSnap v s).flap = s.flap ∧ (gasSnap v s).blower = s.blower ∧
    (gasSnap v s).filter = s.filter ∧ (gasSnap v s).tally = s.tally ∧ (gasSnap v s).journal = s.journal ∧
    (gasSnap v s).flash = s.flash ∧ (gasSnap v s).link = s.link ∧ (gasSnap v s).freeCount = s.freeCount ∧
    (gasSnap v s).pending = s.pending := by
  unfold gasSnap
  try dsimp only
  (repeat' split) <;> simp

@[simp] theorem consumeSample_keeps (c : Channel) (v : Int) (s : State) :
    (consumeSample c v s).channels = s.channels ∧ (consumeSample c v s).drive = s.drive ∧
    (consumeSample c v s).uptime = s.uptime ∧ (consumeSample c v s).secondMs = s.secondMs ∧
    (consumeSample c v s).filter = s.filter ∧ (consumeSample c v s).journal = s.journal ∧
    (consumeSample c v s).flash = s.flash ∧ (consumeSample c v s).link = s.link ∧
    (consumeSample c v s).freeCount = s.freeCount ∧ (consumeSample c v s).pending = s.pending := by
  unfold consumeSample
  try dsimp only
  (repeat' split) <;> simp

@[simp] theorem acceptSample_keeps (c : Channel) (raw : Int) (s : State) :
    (acceptSample c raw s).drive = s.drive ∧ (acceptSample c raw s).uptime = s.uptime ∧
    (acceptSample c raw s).secondMs = s.secondMs ∧ (acceptSample c raw s).filter = s.filter ∧
    (acceptSample c raw s).journal = s.journal ∧ (acceptSample c raw s).flash = s.flash ∧
    (acceptSample c raw s).link = s.link ∧ (acceptSample c raw s).freeCount = s.freeCount ∧
    (acceptSample c raw s).pending = s.pending := by
  unfold acceptSample
  try dsimp only
  (repeat' split) <;> simp

@[simp] theorem takeSample_keeps (c : Channel) (raw : Int) (q : Quality) (s : State) :
    (takeSample c raw q s).drive = s.drive ∧ (takeSample c raw q s).uptime = s.uptime ∧
    (takeSample c raw q s).secondMs = s.secondMs ∧ (takeSample c raw q s).filter = s.filter ∧
    (takeSample c raw q s).journal = s.journal ∧ (takeSample c raw q s).flash = s.flash ∧
    (takeSample c raw q s).link = s.link ∧ (takeSample c raw q s).freeCount = s.freeCount ∧
    (takeSample c raw q s).pending = s.pending := by
  unfold takeSample
  try dsimp only
  (repeat' split) <;> simp

@[simp] theorem consumeLoss_keeps (c : Channel) (s : State) :
    (consumeLoss c s).channels = s.channels ∧ (consumeLoss c s).drive = s.drive ∧
    (consumeLoss c s).uptime = s.uptime ∧ (consumeLoss c s).secondMs = s.secondMs ∧
    (consumeLoss c s).filter = s.filter ∧ (consumeLoss c s).tally = s.tally ∧ (consumeLoss c s).journal = s.journal ∧
    (consumeLoss c s).flash = s.flash ∧ (consumeLoss c s).link = s.link ∧ (consumeLoss c s).freeCount = s.freeCount ∧
    (consumeLoss c s).pending = s.pending := by
  unfold consumeLoss
  try dsimp only
  (repeat' split) <;> simp

@[simp] theorem enterLost_keeps (c : Channel) (s : State) :
    (enterLost c s).drive = s.drive ∧ (enterLost c s).uptime = s.uptime ∧ (enterLost c s).secondMs = s.secondMs ∧
    (enterLost c s).filter = s.filter ∧ (enterLost c s).tally = s.tally ∧ (enterLost c s).journal = s.journal ∧
    (enterLost c s).flash = s.flash ∧ (enterLost c s).link = s.link ∧ (enterLost c s).freeCount = s.freeCount ∧
    (enterLost c s).pending = s.pending := by
  unfold enterLost
  try dsimp only
  (repeat' split) <;> simp

@[simp] theorem lostExpired_keeps (c : Channel) (s : State) :
    (lostExpired c s).drive = s.drive ∧ (lostExpired c s).uptime = s.uptime ∧
    (lostExpired c s).secondMs = s.secondMs ∧ (lostExpired c s).filter = s.filter ∧
    (lostExpired c s).tally = s.tally ∧ (lostExpired c s).journal = s.journal ∧ (lostExpired c s).flash = s.flash ∧
    (lostExpired c s).link = s.link ∧ (lostExpired c s).freeCount = s.freeCount ∧
    (lostExpired c s).pending = s.pending := by
  unfold lostExpired
  try dsimp only
  (repeat' split) <;> simp

@[simp] theorem staleExpired_keeps (c : Channel) (s : State) :
    (staleExpired c s).drive = s.drive ∧ (staleExpired c s).uptime = s.uptime ∧
    (staleExpired c s).secondMs = s.secondMs ∧ (staleExpired c s).filter = s.filter ∧
    (staleExpired c s).tally = s.tally ∧ (staleExpired c s).journal = s.journal ∧
    (staleExpired c s).flash = s.flash ∧ (staleExpired c s).link = s.link ∧
    (staleExpired c s).freeCount = s.freeCount ∧ (staleExpired c s).pending = s.pending := by
  unfold staleExpired
  try dsimp only
  (repeat' split) <;> simp

@[simp] theorem recheckAge_keeps (c : Channel) (s : State) :
    (recheckAge c s).drive = s.drive ∧ (recheckAge c s).uptime = s.uptime ∧ (recheckAge c s).secondMs = s.secondMs ∧
    (recheckAge c s).filter = s.filter ∧ (recheckAge c s).tally = s.tally ∧ (recheckAge c s).journal = s.journal ∧
    (recheckAge c s).flash = s.flash ∧ (recheckAge c s).link = s.link ∧ (recheckAge c s).freeCount = s.freeCount ∧
    (recheckAge c s).pending = s.pending := by
  unfold recheckAge
  try dsimp only
  (repeat' split) <;> simp

@[simp] theorem substituteChanged_keeps (c : Channel) (s : State) :
    (substituteChanged c s).policy = s.policy ∧ (substituteChanged c s).tracker = s.tracker ∧
    (substituteChanged c s).channels = s.channels ∧ (substituteChanged c s).drive = s.drive ∧
    (substituteChanged c s).timers = s.timers ∧ (substituteChanged c s).uptime = s.uptime ∧
    (substituteChanged c s).secondMs = s.secondMs ∧ (substituteChanged c s).flap = s.flap ∧
    (substituteChanged c s).blower = s.blower ∧ (substituteChanged c s).filter = s.filter ∧
    (substituteChanged c s).tally = s.tally ∧ (substituteChanged c s).journal = s.journal ∧
    (substituteChanged c s).flash = s.flash ∧ (substituteChanged c s).link = s.link ∧
    (substituteChanged c s).freeCount = s.freeCount ∧ (substituteChanged c s).pending = s.pending := by
  unfold substituteChanged
  try dsimp only
  (repeat' split) <;> simp

@[simp] theorem storeChannel_keeps (c : Channel) (substitute : Option Int) (stale lost : Nat) (s : State) :
    (storeChannel c substitute stale lost s).drive = s.drive ∧
    (storeChannel c substitute stale lost s).uptime = s.uptime ∧
    (storeChannel c substitute stale lost s).secondMs = s.secondMs ∧
    (storeChannel c substitute stale lost s).filter = s.filter ∧
    (storeChannel c substitute stale lost s).tally = s.tally ∧
    (storeChannel c substitute stale lost s).journal = s.journal ∧
    (storeChannel c substitute stale lost s).flash = s.flash ∧
    (storeChannel c substitute stale lost s).link = s.link ∧
    (storeChannel c substitute stale lost s).freeCount = s.freeCount ∧
    (storeChannel c substitute stale lost s).pending = s.pending := by
  unfold storeChannel
  try dsimp only
  (repeat' split) <;> simp

/-! ### Replies -/

@[simp] theorem sendReply_keeps (code : Byte) (result : ResultCode) (body : List Byte) (s : State) :
    (sendReply code result body s).est = s.est ∧ (sendReply code result body s).policy = s.policy ∧
    (sendReply code result body s).tracker = s.tracker ∧ (sendReply code result body s).channels = s.channels ∧
    (sendReply code result body s).drive = s.drive ∧ (sendReply code result body s).timers = s.timers ∧
    (sendReply code result body s).uptime = s.uptime ∧ (sendReply code result body s).secondMs = s.secondMs ∧
    (sendReply code result body s).flap = s.flap ∧ (sendReply code result body s).blower = s.blower ∧
    (sendReply code result body s).filter = s.filter ∧ (sendReply code result body s).tally = s.tally ∧
    (sendReply code result body s).journal = s.journal ∧ (sendReply code result body s).flash = s.flash ∧
    (sendReply code result body s).watch = s.watch ∧ (sendReply code result body s).notices = s.notices ∧
    (sendReply code result body s).freeCount = s.freeCount ∧ (sendReply code result body s).pending = s.pending := by
  unfold sendReply
  try dsimp only
  (repeat' split) <;> simp

@[simp] theorem releasePark_keeps (s : State) :
    (releasePark s).est = s.est ∧ (releasePark s).policy = s.policy ∧ (releasePark s).tracker = s.tracker ∧
    (releasePark s).channels = s.channels ∧ (releasePark s).drive = s.drive ∧ (releasePark s).timers = s.timers ∧
    (releasePark s).uptime = s.uptime ∧ (releasePark s).secondMs = s.secondMs ∧ (releasePark s).flap = s.flap ∧
    (releasePark s).blower = s.blower ∧ (releasePark s).filter = s.filter ∧ (releasePark s).tally = s.tally ∧
    (releasePark s).journal = s.journal ∧ (releasePark s).flash = s.flash ∧ (releasePark s).watch = s.watch ∧
    (releasePark s).notices = s.notices ∧ (releasePark s).freeCount = s.freeCount ∧
    (releasePark s).pending = s.pending := by
  unfold releasePark
  try dsimp only
  (repeat' split) <;> simp

@[simp] theorem releaseRestart_keeps (s : State) :
    (releaseRestart s).est = s.est ∧ (releaseRestart s).policy = s.policy ∧ (releaseRestart s).tracker = s.tracker ∧
    (releaseRestart s).channels = s.channels ∧ (releaseRestart s).drive = s.drive ∧
    (releaseRestart s).timers = s.timers ∧ (releaseRestart s).uptime = s.uptime ∧
    (releaseRestart s).secondMs = s.secondMs ∧ (releaseRestart s).flap = s.flap ∧
    (releaseRestart s).blower = s.blower ∧ (releaseRestart s).filter = s.filter ∧
    (releaseRestart s).tally = s.tally ∧ (releaseRestart s).journal = s.journal ∧
    (releaseRestart s).flash = s.flash ∧ (releaseRestart s).watch = s.watch ∧
    (releaseRestart s).notices = s.notices ∧ (releaseRestart s).freeCount = s.freeCount ∧
    (releaseRestart s).pending = s.pending := by
  unfold releaseRestart
  try dsimp only
  (repeat' split) <;> simp

/-! ### Journal -/

@[simp] theorem enterFailed_keeps (s : State) :
    (enterFailed s).est = s.est ∧ (enterFailed s).policy = s.policy ∧ (enterFailed s).tracker = s.tracker ∧
    (enterFailed s).channels = s.channels ∧ (enterFailed s).drive = s.drive ∧ (enterFailed s).timers = s.timers ∧
    (enterFailed s).uptime = s.uptime ∧ (enterFailed s).secondMs = s.secondMs ∧ (enterFailed s).flap = s.flap ∧
    (enterFailed s).blower = s.blower ∧ (enterFailed s).filter = s.filter ∧ (enterFailed s).tally = s.tally ∧
    (enterFailed s).flash = s.flash ∧ (enterFailed s).watch = s.watch ∧ (enterFailed s).freeCount = s.freeCount ∧
    (enterFailed s).pending = s.pending := by
  unfold enterFailed
  try dsimp only
  (repeat' split) <;> simp

@[simp] theorem beginProgram_keeps (w : WriteInFlight) (sector slot : Nat) (s : State) :
    (beginProgram w sector slot s).est = s.est ∧ (beginProgram w sector slot s).policy = s.policy ∧
    (beginProgram w sector slot s).tracker = s.tracker ∧ (beginProgram w sector slot s).channels = s.channels ∧
    (beginProgram w sector slot s).drive = s.drive ∧ (beginProgram w sector slot s).timers = s.timers ∧
    (beginProgram w sector slot s).uptime = s.uptime ∧ (beginProgram w sector slot s).secondMs = s.secondMs ∧
    (beginProgram w sector slot s).flap = s.flap ∧ (beginProgram w sector slot s).blower = s.blower ∧
    (beginProgram w sector slot s).filter = s.filter ∧ (beginProgram w sector slot s).tally = s.tally ∧
    (beginProgram w sector slot s).flash = s.flash ∧ (beginProgram w sector slot s).watch = s.watch ∧
    (beginProgram w sector slot s).freeCount = s.freeCount ∧ (beginProgram w sector slot s).pending = s.pending := by
  unfold beginProgram
  try dsimp only
  (repeat' split) <;> simp

@[simp] theorem chooseSector_keeps (w : WriteInFlight) (order : List Nat) (s : State) :
    (chooseSector w order s).est = s.est ∧ (chooseSector w order s).policy = s.policy ∧
    (chooseSector w order s).tracker = s.tracker ∧ (chooseSector w order s).channels = s.channels ∧
    (chooseSector w order s).drive = s.drive ∧ (chooseSector w order s).timers = s.timers ∧
    (chooseSector w order s).uptime = s.uptime ∧ (chooseSector w order s).secondMs = s.secondMs ∧
    (chooseSector w order s).flap = s.flap ∧ (chooseSector w order s).blower = s.blower ∧
    (chooseSector w order s).filter = s.filter ∧ (chooseSector w order s).tally = s.tally ∧
    (chooseSector w order s).flash = s.flash ∧ (chooseSector w order s).watch = s.watch ∧
    (chooseSector w order s).freeCount = s.freeCount ∧ (chooseSector w order s).pending = s.pending := by
  unfold chooseSector
  try dsimp only
  (repeat' split) <;> simp

@[simp] theorem switchSector_keeps (w : WriteInFlight) (s : State) :
    (switchSector w s).est = s.est ∧ (switchSector w s).policy = s.policy ∧ (switchSector w s).tracker = s.tracker ∧
    (switchSector w s).channels = s.channels ∧ (switchSector w s).drive = s.drive ∧
    (switchSector w s).timers = s.timers ∧ (switchSector w s).uptime = s.uptime ∧
    (switchSector w s).secondMs = s.secondMs ∧ (switchSector w s).flap = s.flap ∧
    (switchSector w s).blower = s.blower ∧ (switchSector w s).filter = s.filter ∧
    (switchSector w s).tally = s.tally ∧ (switchSector w s).flash = s.flash ∧ (switchSector w s).watch = s.watch ∧
    (switchSector w s).freeCount = s.freeCount ∧ (switchSector w s).pending = s.pending := by
  unfold switchSector
  try dsimp only
  (repeat' split) <;> simp

@[simp] theorem seekTarget_keeps (w : WriteInFlight) (s : State) :
    (seekTarget w s).est = s.est ∧ (seekTarget w s).policy = s.policy ∧ (seekTarget w s).tracker = s.tracker ∧
    (seekTarget w s).channels = s.channels ∧ (seekTarget w s).drive = s.drive ∧ (seekTarget w s).timers = s.timers ∧
    (seekTarget w s).uptime = s.uptime ∧ (seekTarget w s).secondMs = s.secondMs ∧ (seekTarget w s).flap = s.flap ∧
    (seekTarget w s).blower = s.blower ∧ (seekTarget w s).filter = s.filter ∧ (seekTarget w s).tally = s.tally ∧
    (seekTarget w s).flash = s.flash ∧ (seekTarget w s).watch = s.watch ∧ (seekTarget w s).freeCount = s.freeCount ∧
    (seekTarget w s).pending = s.pending := by
  unfold seekTarget
  try dsimp only
  (repeat' split) <;> simp

@[simp] theorem startWrite_keeps (kind : RecordKind) (parkOwed : Bool) (s : State) :
    (startWrite kind parkOwed s).est = s.est ∧ (startWrite kind parkOwed s).policy = s.policy ∧
    (startWrite kind parkOwed s).tracker = s.tracker ∧ (startWrite kind parkOwed s).channels = s.channels ∧
    (startWrite kind parkOwed s).drive = s.drive ∧ (startWrite kind parkOwed s).timers = s.timers ∧
    (startWrite kind parkOwed s).uptime = s.uptime ∧ (startWrite kind parkOwed s).secondMs = s.secondMs ∧
    (startWrite kind parkOwed s).flap = s.flap ∧ (startWrite kind parkOwed s).blower = s.blower ∧
    (startWrite kind parkOwed s).filter = s.filter ∧ (startWrite kind parkOwed s).tally = s.tally ∧
    (startWrite kind parkOwed s).flash = s.flash ∧ (startWrite kind parkOwed s).watch = s.watch ∧
    (startWrite kind parkOwed s).freeCount = s.freeCount ∧ (startWrite kind parkOwed s).pending = s.pending := by
  unfold startWrite
  try dsimp only
  (repeat' split) <;> simp

@[simp] theorem trigger_keeps (kind : RecordKind) (parkOwed : Bool) (s : State) :
    (trigger kind parkOwed s).est = s.est ∧ (trigger kind parkOwed s).policy = s.policy ∧
    (trigger kind parkOwed s).tracker = s.tracker ∧ (trigger kind parkOwed s).channels = s.channels ∧
    (trigger kind parkOwed s).drive = s.drive ∧ (trigger kind parkOwed s).timers = s.timers ∧
    (trigger kind parkOwed s).uptime = s.uptime ∧ (trigger kind parkOwed s).secondMs = s.secondMs ∧
    (trigger kind parkOwed s).flap = s.flap ∧ (trigger kind parkOwed s).blower = s.blower ∧
    (trigger kind parkOwed s).filter = s.filter ∧ (trigger kind parkOwed s).tally = s.tally ∧
    (trigger kind parkOwed s).flash = s.flash ∧ (trigger kind parkOwed s).watch = s.watch ∧
    (trigger kind parkOwed s).freeCount = s.freeCount ∧ (trigger kind parkOwed s).pending = s.pending := by
  unfold trigger
  try dsimp only
  (repeat' split) <;> simp

@[simp] theorem erasePassed_keeps (s : State) :
    (erasePassed s).est = s.est ∧ (erasePassed s).policy = s.policy ∧ (erasePassed s).tracker = s.tracker ∧
    (erasePassed s).channels = s.channels ∧ (erasePassed s).drive = s.drive ∧ (erasePassed s).timers = s.timers ∧
    (erasePassed s).uptime = s.uptime ∧ (erasePassed s).secondMs = s.secondMs ∧ (erasePassed s).flap = s.flap ∧
    (erasePassed s).blower = s.blower ∧ (erasePassed s).filter = s.filter ∧ (erasePassed s).tally = s.tally ∧
    (erasePassed s).watch = s.watch ∧ (erasePassed s).freeCount = s.freeCount ∧ (erasePassed s).pending = s.pending := by
  unfold erasePassed
  try dsimp only
  (repeat' split) <;> simp

@[simp] theorem eraseFailed_keeps (left : List SlotOutcome) (s : State) :
    (eraseFailed left s).est = s.est ∧ (eraseFailed left s).policy = s.policy ∧
    (eraseFailed left s).tracker = s.tracker ∧ (eraseFailed left s).channels = s.channels ∧
    (eraseFailed left s).drive = s.drive ∧ (eraseFailed left s).timers = s.timers ∧
    (eraseFailed left s).uptime = s.uptime ∧ (eraseFailed left s).secondMs = s.secondMs ∧
    (eraseFailed left s).flap = s.flap ∧ (eraseFailed left s).blower = s.blower ∧
    (eraseFailed left s).filter = s.filter ∧ (eraseFailed left s).tally = s.tally ∧
    (eraseFailed left s).watch = s.watch ∧ (eraseFailed left s).freeCount = s.freeCount ∧
    (eraseFailed left s).pending = s.pending := by
  unfold eraseFailed
  try dsimp only
  (repeat' split) <;> simp

@[simp] theorem startPending_keeps (s : State) :
    (startPending s).est = s.est ∧ (startPending s).policy = s.policy ∧ (startPending s).tracker = s.tracker ∧
    (startPending s).channels = s.channels ∧ (startPending s).drive = s.drive ∧ (startPending s).timers = s.timers ∧
    (startPending s).uptime = s.uptime ∧ (startPending s).secondMs = s.secondMs ∧ (startPending s).flap = s.flap ∧
    (startPending s).blower = s.blower ∧ (startPending s).filter = s.filter ∧ (startPending s).tally = s.tally ∧
    (startPending s).flash = s.flash ∧ (startPending s).watch = s.watch ∧ (startPending s).freeCount = s.freeCount ∧
    (startPending s).pending = s.pending := by
  unfold startPending
  try dsimp only
  (repeat' split) <;> simp

@[simp] theorem releaseWaiting_keeps (s : State) :
    (releaseWaiting s).est = s.est ∧ (releaseWaiting s).policy = s.policy ∧ (releaseWaiting s).tracker = s.tracker ∧
    (releaseWaiting s).channels = s.channels ∧ (releaseWaiting s).drive = s.drive ∧
    (releaseWaiting s).timers = s.timers ∧ (releaseWaiting s).uptime = s.uptime ∧
    (releaseWaiting s).secondMs = s.secondMs ∧ (releaseWaiting s).flap = s.flap ∧
    (releaseWaiting s).blower = s.blower ∧ (releaseWaiting s).filter = s.filter ∧
    (releaseWaiting s).tally = s.tally ∧ (releaseWaiting s).flash = s.flash ∧ (releaseWaiting s).watch = s.watch ∧
    (releaseWaiting s).notices = s.notices ∧ (releaseWaiting s).freeCount = s.freeCount ∧
    (releaseWaiting s).pending = s.pending := by
  unfold releaseWaiting
  try dsimp only
  (repeat' split) <;> simp

@[simp] theorem programPassed_keeps (s : State) :
    (programPassed s).est = s.est ∧ (programPassed s).policy = s.policy ∧ (programPassed s).tracker = s.tracker ∧
    (programPassed s).channels = s.channels ∧ (programPassed s).drive = s.drive ∧
    (programPassed s).timers = s.timers ∧ (programPassed s).uptime = s.uptime ∧
    (programPassed s).secondMs = s.secondMs ∧ (programPassed s).flap = s.flap ∧ (programPassed s).blower = s.blower ∧
    (programPassed s).filter = s.filter ∧ (programPassed s).tally = s.tally ∧ (programPassed s).watch = s.watch ∧
    (programPassed s).freeCount = s.freeCount ∧ (programPassed s).pending = s.pending := by
  unfold programPassed
  try dsimp only
  (repeat' split) <;> simp

@[simp] theorem programFailed_keeps (left : SlotOutcome) (s : State) :
    (programFailed left s).est = s.est ∧ (programFailed left s).policy = s.policy ∧
    (programFailed left s).tracker = s.tracker ∧ (programFailed left s).channels = s.channels ∧
    (programFailed left s).drive = s.drive ∧ (programFailed left s).timers = s.timers ∧
    (programFailed left s).uptime = s.uptime ∧ (programFailed left s).secondMs = s.secondMs ∧
    (programFailed left s).flap = s.flap ∧ (programFailed left s).blower = s.blower ∧
    (programFailed left s).filter = s.filter ∧ (programFailed left s).tally = s.tally ∧
    (programFailed left s).watch = s.watch ∧ (programFailed left s).freeCount = s.freeCount ∧
    (programFailed left s).pending = s.pending := by
  unfold programFailed
  try dsimp only
  (repeat' split) <;> simp

@[simp] theorem adoptFound_keeps (x : Found) (s : State) :
    (adoptFound x s).est = s.est ∧ (adoptFound x s).policy = s.policy ∧ (adoptFound x s).tracker = s.tracker ∧
    (adoptFound x s).channels = s.channels ∧ (adoptFound x s).drive = s.drive ∧ (adoptFound x s).timers = s.timers ∧
    (adoptFound x s).uptime = s.uptime ∧ (adoptFound x s).secondMs = s.secondMs ∧ (adoptFound x s).flap = s.flap ∧
    (adoptFound x s).blower = s.blower ∧ (adoptFound x s).flash = s.flash ∧ (adoptFound x s).watch = s.watch ∧
    (adoptFound x s).link = s.link ∧ (adoptFound x s).freeCount = s.freeCount ∧
    (adoptFound x s).pending = s.pending := by
  unfold adoptFound
  try dsimp only
  (repeat' split) <;> simp

@[simp] theorem endScan_keeps (s : State) :
    (endScan s).est = s.est ∧ (endScan s).policy = s.policy ∧ (endScan s).tracker = s.tracker ∧
    (endScan s).channels = s.channels ∧ (endScan s).drive = s.drive ∧ (endScan s).timers = s.timers ∧
    (endScan s).uptime = s.uptime ∧ (endScan s).secondMs = s.secondMs ∧ (endScan s).flap = s.flap ∧
    (endScan s).blower = s.blower ∧ (endScan s).flash = s.flash ∧ (endScan s).watch = s.watch ∧
    (endScan s).link = s.link ∧ (endScan s).freeCount = s.freeCount ∧ (endScan s).pending = s.pending := by
  unfold endScan
  try dsimp only
  (repeat' split) <;> simp

/-! ### Vehicle -/

@[simp] theorem setVehicle_keeps (v : VehicleState) (s : State) :
    (setVehicle v s).est = s.est ∧ (setVehicle v s).policy = s.policy ∧ (setVehicle v s).tracker = s.tracker ∧
    (setVehicle v s).channels = s.channels ∧ (setVehicle v s).timers = s.timers ∧
    (setVehicle v s).uptime = s.uptime ∧ (setVehicle v s).secondMs = s.secondMs ∧ (setVehicle v s).flap = s.flap ∧
    (setVehicle v s).blower = s.blower ∧ (setVehicle v s).filter = s.filter ∧ (setVehicle v s).tally = s.tally ∧
    (setVehicle v s).journal = s.journal ∧ (setVehicle v s).flash = s.flash ∧ (setVehicle v s).watch = s.watch ∧
    (setVehicle v s).notices = s.notices ∧ (setVehicle v s).link = s.link ∧
    (setVehicle v s).freeCount = s.freeCount ∧ (setVehicle v s).pending = s.pending := by
  unfold setVehicle
  try dsimp only
  (repeat' split) <;> simp

@[simp] theorem enterMoving_keeps (s : State) :
    (enterMoving s).est = s.est ∧ (enterMoving s).policy = s.policy ∧ (enterMoving s).tracker = s.tracker ∧
    (enterMoving s).channels = s.channels ∧ (enterMoving s).timers = s.timers ∧ (enterMoving s).uptime = s.uptime ∧
    (enterMoving s).secondMs = s.secondMs ∧ (enterMoving s).flap = s.flap ∧ (enterMoving s).blower = s.blower ∧
    (enterMoving s).filter = s.filter ∧ (enterMoving s).tally = s.tally ∧ (enterMoving s).journal = s.journal ∧
    (enterMoving s).flash = s.flash ∧ (enterMoving s).notices = s.notices ∧ (enterMoving s).link = s.link ∧
    (enterMoving s).freeCount = s.freeCount ∧ (enterMoving s).pending = s.pending := by
  unfold enterMoving
  try dsimp only
  (repeat' split) <;> simp

@[simp] theorem enterAtStop_keeps (s : State) :
    (enterAtStop s).est = s.est ∧ (enterAtStop s).policy = s.policy ∧ (enterAtStop s).tracker = s.tracker ∧
    (enterAtStop s).channels = s.channels ∧ (enterAtStop s).timers = s.timers ∧ (enterAtStop s).uptime = s.uptime ∧
    (enterAtStop s).secondMs = s.secondMs ∧ (enterAtStop s).flap = s.flap ∧ (enterAtStop s).blower = s.blower ∧
    (enterAtStop s).filter = s.filter ∧ (enterAtStop s).journal = s.journal ∧ (enterAtStop s).flash = s.flash ∧
    (enterAtStop s).watch = s.watch ∧ (enterAtStop s).notices = s.notices ∧ (enterAtStop s).link = s.link ∧
    (enterAtStop s).freeCount = s.freeCount ∧ (enterAtStop s).pending = s.pending := by
  unfold enterAtStop
  try dsimp only
  (repeat' split) <;> simp

@[simp] theorem enterStanding_keeps (s : State) :
    (enterStanding s).est = s.est ∧ (enterStanding s).policy = s.policy ∧ (enterStanding s).tracker = s.tracker ∧
    (enterStanding s).channels = s.channels ∧ (enterStanding s).timers = s.timers ∧
    (enterStanding s).uptime = s.uptime ∧ (enterStanding s).secondMs = s.secondMs ∧ (enterStanding s).flap = s.flap ∧
    (enterStanding s).blower = s.blower ∧ (enterStanding s).filter = s.filter ∧
    (enterStanding s).journal = s.journal ∧ (enterStanding s).flash = s.flash ∧ (enterStanding s).watch = s.watch ∧
    (enterStanding s).notices = s.notices ∧ (enterStanding s).link = s.link ∧
    (enterStanding s).freeCount = s.freeCount ∧ (enterStanding s).pending = s.pending := by
  unfold enterStanding
  try dsimp only
  (repeat' split) <;> simp

@[simp] theorem vehicleSpeed_keeps (s : State) :
    (vehicleSpeed s).est = s.est ∧ (vehicleSpeed s).policy = s.policy ∧ (vehicleSpeed s).tracker = s.tracker ∧
    (vehicleSpeed s).channels = s.channels ∧ (vehicleSpeed s).timers = s.timers ∧
    (vehicleSpeed s).uptime = s.uptime ∧ (vehicleSpeed s).secondMs = s.secondMs ∧ (vehicleSpeed s).flap = s.flap ∧
    (vehicleSpeed s).blower = s.blower ∧ (vehicleSpeed s).filter = s.filter ∧ (vehicleSpeed s).journal = s.journal ∧
    (vehicleSpeed s).flash = s.flash ∧ (vehicleSpeed s).notices = s.notices ∧ (vehicleSpeed s).link = s.link ∧
    (vehicleSpeed s).freeCount = s.freeCount ∧ (vehicleSpeed s).pending = s.pending := by
  unfold vehicleSpeed
  try dsimp only
  (repeat' split) <;> simp

@[simp] theorem speedDelivered_keeps (old : Nat) (s : State) :
    (speedDelivered old s).est = s.est ∧ (speedDelivered old s).policy = s.policy ∧
    (speedDelivered old s).tracker = s.tracker ∧ (speedDelivered old s).channels = s.channels ∧
    (speedDelivered old s).timers = s.timers ∧ (speedDelivered old s).uptime = s.uptime ∧
    (speedDelivered old s).secondMs = s.secondMs ∧ (speedDelivered old s).flap = s.flap ∧
    (speedDelivered old s).blower = s.blower ∧ (speedDelivered old s).filter = s.filter ∧
    (speedDelivered old s).journal = s.journal ∧ (speedDelivered old s).flash = s.flash ∧
    (speedDelivered old s).link = s.link ∧ (speedDelivered old s).freeCount = s.freeCount ∧
    (speedDelivered old s).pending = s.pending := by
  unfold speedDelivered
  try dsimp only
  (repeat' split) <;> simp

@[simp] theorem vehicleDoorOpened_keeps (s : State) :
    (vehicleDoorOpened s).est = s.est ∧ (vehicleDoorOpened s).policy = s.policy ∧
    (vehicleDoorOpened s).tracker = s.tracker ∧ (vehicleDoorOpened s).channels = s.channels ∧
    (vehicleDoorOpened s).timers = s.timers ∧ (vehicleDoorOpened s).uptime = s.uptime ∧
    (vehicleDoorOpened s).secondMs = s.secondMs ∧ (vehicleDoorOpened s).flap = s.flap ∧
    (vehicleDoorOpened s).blower = s.blower ∧ (vehicleDoorOpened s).filter = s.filter ∧
    (vehicleDoorOpened s).journal = s.journal ∧ (vehicleDoorOpened s).flash = s.flash ∧
    (vehicleDoorOpened s).watch = s.watch ∧ (vehicleDoorOpened s).notices = s.notices ∧
    (vehicleDoorOpened s).link = s.link ∧ (vehicleDoorOpened s).freeCount = s.freeCount ∧
    (vehicleDoorOpened s).pending = s.pending := by
  unfold vehicleDoorOpened
  try dsimp only
  (repeat' split) <;> simp

@[simp] theorem reworkDoor_keeps (which : Door) (s : State) :
    (reworkDoor which s).est = s.est ∧ (reworkDoor which s).tracker = s.tracker ∧
    (reworkDoor which s).channels = s.channels ∧ (reworkDoor which s).uptime = s.uptime ∧
    (reworkDoor which s).secondMs = s.secondMs ∧ (reworkDoor which s).flap = s.flap ∧
    (reworkDoor which s).filter = s.filter ∧ (reworkDoor which s).journal = s.journal ∧
    (reworkDoor which s).flash = s.flash ∧ (reworkDoor which s).watch = s.watch ∧
    (reworkDoor which s).link = s.link ∧ (reworkDoor which s).freeCount = s.freeCount ∧
    (reworkDoor which s).pending = s.pending := by
  unfold reworkDoor
  try dsimp only
  (repeat' split) <;> simp

@[simp] theorem contactChanged_keeps (which : Door) (closed : Bool) (s : State) :
    (contactChanged which closed s).est = s.est ∧ (contactChanged which closed s).policy = s.policy ∧
    (contactChanged which closed s).tracker = s.tracker ∧ (contactChanged which closed s).channels = s.channels ∧
    (contactChanged which closed s).timers = s.timers ∧ (contactChanged which closed s).uptime = s.uptime ∧
    (contactChanged which closed s).secondMs = s.secondMs ∧ (contactChanged which closed s).flap = s.flap ∧
    (contactChanged which closed s).blower = s.blower ∧ (contactChanged which closed s).filter = s.filter ∧
    (contactChanged which closed s).tally = s.tally ∧ (contactChanged which closed s).journal = s.journal ∧
    (contactChanged which closed s).flash = s.flash ∧ (contactChanged which closed s).watch = s.watch ∧
    (contactChanged which closed s).notices = s.notices ∧ (contactChanged which closed s).link = s.link ∧
    (contactChanged which closed s).freeCount = s.freeCount ∧ (contactChanged which closed s).pending = s.pending := by
  unfold contactChanged
  try dsimp only
  (repeat' split) <;> simp

@[simp] theorem debounceAccepted_keeps (which : Door) (s : State) :
    (debounceAccepted which s).est = s.est ∧ (debounceAccepted which s).tracker = s.tracker ∧
    (debounceAccepted which s).channels = s.channels ∧ (debounceAccepted which s).uptime = s.uptime ∧
    (debounceAccepted which s).secondMs = s.secondMs ∧ (debounceAccepted which s).flap = s.flap ∧
    (debounceAccepted which s).filter = s.filter ∧ (debounceAccepted which s).journal = s.journal ∧
    (debounceAccepted which s).flash = s.flash ∧ (debounceAccepted which s).watch = s.watch ∧
    (debounceAccepted which s).link = s.link ∧ (debounceAccepted which s).freeCount = s.freeCount ∧
    (debounceAccepted which s).pending = s.pending := by
  unfold debounceAccepted
  try dsimp only
  (repeat' split) <;> simp

@[simp] theorem driveStale_keeps (s : State) :
    (driveStale s).est = s.est ∧ (driveStale s).policy = s.policy ∧ (driveStale s).tracker = s.tracker ∧
    (driveStale s).channels = s.channels ∧ (driveStale s).timers = s.timers ∧ (driveStale s).uptime = s.uptime ∧
    (driveStale s).secondMs = s.secondMs ∧ (driveStale s).flap = s.flap ∧ (driveStale s).blower = s.blower ∧
    (driveStale s).filter = s.filter ∧ (driveStale s).tally = s.tally ∧ (driveStale s).journal = s.journal ∧
    (driveStale s).flash = s.flash ∧ (driveStale s).watch = s.watch ∧ (driveStale s).notices = s.notices ∧
    (driveStale s).link = s.link ∧ (driveStale s).freeCount = s.freeCount ∧ (driveStale s).pending = s.pending := by
  unfold driveStale
  try dsimp only
  (repeat' split) <;> simp

@[simp] theorem driveSilent_keeps (s : State) :
    (driveSilent s).est = s.est ∧ (driveSilent s).policy = s.policy ∧ (driveSilent s).tracker = s.tracker ∧
    (driveSilent s).channels = s.channels ∧ (driveSilent s).timers = s.timers ∧ (driveSilent s).uptime = s.uptime ∧
    (driveSilent s).secondMs = s.secondMs ∧ (driveSilent s).flap = s.flap ∧ (driveSilent s).blower = s.blower ∧
    (driveSilent s).filter = s.filter ∧ (driveSilent s).journal = s.journal ∧ (driveSilent s).flash = s.flash ∧
    (driveSilent s).link = s.link ∧ (driveSilent s).freeCount = s.freeCount ∧ (driveSilent s).pending = s.pending := by
  unfold driveSilent
  try dsimp only
  (repeat' split) <;> simp

@[simp] theorem stopPaced_keeps (s : State) :
    (stopPaced s).est = s.est ∧ (stopPaced s).policy = s.policy ∧ (stopPaced s).tracker = s.tracker ∧
    (stopPaced s).channels = s.channels ∧ (stopPaced s).drive = s.drive ∧ (stopPaced s).uptime = s.uptime ∧
    (stopPaced s).secondMs = s.secondMs ∧ (stopPaced s).flap = s.flap ∧ (stopPaced s).blower = s.blower ∧
    (stopPaced s).filter = s.filter ∧ (stopPaced s).tally = s.tally ∧ (stopPaced s).journal = s.journal ∧
    (stopPaced s).flash = s.flash ∧ (stopPaced s).watch = s.watch ∧ (stopPaced s).notices = s.notices ∧
    (stopPaced s).link = s.link ∧ (stopPaced s).freeCount = s.freeCount ∧ (stopPaced s).pending = s.pending := by
  unfold stopPaced
  try dsimp only
  (repeat' split) <;> simp

@[simp] theorem loadPaced_keeps (s : State) :
    (loadPaced s).est = s.est ∧ (loadPaced s).policy = s.policy ∧ (loadPaced s).tracker = s.tracker ∧
    (loadPaced s).channels = s.channels ∧ (loadPaced s).drive = s.drive ∧ (loadPaced s).uptime = s.uptime ∧
    (loadPaced s).secondMs = s.secondMs ∧ (loadPaced s).flap = s.flap ∧ (loadPaced s).blower = s.blower ∧
    (loadPaced s).filter = s.filter ∧ (loadPaced s).tally = s.tally ∧ (loadPaced s).journal = s.journal ∧
    (loadPaced s).flash = s.flash ∧ (loadPaced s).watch = s.watch ∧ (loadPaced s).notices = s.notices ∧
    (loadPaced s).link = s.link ∧ (loadPaced s).freeCount = s.freeCount ∧ (loadPaced s).pending = s.pending := by
  unfold loadPaced
  try dsimp only
  (repeat' split) <;> simp

@[simp] theorem estimatorWake_keeps (s : State) :
    (estimatorWake s).policy = s.policy ∧ (estimatorWake s).tracker = s.tracker ∧
    (estimatorWake s).channels = s.channels ∧ (estimatorWake s).drive = s.drive ∧
    (estimatorWake s).timers = s.timers ∧ (estimatorWake s).uptime = s.uptime ∧
    (estimatorWake s).secondMs = s.secondMs ∧ (estimatorWake s).flap = s.flap ∧ (estimatorWake s).blower = s.blower ∧
    (estimatorWake s).filter = s.filter ∧ (estimatorWake s).tally = s.tally ∧ (estimatorWake s).journal = s.journal ∧
    (estimatorWake s).flash = s.flash ∧ (estimatorWake s).watch = s.watch ∧ (estimatorWake s).notices = s.notices ∧
    (estimatorWake s).link = s.link ∧ (estimatorWake s).freeCount = s.freeCount ∧
    (estimatorWake s).pending = s.pending := by
  unfold estimatorWake
  try dsimp only
  (repeat' split) <;> simp

@[simp] theorem leaveStanding_keeps (s : State) :
    (leaveStanding s).est = s.est ∧ (leaveStanding s).policy = s.policy ∧ (leaveStanding s).tracker = s.tracker ∧
    (leaveStanding s).channels = s.channels ∧ (leaveStanding s).timers = s.timers ∧
    (leaveStanding s).uptime = s.uptime ∧ (leaveStanding s).secondMs = s.secondMs ∧ (leaveStanding s).flap = s.flap ∧
    (leaveStanding s).blower = s.blower ∧ (leaveStanding s).filter = s.filter ∧
    (leaveStanding s).journal = s.journal ∧ (leaveStanding s).flash = s.flash ∧
    (leaveStanding s).notices = s.notices ∧ (leaveStanding s).link = s.link ∧
    (leaveStanding s).freeCount = s.freeCount ∧ (leaveStanding s).pending = s.pending := by
  unfold leaveStanding
  try dsimp only
  (repeat' split) <;> simp

@[simp] theorem leaveParked_keeps (s : State) :
    (leaveParked s).tracker = s.tracker ∧ (leaveParked s).channels = s.channels ∧ (leaveParked s).uptime = s.uptime ∧
    (leaveParked s).secondMs = s.secondMs ∧ (leaveParked s).filter = s.filter ∧ (leaveParked s).journal = s.journal ∧
    (leaveParked s).flash = s.flash ∧ (leaveParked s).link = s.link ∧ (leaveParked s).freeCount = s.freeCount ∧
    (leaveParked s).pending = s.pending := by
  unfold leaveParked
  try dsimp only
  (repeat' split) <;> simp

@[simp] theorem takePark_keeps (s : State) :
    (takePark s).est = s.est ∧ (takePark s).tracker = s.tracker ∧ (takePark s).channels = s.channels ∧
    (takePark s).uptime = s.uptime ∧ (takePark s).secondMs = s.secondMs ∧ (takePark s).filter = s.filter ∧
    (takePark s).tally = s.tally ∧ (takePark s).flash = s.flash ∧ (takePark s).watch = s.watch ∧
    (takePark s).freeCount = s.freeCount ∧ (takePark s).pending = s.pending := by
  unfold takePark
  try dsimp only
  (repeat' split) <;> simp

@[simp] theorem takeDrive_keeps (speed : Nat) (engine : Engine) (s : State) :
    (takeDrive speed engine s).tracker = s.tracker ∧ (takeDrive speed engine s).channels = s.channels ∧
    (takeDrive speed engine s).uptime = s.uptime ∧ (takeDrive speed engine s).secondMs = s.secondMs ∧
    (takeDrive speed engine s).filter = s.filter ∧ (takeDrive speed engine s).journal = s.journal ∧
    (takeDrive speed engine s).flash = s.flash ∧ (takeDrive speed engine s).link = s.link ∧
    (takeDrive speed engine s).freeCount = s.freeCount ∧ (takeDrive speed engine s).pending = s.pending := by
  unfold takeDrive
  try dsimp only
  (repeat' split) <;> simp

/-! ### Update -/

@[simp] theorem noteZeroFlow_keeps (s : State) :
    (noteZeroFlow s).est = s.est ∧ (noteZeroFlow s).policy = s.policy ∧ (noteZeroFlow s).tracker = s.tracker ∧
    (noteZeroFlow s).channels = s.channels ∧ (noteZeroFlow s).drive = s.drive ∧ (noteZeroFlow s).timers = s.timers ∧
    (noteZeroFlow s).uptime = s.uptime ∧ (noteZeroFlow s).secondMs = s.secondMs ∧ (noteZeroFlow s).flap = s.flap ∧
    (noteZeroFlow s).blower = s.blower ∧ (noteZeroFlow s).filter = s.filter ∧ (noteZeroFlow s).tally = s.tally ∧
    (noteZeroFlow s).journal = s.journal ∧ (noteZeroFlow s).flash = s.flash ∧ (noteZeroFlow s).watch = s.watch ∧
    (noteZeroFlow s).link = s.link ∧ (noteZeroFlow s).freeCount = s.freeCount ∧
    (noteZeroFlow s).pending = s.pending := by
  unfold noteZeroFlow
  try dsimp only
  (repeat' split) <;> simp

@[simp] theorem noteSubstituted_keeps (c : Channel) (s : State) :
    (noteSubstituted c s).est = s.est ∧ (noteSubstituted c s).policy = s.policy ∧
    (noteSubstituted c s).tracker = s.tracker ∧ (noteSubstituted c s).channels = s.channels ∧
    (noteSubstituted c s).drive = s.drive ∧ (noteSubstituted c s).timers = s.timers ∧
    (noteSubstituted c s).uptime = s.uptime ∧ (noteSubstituted c s).secondMs = s.secondMs ∧
    (noteSubstituted c s).flap = s.flap ∧ (noteSubstituted c s).blower = s.blower ∧
    (noteSubstituted c s).filter = s.filter ∧ (noteSubstituted c s).tally = s.tally ∧
    (noteSubstituted c s).journal = s.journal ∧ (noteSubstituted c s).flash = s.flash ∧
    (noteSubstituted c s).watch = s.watch ∧ (noteSubstituted c s).link = s.link ∧
    (noteSubstituted c s).freeCount = s.freeCount ∧ (noteSubstituted c s).pending = s.pending := by
  unfold noteSubstituted
  try dsimp only
  (repeat' split) <;> simp

@[simp] theorem noteCtmLookup_keeps (s : State) :
    (noteCtmLookup s).est = s.est ∧ (noteCtmLookup s).policy = s.policy ∧ (noteCtmLookup s).tracker = s.tracker ∧
    (noteCtmLookup s).channels = s.channels ∧ (noteCtmLookup s).drive = s.drive ∧
    (noteCtmLookup s).timers = s.timers ∧ (noteCtmLookup s).uptime = s.uptime ∧
    (noteCtmLookup s).secondMs = s.secondMs ∧ (noteCtmLookup s).flap = s.flap ∧ (noteCtmLookup s).blower = s.blower ∧
    (noteCtmLookup s).filter = s.filter ∧ (noteCtmLookup s).tally = s.tally ∧ (noteCtmLookup s).journal = s.journal ∧
    (noteCtmLookup s).flash = s.flash ∧ (noteCtmLookup s).watch = s.watch ∧ (noteCtmLookup s).link = s.link ∧
    (noteCtmLookup s).freeCount = s.freeCount ∧ (noteCtmLookup s).pending = s.pending := by
  unfold noteCtmLookup
  try dsimp only
  (repeat' split) <;> simp

@[simp] theorem noteDiverged_keeps (q : Quantity) (count : Nat) (diff : Int) (s : State) :
    (noteDiverged q count diff s).est = s.est ∧ (noteDiverged q count diff s).policy = s.policy ∧
    (noteDiverged q count diff s).tracker = s.tracker ∧ (noteDiverged q count diff s).channels = s.channels ∧
    (noteDiverged q count diff s).drive = s.drive ∧ (noteDiverged q count diff s).timers = s.timers ∧
    (noteDiverged q count diff s).uptime = s.uptime ∧ (noteDiverged q count diff s).secondMs = s.secondMs ∧
    (noteDiverged q count diff s).flap = s.flap ∧ (noteDiverged q count diff s).blower = s.blower ∧
    (noteDiverged q count diff s).filter = s.filter ∧ (noteDiverged q count diff s).tally = s.tally ∧
    (noteDiverged q count diff s).journal = s.journal ∧ (noteDiverged q count diff s).flash = s.flash ∧
    (noteDiverged q count diff s).watch = s.watch ∧ (noteDiverged q count diff s).link = s.link ∧
    (noteDiverged q count diff s).freeCount = s.freeCount ∧ (noteDiverged q count diff s).pending = s.pending := by
  unfold noteDiverged
  try dsimp only
  (repeat' split) <;> simp

@[simp] theorem noteSaturated_keeps (q : Quantity) (lo hi v : Int) (s : State) :
    (noteSaturated q lo hi v s).est = s.est ∧ (noteSaturated q lo hi v s).policy = s.policy ∧
    (noteSaturated q lo hi v s).tracker = s.tracker ∧ (noteSaturated q lo hi v s).channels = s.channels ∧
    (noteSaturated q lo hi v s).drive = s.drive ∧ (noteSaturated q lo hi v s).timers = s.timers ∧
    (noteSaturated q lo hi v s).uptime = s.uptime ∧ (noteSaturated q lo hi v s).secondMs = s.secondMs ∧
    (noteSaturated q lo hi v s).flap = s.flap ∧ (noteSaturated q lo hi v s).blower = s.blower ∧
    (noteSaturated q lo hi v s).filter = s.filter ∧ (noteSaturated q lo hi v s).tally = s.tally ∧
    (noteSaturated q lo hi v s).journal = s.journal ∧ (noteSaturated q lo hi v s).flash = s.flash ∧
    (noteSaturated q lo hi v s).watch = s.watch ∧ (noteSaturated q lo hi v s).link = s.link ∧
    (noteSaturated q lo hi v s).freeCount = s.freeCount ∧ (noteSaturated q lo hi v s).pending = s.pending := by
  unfold noteSaturated
  try dsimp only
  (repeat' split) <;> simp

@[simp] theorem noteSuspect_keeps (n : Counts) (s : State) :
    (noteSuspect n s).est = s.est ∧ (noteSuspect n s).policy = s.policy ∧ (noteSuspect n s).tracker = s.tracker ∧
    (noteSuspect n s).channels = s.channels ∧ (noteSuspect n s).drive = s.drive ∧
    (noteSuspect n s).timers = s.timers ∧ (noteSuspect n s).uptime = s.uptime ∧
    (noteSuspect n s).secondMs = s.secondMs ∧ (noteSuspect n s).flap = s.flap ∧ (noteSuspect n s).blower = s.blower ∧
    (noteSuspect n s).tally = s.tally ∧ (noteSuspect n s).journal = s.journal ∧ (noteSuspect n s).flash = s.flash ∧
    (noteSuspect n s).watch = s.watch ∧ (noteSuspect n s).link = s.link ∧ (noteSuspect n s).freeCount = s.freeCount ∧
    (noteSuspect n s).pending = s.pending := by
  unfold noteSuspect
  try dsimp only
  (repeat' split) <;> simp

@[simp] theorem noteInputs_keeps (s : State) :
    (noteInputs s).est = s.est ∧ (noteInputs s).policy = s.policy ∧ (noteInputs s).tracker = s.tracker ∧
    (noteInputs s).channels = s.channels ∧ (noteInputs s).drive = s.drive ∧ (noteInputs s).timers = s.timers ∧
    (noteInputs s).uptime = s.uptime ∧ (noteInputs s).secondMs = s.secondMs ∧ (noteInputs s).flap = s.flap ∧
    (noteInputs s).blower = s.blower ∧ (noteInputs s).filter = s.filter ∧ (noteInputs s).tally = s.tally ∧
    (noteInputs s).journal = s.journal ∧ (noteInputs s).flash = s.flash ∧ (noteInputs s).watch = s.watch ∧
    (noteInputs s).link = s.link ∧ (noteInputs s).freeCount = s.freeCount ∧ (noteInputs s).pending = s.pending := by
  unfold noteInputs
  try dsimp only
  (repeat' split) <;> simp

@[simp] theorem noteDivergences_keeps (s t : State) :
    (noteDivergences s t).est = t.est ∧ (noteDivergences s t).policy = t.policy ∧
    (noteDivergences s t).tracker = t.tracker ∧ (noteDivergences s t).channels = t.channels ∧
    (noteDivergences s t).drive = t.drive ∧ (noteDivergences s t).timers = t.timers ∧
    (noteDivergences s t).uptime = t.uptime ∧ (noteDivergences s t).secondMs = t.secondMs ∧
    (noteDivergences s t).flap = t.flap ∧ (noteDivergences s t).blower = t.blower ∧
    (noteDivergences s t).tally = t.tally ∧ (noteDivergences s t).journal = t.journal ∧
    (noteDivergences s t).flash = t.flash ∧ (noteDivergences s t).watch = t.watch ∧
    (noteDivergences s t).link = t.link ∧ (noteDivergences s t).freeCount = t.freeCount ∧
    (noteDivergences s t).pending = t.pending := by
  unfold noteDivergences
  try dsimp only
  (repeat' split) <;> simp

@[simp] theorem noteSaturations_keeps (s t : State) :
    (noteSaturations s t).est = t.est ∧ (noteSaturations s t).policy = t.policy ∧
    (noteSaturations s t).tracker = t.tracker ∧ (noteSaturations s t).channels = t.channels ∧
    (noteSaturations s t).drive = t.drive ∧ (noteSaturations s t).timers = t.timers ∧
    (noteSaturations s t).uptime = t.uptime ∧ (noteSaturations s t).secondMs = t.secondMs ∧
    (noteSaturations s t).flap = t.flap ∧ (noteSaturations s t).blower = t.blower ∧
    (noteSaturations s t).filter = t.filter ∧ (noteSaturations s t).tally = t.tally ∧
    (noteSaturations s t).journal = t.journal ∧ (noteSaturations s t).flash = t.flash ∧
    (noteSaturations s t).watch = t.watch ∧ (noteSaturations s t).link = t.link ∧
    (noteSaturations s t).freeCount = t.freeCount ∧ (noteSaturations s t).pending = t.pending := by
  unfold noteSaturations
  try dsimp only
  (repeat' split) <;> simp

@[simp] theorem runStages_keeps (s : State) :
    (runStages s).policy = s.policy ∧ (runStages s).tracker = s.tracker ∧ (runStages s).channels = s.channels ∧
    (runStages s).drive = s.drive ∧ (runStages s).timers = s.timers ∧ (runStages s).uptime = s.uptime ∧
    (runStages s).secondMs = s.secondMs ∧ (runStages s).flap = s.flap ∧ (runStages s).blower = s.blower ∧
    (runStages s).tally = s.tally ∧ (runStages s).journal = s.journal ∧ (runStages s).flash = s.flash ∧
    (runStages s).watch = s.watch ∧ (runStages s).link = s.link ∧ (runStages s).freeCount = s.freeCount ∧
    (runStages s).pending = s.pending := by
  unfold runStages
  try dsimp only
  (repeat' split) <;> simp

@[simp] theorem deliverEstimates_keeps (s : State) :
    (deliverEstimates s).est = s.est ∧ (deliverEstimates s).policy = s.policy ∧
    (deliverEstimates s).tracker = s.tracker ∧ (deliverEstimates s).channels = s.channels ∧
    (deliverEstimates s).drive = s.drive ∧ (deliverEstimates s).timers = s.timers ∧
    (deliverEstimates s).uptime = s.uptime ∧ (deliverEstimates s).secondMs = s.secondMs ∧
    (deliverEstimates s).flap = s.flap ∧ (deliverEstimates s).blower = s.blower ∧
    (deliverEstimates s).filter = s.filter ∧ (deliverEstimates s).tally = s.tally ∧
    (deliverEstimates s).journal = s.journal ∧ (deliverEstimates s).flash = s.flash ∧
    (deliverEstimates s).link = s.link ∧ (deliverEstimates s).freeCount = s.freeCount ∧
    (deliverEstimates s).pending = s.pending := by
  unfold deliverEstimates
  try dsimp only
  (repeat' split) <;> simp

@[simp] theorem ckptFires_keeps (s : State) :
    (ckptFires s).est = s.est ∧ (ckptFires s).policy = s.policy ∧ (ckptFires s).tracker = s.tracker ∧
    (ckptFires s).channels = s.channels ∧ (ckptFires s).drive = s.drive ∧ (ckptFires s).uptime = s.uptime ∧
    (ckptFires s).secondMs = s.secondMs ∧ (ckptFires s).flap = s.flap ∧ (ckptFires s).blower = s.blower ∧
    (ckptFires s).filter = s.filter ∧ (ckptFires s).tally = s.tally ∧ (ckptFires s).flash = s.flash ∧
    (ckptFires s).watch = s.watch ∧ (ckptFires s).freeCount = s.freeCount ∧ (ckptFires s).pending = s.pending := by
  unfold ckptFires
  try dsimp only
  (repeat' split) <;> simp

@[simp] theorem ckptCounts_keeps (s : State) :
    (ckptCounts s).est = s.est ∧ (ckptCounts s).policy = s.policy ∧ (ckptCounts s).tracker = s.tracker ∧
    (ckptCounts s).channels = s.channels ∧ (ckptCounts s).drive = s.drive ∧ (ckptCounts s).uptime = s.uptime ∧
    (ckptCounts s).secondMs = s.secondMs ∧ (ckptCounts s).flap = s.flap ∧ (ckptCounts s).blower = s.blower ∧
    (ckptCounts s).filter = s.filter ∧ (ckptCounts s).tally = s.tally ∧ (ckptCounts s).flash = s.flash ∧
    (ckptCounts s).watch = s.watch ∧ (ckptCounts s).freeCount = s.freeCount ∧ (ckptCounts s).pending = s.pending := by
  unfold ckptCounts
  try dsimp only
  (repeat' split) <;> simp

@[simp] theorem completeUpdate_keeps (s : State) :
    (completeUpdate s).est = s.est ∧ (completeUpdate s).tracker = s.tracker ∧
    (completeUpdate s).channels = s.channels ∧ (completeUpdate s).drive = s.drive ∧
    (completeUpdate s).uptime = s.uptime ∧ (completeUpdate s).secondMs = s.secondMs ∧
    (completeUpdate s).flash = s.flash ∧ (completeUpdate s).freeCount = s.freeCount ∧
    (completeUpdate s).pending = s.pending := by
  unfold completeUpdate
  try dsimp only
  (repeat' split) <;> simp

@[simp] theorem estExpired_keeps (s : State) :
    (estExpired s).tracker = s.tracker ∧ (estExpired s).channels = s.channels ∧ (estExpired s).drive = s.drive ∧
    (estExpired s).uptime = s.uptime ∧ (estExpired s).secondMs = s.secondMs ∧ (estExpired s).flash = s.flash ∧
    (estExpired s).freeCount = s.freeCount ∧ (estExpired s).pending = s.pending := by
  unfold estExpired
  try dsimp only
  (repeat' split) <;> simp

@[simp] theorem decExpired_keeps (s : State) :
    (decExpired s).est = s.est ∧ (decExpired s).tracker = s.tracker ∧ (decExpired s).channels = s.channels ∧
    (decExpired s).drive = s.drive ∧ (decExpired s).uptime = s.uptime ∧ (decExpired s).secondMs = s.secondMs ∧
    (decExpired s).filter = s.filter ∧ (decExpired s).tally = s.tally ∧ (decExpired s).journal = s.journal ∧
    (decExpired s).flash = s.flash ∧ (decExpired s).watch = s.watch ∧ (decExpired s).link = s.link ∧
    (decExpired s).freeCount = s.freeCount ∧ (decExpired s).pending = s.pending := by
  unfold decExpired
  try dsimp only
  (repeat' split) <;> simp

@[simp] theorem ckptExpired_keeps (s : State) :
    (ckptExpired s).est = s.est ∧ (ckptExpired s).policy = s.policy ∧ (ckptExpired s).tracker = s.tracker ∧
    (ckptExpired s).channels = s.channels ∧ (ckptExpired s).drive = s.drive ∧ (ckptExpired s).uptime = s.uptime ∧
    (ckptExpired s).secondMs = s.secondMs ∧ (ckptExpired s).flap = s.flap ∧ (ckptExpired s).blower = s.blower ∧
    (ckptExpired s).filter = s.filter ∧ (ckptExpired s).tally = s.tally ∧ (ckptExpired s).flash = s.flash ∧
    (ckptExpired s).watch = s.watch ∧ (ckptExpired s).freeCount = s.freeCount ∧ (ckptExpired s).pending = s.pending := by
  unfold ckptExpired
  try dsimp only
  (repeat' split) <;> simp

/-! ### Requests -/

@[simp] theorem serveIdent_keeps (interval : Option Word16) (s : State) :
    (serveIdent interval s).est = s.est ∧ (serveIdent interval s).policy = s.policy ∧
    (serveIdent interval s).tracker = s.tracker ∧ (serveIdent interval s).channels = s.channels ∧
    (serveIdent interval s).drive = s.drive ∧ (serveIdent interval s).timers = s.timers ∧
    (serveIdent interval s).uptime = s.uptime ∧ (serveIdent interval s).secondMs = s.secondMs ∧
    (serveIdent interval s).flap = s.flap ∧ (serveIdent interval s).blower = s.blower ∧
    (serveIdent interval s).filter = s.filter ∧ (serveIdent interval s).tally = s.tally ∧
    (serveIdent interval s).flash = s.flash ∧ (serveIdent interval s).watch = s.watch ∧
    (serveIdent interval s).notices = s.notices ∧ (serveIdent interval s).freeCount = s.freeCount ∧
    (serveIdent interval s).pending = s.pending := by
  unfold serveIdent
  try dsimp only
  (repeat' split) <;> simp

@[simp] theorem storeCabin_keeps (c : CabinSettings) (drv krb : Polarity) (s : State) :
    (storeCabin c drv krb s).policy = s.policy ∧ (storeCabin c drv krb s).tracker = s.tracker ∧
    (storeCabin c drv krb s).channels = s.channels ∧ (storeCabin c drv krb s).timers = s.timers ∧
    (storeCabin c drv krb s).uptime = s.uptime ∧ (storeCabin c drv krb s).secondMs = s.secondMs ∧
    (storeCabin c drv krb s).flap = s.flap ∧ (storeCabin c drv krb s).blower = s.blower ∧
    (storeCabin c drv krb s).filter = s.filter ∧ (storeCabin c drv krb s).tally = s.tally ∧
    (storeCabin c drv krb s).journal = s.journal ∧ (storeCabin c drv krb s).flash = s.flash ∧
    (storeCabin c drv krb s).watch = s.watch ∧ (storeCabin c drv krb s).notices = s.notices ∧
    (storeCabin c drv krb s).link = s.link ∧ (storeCabin c drv krb s).freeCount = s.freeCount ∧
    (storeCabin c drv krb s).pending = s.pending := by
  unfold storeCabin
  try dsimp only
  (repeat' split) <;> simp

@[simp] theorem cabinEffects_keeps (order : Nat) (s : State) :
    (cabinEffects order s).est = s.est ∧ (cabinEffects order s).tracker = s.tracker ∧
    (cabinEffects order s).channels = s.channels ∧ (cabinEffects order s).uptime = s.uptime ∧
    (cabinEffects order s).secondMs = s.secondMs ∧ (cabinEffects order s).filter = s.filter ∧
    (cabinEffects order s).journal = s.journal ∧ (cabinEffects order s).flash = s.flash ∧
    (cabinEffects order s).watch = s.watch ∧ (cabinEffects order s).link = s.link ∧
    (cabinEffects order s).freeCount = s.freeCount ∧ (cabinEffects order s).pending = s.pending := by
  unfold cabinEffects
  try dsimp only
  (repeat' split) <;> simp

@[simp] theorem takeCabin_keeps (c : CabinSettings) (drv krb : Polarity) (s : State) :
    (takeCabin c drv krb s).tracker = s.tracker ∧ (takeCabin c drv krb s).channels = s.channels ∧
    (takeCabin c drv krb s).uptime = s.uptime ∧ (takeCabin c drv krb s).secondMs = s.secondMs ∧
    (takeCabin c drv krb s).filter = s.filter ∧ (takeCabin c drv krb s).journal = s.journal ∧
    (takeCabin c drv krb s).flash = s.flash ∧ (takeCabin c drv krb s).watch = s.watch ∧
    (takeCabin c drv krb s).link = s.link ∧ (takeCabin c drv krb s).pending = s.pending := by
  unfold takeCabin
  try dsimp only
  (repeat' split) <;> simp

@[simp] theorem serveCabin_keeps (f : CabinFields) (s : State) :
    (serveCabin f s).tracker = s.tracker ∧ (serveCabin f s).channels = s.channels ∧
    (serveCabin f s).uptime = s.uptime ∧ (serveCabin f s).secondMs = s.secondMs ∧
    (serveCabin f s).filter = s.filter ∧ (serveCabin f s).journal = s.journal ∧ (serveCabin f s).flash = s.flash ∧
    (serveCabin f s).watch = s.watch ∧ (serveCabin f s).pending = s.pending := by
  unfold serveCabin
  try dsimp only
  (repeat' split) <;> simp

@[simp] theorem storeLimits_keeps (l : Limits) (s : State) :
    (storeLimits l s).est = s.est ∧ (storeLimits l s).tracker = s.tracker ∧ (storeLimits l s).channels = s.channels ∧
    (storeLimits l s).drive = s.drive ∧ (storeLimits l s).uptime = s.uptime ∧
    (storeLimits l s).secondMs = s.secondMs ∧ (storeLimits l s).flap = s.flap ∧ (storeLimits l s).blower = s.blower ∧
    (storeLimits l s).filter = s.filter ∧ (storeLimits l s).tally = s.tally ∧ (storeLimits l s).journal = s.journal ∧
    (storeLimits l s).flash = s.flash ∧ (storeLimits l s).watch = s.watch ∧ (storeLimits l s).notices = s.notices ∧
    (storeLimits l s).link = s.link ∧ (storeLimits l s).freeCount = s.freeCount ∧
    (storeLimits l s).pending = s.pending := by
  unfold storeLimits
  try dsimp only
  (repeat' split) <;> simp

@[simp] theorem takeLimits_keeps (l : Limits) (s : State) :
    (takeLimits l s).est = s.est ∧ (takeLimits l s).tracker = s.tracker ∧ (takeLimits l s).channels = s.channels ∧
    (takeLimits l s).drive = s.drive ∧ (takeLimits l s).uptime = s.uptime ∧ (takeLimits l s).secondMs = s.secondMs ∧
    (takeLimits l s).filter = s.filter ∧ (takeLimits l s).tally = s.tally ∧ (takeLimits l s).journal = s.journal ∧
    (takeLimits l s).flash = s.flash ∧ (takeLimits l s).watch = s.watch ∧ (takeLimits l s).link = s.link ∧
    (takeLimits l s).freeCount = s.freeCount ∧ (takeLimits l s).pending = s.pending := by
  unfold takeLimits
  try dsimp only
  (repeat' split) <;> simp

@[simp] theorem serveLimits_keeps (f : LimitsFields) (s : State) :
    (serveLimits f s).est = s.est ∧ (serveLimits f s).tracker = s.tracker ∧ (serveLimits f s).channels = s.channels ∧
    (serveLimits f s).drive = s.drive ∧ (serveLimits f s).uptime = s.uptime ∧
    (serveLimits f s).secondMs = s.secondMs ∧ (serveLimits f s).filter = s.filter ∧
    (serveLimits f s).tally = s.tally ∧ (serveLimits f s).journal = s.journal ∧ (serveLimits f s).flash = s.flash ∧
    (serveLimits f s).watch = s.watch ∧ (serveLimits f s).freeCount = s.freeCount ∧
    (serveLimits f s).pending = s.pending := by
  unfold serveLimits
  try dsimp only
  (repeat' split) <;> simp

@[simp] theorem takeMode_keeps (m : PolicyMode) (s : State) :
    (takeMode m s).est = s.est ∧ (takeMode m s).tracker = s.tracker ∧ (takeMode m s).channels = s.channels ∧
    (takeMode m s).drive = s.drive ∧ (takeMode m s).timers = s.timers ∧ (takeMode m s).uptime = s.uptime ∧
    (takeMode m s).secondMs = s.secondMs ∧ (takeMode m s).filter = s.filter ∧ (takeMode m s).tally = s.tally ∧
    (takeMode m s).journal = s.journal ∧ (takeMode m s).flash = s.flash ∧ (takeMode m s).watch = s.watch ∧
    (takeMode m s).link = s.link ∧ (takeMode m s).freeCount = s.freeCount ∧ (takeMode m s).pending = s.pending := by
  unfold takeMode
  try dsimp only
  (repeat' split) <;> simp

@[simp] theorem serveMode_keeps (m : Byte) (s : State) :
    (serveMode m s).est = s.est ∧ (serveMode m s).tracker = s.tracker ∧ (serveMode m s).channels = s.channels ∧
    (serveMode m s).drive = s.drive ∧ (serveMode m s).timers = s.timers ∧ (serveMode m s).uptime = s.uptime ∧
    (serveMode m s).secondMs = s.secondMs ∧ (serveMode m s).filter = s.filter ∧ (serveMode m s).tally = s.tally ∧
    (serveMode m s).journal = s.journal ∧ (serveMode m s).flash = s.flash ∧ (serveMode m s).watch = s.watch ∧
    (serveMode m s).freeCount = s.freeCount ∧ (serveMode m s).pending = s.pending := by
  unfold serveMode
  try dsimp only
  (repeat' split) <;> simp

@[simp] theorem takeComfort_keeps (level : Nat) (s : State) :
    (takeComfort level s).est = s.est ∧ (takeComfort level s).tracker = s.tracker ∧
    (takeComfort level s).channels = s.channels ∧ (takeComfort level s).drive = s.drive ∧
    (takeComfort level s).timers = s.timers ∧ (takeComfort level s).uptime = s.uptime ∧
    (takeComfort level s).secondMs = s.secondMs ∧ (takeComfort level s).flap = s.flap ∧
    (takeComfort level s).filter = s.filter ∧ (takeComfort level s).tally = s.tally ∧
    (takeComfort level s).journal = s.journal ∧ (takeComfort level s).flash = s.flash ∧
    (takeComfort level s).watch = s.watch ∧ (takeComfort level s).link = s.link ∧
    (takeComfort level s).freeCount = s.freeCount ∧ (takeComfort level s).pending = s.pending := by
  unfold takeComfort
  try dsimp only
  (repeat' split) <;> simp

@[simp] theorem serveComfort_keeps (level : Byte) (s : State) :
    (serveComfort level s).est = s.est ∧ (serveComfort level s).tracker = s.tracker ∧
    (serveComfort level s).channels = s.channels ∧ (serveComfort level s).drive = s.drive ∧
    (serveComfort level s).timers = s.timers ∧ (serveComfort level s).uptime = s.uptime ∧
    (serveComfort level s).secondMs = s.secondMs ∧ (serveComfort level s).flap = s.flap ∧
    (serveComfort level s).filter = s.filter ∧ (serveComfort level s).tally = s.tally ∧
    (serveComfort level s).journal = s.journal ∧ (serveComfort level s).flash = s.flash ∧
    (serveComfort level s).watch = s.watch ∧ (serveComfort level s).freeCount = s.freeCount ∧
    (serveComfort level s).pending = s.pending := by
  unfold serveComfort
  try dsimp only
  (repeat' split) <;> simp

@[simp] theorem serveDrive_keeps (speed : Word16) (engine : Byte) (s : State) :
    (serveDrive speed engine s).tracker = s.tracker ∧ (serveDrive speed engine s).channels = s.channels ∧
    (serveDrive speed engine s).uptime = s.uptime ∧ (serveDrive speed engine s).secondMs = s.secondMs ∧
    (serveDrive speed engine s).filter = s.filter ∧ (serveDrive speed engine s).journal = s.journal ∧
    (serveDrive speed engine s).flash = s.flash ∧ (serveDrive speed engine s).freeCount = s.freeCount ∧
    (serveDrive speed engine s).pending = s.pending := by
  unfold serveDrive
  try dsimp only
  (repeat' split) <;> simp

@[simp] theorem serveChannel_keeps (f : ChannelFields) (s : State) :
    (serveChannel f s).drive = s.drive ∧ (serveChannel f s).uptime = s.uptime ∧
    (serveChannel f s).secondMs = s.secondMs ∧ (serveChannel f s).filter = s.filter ∧
    (serveChannel f s).tally = s.tally ∧ (serveChannel f s).journal = s.journal ∧
    (serveChannel f s).flash = s.flash ∧ (serveChannel f s).freeCount = s.freeCount ∧
    (serveChannel f s).pending = s.pending := by
  unfold serveChannel
  try dsimp only
  (repeat' split) <;> simp

@[simp] theorem storeDetector_keeps (d : DetectorId) (x : DetectorSettings) (s : State) :
    (storeDetector d x s).est = s.est ∧ (storeDetector d x s).policy = s.policy ∧
    (storeDetector d x s).channels = s.channels ∧ (storeDetector d x s).drive = s.drive ∧
    (storeDetector d x s).timers = s.timers ∧ (storeDetector d x s).uptime = s.uptime ∧
    (storeDetector d x s).secondMs = s.secondMs ∧ (storeDetector d x s).flap = s.flap ∧
    (storeDetector d x s).blower = s.blower ∧ (storeDetector d x s).filter = s.filter ∧
    (storeDetector d x s).tally = s.tally ∧ (storeDetector d x s).journal = s.journal ∧
    (storeDetector d x s).flash = s.flash ∧ (storeDetector d x s).watch = s.watch ∧
    (storeDetector d x s).notices = s.notices ∧ (storeDetector d x s).link = s.link ∧
    (storeDetector d x s).freeCount = s.freeCount ∧ (storeDetector d x s).pending = s.pending := by
  unfold storeDetector
  try dsimp only
  (repeat' split) <;> simp

@[simp] theorem serveDetector_keeps (f : DetectorFields) (s : State) :
    (serveDetector f s).est = s.est ∧ (serveDetector f s).policy = s.policy ∧
    (serveDetector f s).channels = s.channels ∧ (serveDetector f s).drive = s.drive ∧
    (serveDetector f s).timers = s.timers ∧ (serveDetector f s).uptime = s.uptime ∧
    (serveDetector f s).secondMs = s.secondMs ∧ (serveDetector f s).flap = s.flap ∧
    (serveDetector f s).blower = s.blower ∧ (serveDetector f s).filter = s.filter ∧
    (serveDetector f s).tally = s.tally ∧ (serveDetector f s).journal = s.journal ∧
    (serveDetector f s).flash = s.flash ∧ (serveDetector f s).watch = s.watch ∧
    (serveDetector f s).notices = s.notices ∧ (serveDetector f s).freeCount = s.freeCount ∧
    (serveDetector f s).pending = s.pending := by
  unfold serveDetector
  try dsimp only
  (repeat' split) <;> simp

@[simp] theorem serveActuator_keeps (f : ActuatorFields) (s : State) :
    (serveActuator f s).est = s.est ∧ (serveActuator f s).policy = s.policy ∧
    (serveActuator f s).tracker = s.tracker ∧ (serveActuator f s).channels = s.channels ∧
    (serveActuator f s).drive = s.drive ∧ (serveActuator f s).timers = s.timers ∧
    (serveActuator f s).uptime = s.uptime ∧ (serveActuator f s).secondMs = s.secondMs ∧
    (serveActuator f s).blower = s.blower ∧ (serveActuator f s).filter = s.filter ∧
    (serveActuator f s).tally = s.tally ∧ (serveActuator f s).journal = s.journal ∧
    (serveActuator f s).flash = s.flash ∧ (serveActuator f s).watch = s.watch ∧
    (serveActuator f s).notices = s.notices ∧ (serveActuator f s).freeCount = s.freeCount ∧
    (serveActuator f s).pending = s.pending := by
  unfold serveActuator
  try dsimp only
  (repeat' split) <;> simp

@[simp] theorem serveFlapRecover_keeps (s : State) :
    (serveFlapRecover s).est = s.est ∧ (serveFlapRecover s).policy = s.policy ∧
    (serveFlapRecover s).tracker = s.tracker ∧ (serveFlapRecover s).channels = s.channels ∧
    (serveFlapRecover s).drive = s.drive ∧ (serveFlapRecover s).timers = s.timers ∧
    (serveFlapRecover s).uptime = s.uptime ∧ (serveFlapRecover s).secondMs = s.secondMs ∧
    (serveFlapRecover s).blower = s.blower ∧ (serveFlapRecover s).filter = s.filter ∧
    (serveFlapRecover s).tally = s.tally ∧ (serveFlapRecover s).journal = s.journal ∧
    (serveFlapRecover s).flash = s.flash ∧ (serveFlapRecover s).watch = s.watch ∧
    (serveFlapRecover s).freeCount = s.freeCount ∧ (serveFlapRecover s).pending = s.pending := by
  unfold serveFlapRecover
  try dsimp only
  (repeat' split) <;> simp

@[simp] theorem serveFilterFit_keeps (f : FilterFitFields) (s : State) :
    (serveFilterFit f s).est = s.est ∧ (serveFilterFit f s).policy = s.policy ∧
    (serveFilterFit f s).tracker = s.tracker ∧ (serveFilterFit f s).channels = s.channels ∧
    (serveFilterFit f s).drive = s.drive ∧ (serveFilterFit f s).timers = s.timers ∧
    (serveFilterFit f s).uptime = s.uptime ∧ (serveFilterFit f s).secondMs = s.secondMs ∧
    (serveFilterFit f s).flap = s.flap ∧ (serveFilterFit f s).blower = s.blower ∧
    (serveFilterFit f s).tally = s.tally ∧ (serveFilterFit f s).flash = s.flash ∧
    (serveFilterFit f s).watch = s.watch ∧ (serveFilterFit f s).freeCount = s.freeCount ∧
    (serveFilterFit f s).pending = s.pending := by
  unfold serveFilterFit
  try dsimp only
  (repeat' split) <;> simp

@[simp] theorem serveFilterRead_keeps (s : State) :
    (serveFilterRead s).est = s.est ∧ (serveFilterRead s).policy = s.policy ∧
    (serveFilterRead s).tracker = s.tracker ∧ (serveFilterRead s).channels = s.channels ∧
    (serveFilterRead s).drive = s.drive ∧ (serveFilterRead s).timers = s.timers ∧
    (serveFilterRead s).uptime = s.uptime ∧ (serveFilterRead s).secondMs = s.secondMs ∧
    (serveFilterRead s).flap = s.flap ∧ (serveFilterRead s).blower = s.blower ∧
    (serveFilterRead s).filter = s.filter ∧ (serveFilterRead s).tally = s.tally ∧
    (serveFilterRead s).journal = s.journal ∧ (serveFilterRead s).flash = s.flash ∧
    (serveFilterRead s).watch = s.watch ∧ (serveFilterRead s).notices = s.notices ∧
    (serveFilterRead s).freeCount = s.freeCount ∧ (serveFilterRead s).pending = s.pending := by
  unfold serveFilterRead
  try dsimp only
  (repeat' split) <;> simp

@[simp] theorem serveWatchSet_keeps (f : WatchSetFields) (s : State) :
    (serveWatchSet f s).est = s.est ∧ (serveWatchSet f s).policy = s.policy ∧
    (serveWatchSet f s).tracker = s.tracker ∧ (serveWatchSet f s).channels = s.channels ∧
    (serveWatchSet f s).drive = s.drive ∧ (serveWatchSet f s).timers = s.timers ∧
    (serveWatchSet f s).uptime = s.uptime ∧ (serveWatchSet f s).secondMs = s.secondMs ∧
    (serveWatchSet f s).flap = s.flap ∧ (serveWatchSet f s).blower = s.blower ∧
    (serveWatchSet f s).filter = s.filter ∧ (serveWatchSet f s).tally = s.tally ∧
    (serveWatchSet f s).journal = s.journal ∧ (serveWatchSet f s).flash = s.flash ∧
    (serveWatchSet f s).freeCount = s.freeCount ∧ (serveWatchSet f s).pending = s.pending := by
  unfold serveWatchSet
  try dsimp only
  (repeat' split) <;> simp

@[simp] theorem serveWatchRead_keeps (s : State) :
    (serveWatchRead s).est = s.est ∧ (serveWatchRead s).policy = s.policy ∧ (serveWatchRead s).tracker = s.tracker ∧
    (serveWatchRead s).channels = s.channels ∧ (serveWatchRead s).drive = s.drive ∧
    (serveWatchRead s).timers = s.timers ∧ (serveWatchRead s).uptime = s.uptime ∧
    (serveWatchRead s).secondMs = s.secondMs ∧ (serveWatchRead s).flap = s.flap ∧
    (serveWatchRead s).blower = s.blower ∧ (serveWatchRead s).filter = s.filter ∧
    (serveWatchRead s).tally = s.tally ∧ (serveWatchRead s).journal = s.journal ∧
    (serveWatchRead s).flash = s.flash ∧ (serveWatchRead s).watch = s.watch ∧
    (serveWatchRead s).notices = s.notices ∧ (serveWatchRead s).freeCount = s.freeCount ∧
    (serveWatchRead s).pending = s.pending := by
  unfold serveWatchRead
  try dsimp only
  (repeat' split) <;> simp

@[simp] theorem clearSlots_keeps (l : List SlotNumber) (s : State) :
    (clearSlots l s).est = s.est ∧ (clearSlots l s).policy = s.policy ∧ (clearSlots l s).tracker = s.tracker ∧
    (clearSlots l s).channels = s.channels ∧ (clearSlots l s).drive = s.drive ∧ (clearSlots l s).timers = s.timers ∧
    (clearSlots l s).uptime = s.uptime ∧ (clearSlots l s).secondMs = s.secondMs ∧ (clearSlots l s).flap = s.flap ∧
    (clearSlots l s).blower = s.blower ∧ (clearSlots l s).filter = s.filter ∧ (clearSlots l s).tally = s.tally ∧
    (clearSlots l s).journal = s.journal ∧ (clearSlots l s).flash = s.flash ∧ (clearSlots l s).link = s.link ∧
    (clearSlots l s).freeCount = s.freeCount ∧ (clearSlots l s).pending = s.pending := by
  unfold clearSlots
  induction l generalizing s with
  | nil => simp
  | cons x l ih => simp [ih]

@[simp] theorem serveWatchClear_keeps (slots : Byte) (s : State) :
    (serveWatchClear slots s).est = s.est ∧ (serveWatchClear slots s).policy = s.policy ∧
    (serveWatchClear slots s).tracker = s.tracker ∧ (serveWatchClear slots s).channels = s.channels ∧
    (serveWatchClear slots s).drive = s.drive ∧ (serveWatchClear slots s).timers = s.timers ∧
    (serveWatchClear slots s).uptime = s.uptime ∧ (serveWatchClear slots s).secondMs = s.secondMs ∧
    (serveWatchClear slots s).flap = s.flap ∧ (serveWatchClear slots s).blower = s.blower ∧
    (serveWatchClear slots s).filter = s.filter ∧ (serveWatchClear slots s).tally = s.tally ∧
    (serveWatchClear slots s).journal = s.journal ∧ (serveWatchClear slots s).flash = s.flash ∧
    (serveWatchClear slots s).freeCount = s.freeCount ∧ (serveWatchClear slots s).pending = s.pending := by
  unfold serveWatchClear
  try dsimp only
  (repeat' split) <;> simp

@[simp] theorem fetchNotice_keeps (includeMasked : Bool) (s : State) :
    (fetchNotice includeMasked s).est = s.est ∧ (fetchNotice includeMasked s).policy = s.policy ∧
    (fetchNotice includeMasked s).tracker = s.tracker ∧ (fetchNotice includeMasked s).channels = s.channels ∧
    (fetchNotice includeMasked s).drive = s.drive ∧ (fetchNotice includeMasked s).timers = s.timers ∧
    (fetchNotice includeMasked s).uptime = s.uptime ∧ (fetchNotice includeMasked s).secondMs = s.secondMs ∧
    (fetchNotice includeMasked s).flap = s.flap ∧ (fetchNotice includeMasked s).blower = s.blower ∧
    (fetchNotice includeMasked s).filter = s.filter ∧ (fetchNotice includeMasked s).tally = s.tally ∧
    (fetchNotice includeMasked s).journal = s.journal ∧ (fetchNotice includeMasked s).flash = s.flash ∧
    (fetchNotice includeMasked s).watch = s.watch ∧ (fetchNotice includeMasked s).freeCount = s.freeCount ∧
    (fetchNotice includeMasked s).pending = s.pending := by
  unfold fetchNotice
  try dsimp only
  (repeat' split) <;> simp

@[simp] theorem serveNoticeFetch_keeps (includeMasked : Byte) (s : State) :
    (serveNoticeFetch includeMasked s).est = s.est ∧ (serveNoticeFetch includeMasked s).policy = s.policy ∧
    (serveNoticeFetch includeMasked s).tracker = s.tracker ∧
    (serveNoticeFetch includeMasked s).channels = s.channels ∧ (serveNoticeFetch includeMasked s).drive = s.drive ∧
    (serveNoticeFetch includeMasked s).timers = s.timers ∧ (serveNoticeFetch includeMasked s).uptime = s.uptime ∧
    (serveNoticeFetch includeMasked s).secondMs = s.secondMs ∧ (serveNoticeFetch includeMasked s).flap = s.flap ∧
    (serveNoticeFetch includeMasked s).blower = s.blower ∧ (serveNoticeFetch includeMasked s).filter = s.filter ∧
    (serveNoticeFetch includeMasked s).tally = s.tally ∧ (serveNoticeFetch includeMasked s).journal = s.journal ∧
    (serveNoticeFetch includeMasked s).flash = s.flash ∧ (serveNoticeFetch includeMasked s).watch = s.watch ∧
    (serveNoticeFetch includeMasked s).freeCount = s.freeCount ∧
    (serveNoticeFetch includeMasked s).pending = s.pending := by
  unfold serveNoticeFetch
  try dsimp only
  (repeat' split) <;> simp

@[simp] theorem serveNoticeMask_keeps (kinds : Word16) (s : State) :
    (serveNoticeMask kinds s).est = s.est ∧ (serveNoticeMask kinds s).policy = s.policy ∧
    (serveNoticeMask kinds s).tracker = s.tracker ∧ (serveNoticeMask kinds s).channels = s.channels ∧
    (serveNoticeMask kinds s).drive = s.drive ∧ (serveNoticeMask kinds s).timers = s.timers ∧
    (serveNoticeMask kinds s).uptime = s.uptime ∧ (serveNoticeMask kinds s).secondMs = s.secondMs ∧
    (serveNoticeMask kinds s).flap = s.flap ∧ (serveNoticeMask kinds s).blower = s.blower ∧
    (serveNoticeMask kinds s).filter = s.filter ∧ (serveNoticeMask kinds s).tally = s.tally ∧
    (serveNoticeMask kinds s).journal = s.journal ∧ (serveNoticeMask kinds s).flash = s.flash ∧
    (serveNoticeMask kinds s).watch = s.watch ∧ (serveNoticeMask kinds s).freeCount = s.freeCount ∧
    (serveNoticeMask kinds s).pending = s.pending := by
  unfold serveNoticeMask
  try dsimp only
  (repeat' split) <;> simp

@[simp] theorem maskConditions_keeps (masks : Option Byte) (s : State) :
    (maskConditions masks s).est = s.est ∧ (maskConditions masks s).policy = s.policy ∧
    (maskConditions masks s).tracker = s.tracker ∧ (maskConditions masks s).channels = s.channels ∧
    (maskConditions masks s).drive = s.drive ∧ (maskConditions masks s).timers = s.timers ∧
    (maskConditions masks s).uptime = s.uptime ∧ (maskConditions masks s).secondMs = s.secondMs ∧
    (maskConditions masks s).flap = s.flap ∧ (maskConditions masks s).blower = s.blower ∧
    (maskConditions masks s).filter = s.filter ∧ (maskConditions masks s).tally = s.tally ∧
    (maskConditions masks s).journal = s.journal ∧ (maskConditions masks s).flash = s.flash ∧
    (maskConditions masks s).watch = s.watch ∧ (maskConditions masks s).link = s.link ∧
    (maskConditions masks s).freeCount = s.freeCount ∧ (maskConditions masks s).pending = s.pending := by
  unfold maskConditions
  try dsimp only
  (repeat' split) <;> simp

@[simp] theorem clearConditions_keeps (clear : Bool) (s : State) :
    (clearConditions clear s).est = s.est ∧ (clearConditions clear s).policy = s.policy ∧
    (clearConditions clear s).tracker = s.tracker ∧ (clearConditions clear s).channels = s.channels ∧
    (clearConditions clear s).drive = s.drive ∧ (clearConditions clear s).timers = s.timers ∧
    (clearConditions clear s).uptime = s.uptime ∧ (clearConditions clear s).secondMs = s.secondMs ∧
    (clearConditions clear s).flap = s.flap ∧ (clearConditions clear s).blower = s.blower ∧
    (clearConditions clear s).filter = s.filter ∧ (clearConditions clear s).tally = s.tally ∧
    (clearConditions clear s).journal = s.journal ∧ (clearConditions clear s).flash = s.flash ∧
    (clearConditions clear s).watch = s.watch ∧ (clearConditions clear s).link = s.link ∧
    (clearConditions clear s).freeCount = s.freeCount ∧ (clearConditions clear s).pending = s.pending := by
  unfold clearConditions
  try dsimp only
  (repeat' split) <;> simp

@[simp] theorem serveConditions_keeps (clear : Byte) (masks : Option Byte) (s : State) :
    (serveConditions clear masks s).est = s.est ∧ (serveConditions clear masks s).policy = s.policy ∧
    (serveConditions clear masks s).tracker = s.tracker ∧ (serveConditions clear masks s).channels = s.channels ∧
    (serveConditions clear masks s).drive = s.drive ∧ (serveConditions clear masks s).timers = s.timers ∧
    (serveConditions clear masks s).uptime = s.uptime ∧ (serveConditions clear masks s).secondMs = s.secondMs ∧
    (serveConditions clear masks s).flap = s.flap ∧ (serveConditions clear masks s).blower = s.blower ∧
    (serveConditions clear masks s).filter = s.filter ∧ (serveConditions clear masks s).tally = s.tally ∧
    (serveConditions clear masks s).journal = s.journal ∧ (serveConditions clear masks s).flash = s.flash ∧
    (serveConditions clear masks s).watch = s.watch ∧ (serveConditions clear masks s).freeCount = s.freeCount ∧
    (serveConditions clear masks s).pending = s.pending := by
  unfold serveConditions
  try dsimp only
  (repeat' split) <;> simp

@[simp] theorem serveState_keeps (s : State) :
    (serveState s).est = s.est ∧ (serveState s).policy = s.policy ∧ (serveState s).tracker = s.tracker ∧
    (serveState s).channels = s.channels ∧ (serveState s).drive = s.drive ∧ (serveState s).timers = s.timers ∧
    (serveState s).uptime = s.uptime ∧ (serveState s).secondMs = s.secondMs ∧ (serveState s).flap = s.flap ∧
    (serveState s).blower = s.blower ∧ (serveState s).filter = s.filter ∧ (serveState s).tally = s.tally ∧
    (serveState s).journal = s.journal ∧ (serveState s).flash = s.flash ∧ (serveState s).watch = s.watch ∧
    (serveState s).notices = s.notices ∧ (serveState s).freeCount = s.freeCount ∧
    (serveState s).pending = s.pending := by
  unfold serveState
  try dsimp only
  (repeat' split) <;> simp

@[simp] theorem serveChannels_keeps (s : State) :
    (serveChannels s).est = s.est ∧ (serveChannels s).policy = s.policy ∧ (serveChannels s).tracker = s.tracker ∧
    (serveChannels s).channels = s.channels ∧ (serveChannels s).drive = s.drive ∧
    (serveChannels s).timers = s.timers ∧ (serveChannels s).uptime = s.uptime ∧
    (serveChannels s).secondMs = s.secondMs ∧ (serveChannels s).flap = s.flap ∧ (serveChannels s).blower = s.blower ∧
    (serveChannels s).filter = s.filter ∧ (serveChannels s).tally = s.tally ∧ (serveChannels s).journal = s.journal ∧
    (serveChannels s).flash = s.flash ∧ (serveChannels s).watch = s.watch ∧ (serveChannels s).notices = s.notices ∧
    (serveChannels s).freeCount = s.freeCount ∧ (serveChannels s).pending = s.pending := by
  unfold serveChannels
  try dsimp only
  (repeat' split) <;> simp

@[simp] theorem serveEpisodes_keeps (fromNumber : Word16) (s : State) :
    (serveEpisodes fromNumber s).est = s.est ∧ (serveEpisodes fromNumber s).policy = s.policy ∧
    (serveEpisodes fromNumber s).tracker = s.tracker ∧ (serveEpisodes fromNumber s).channels = s.channels ∧
    (serveEpisodes fromNumber s).drive = s.drive ∧ (serveEpisodes fromNumber s).timers = s.timers ∧
    (serveEpisodes fromNumber s).uptime = s.uptime ∧ (serveEpisodes fromNumber s).secondMs = s.secondMs ∧
    (serveEpisodes fromNumber s).flap = s.flap ∧ (serveEpisodes fromNumber s).blower = s.blower ∧
    (serveEpisodes fromNumber s).filter = s.filter ∧ (serveEpisodes fromNumber s).tally = s.tally ∧
    (serveEpisodes fromNumber s).journal = s.journal ∧ (serveEpisodes fromNumber s).flash = s.flash ∧
    (serveEpisodes fromNumber s).watch = s.watch ∧ (serveEpisodes fromNumber s).notices = s.notices ∧
    (serveEpisodes fromNumber s).freeCount = s.freeCount ∧ (serveEpisodes fromNumber s).pending = s.pending := by
  unfold serveEpisodes
  try dsimp only
  (repeat' split) <;> simp

@[simp] theorem shiftStart_keeps (s : State) :
    (shiftStart s).est = s.est ∧ (shiftStart s).policy = s.policy ∧ (shiftStart s).tracker = s.tracker ∧
    (shiftStart s).channels = s.channels ∧ (shiftStart s).drive = s.drive ∧ (shiftStart s).timers = s.timers ∧
    (shiftStart s).uptime = s.uptime ∧ (shiftStart s).secondMs = s.secondMs ∧ (shiftStart s).flap = s.flap ∧
    (shiftStart s).blower = s.blower ∧ (shiftStart s).filter = s.filter ∧ (shiftStart s).journal = s.journal ∧
    (shiftStart s).flash = s.flash ∧ (shiftStart s).watch = s.watch ∧ (shiftStart s).notices = s.notices ∧
    (shiftStart s).freeCount = s.freeCount ∧ (shiftStart s).pending = s.pending := by
  unfold shiftStart
  try dsimp only
  (repeat' split) <;> simp

@[simp] theorem shiftEnd_keeps (s : State) :
    (shiftEnd s).est = s.est ∧ (shiftEnd s).policy = s.policy ∧ (shiftEnd s).tracker = s.tracker ∧
    (shiftEnd s).channels = s.channels ∧ (shiftEnd s).drive = s.drive ∧ (shiftEnd s).timers = s.timers ∧
    (shiftEnd s).uptime = s.uptime ∧ (shiftEnd s).secondMs = s.secondMs ∧ (shiftEnd s).flap = s.flap ∧
    (shiftEnd s).blower = s.blower ∧ (shiftEnd s).filter = s.filter ∧ (shiftEnd s).journal = s.journal ∧
    (shiftEnd s).flash = s.flash ∧ (shiftEnd s).watch = s.watch ∧ (shiftEnd s).notices = s.notices ∧
    (shiftEnd s).freeCount = s.freeCount ∧ (shiftEnd s).pending = s.pending := by
  unfold shiftEnd
  try dsimp only
  (repeat' split) <;> simp

@[simp] theorem shiftRead_keeps (s : State) :
    (shiftRead s).est = s.est ∧ (shiftRead s).policy = s.policy ∧ (shiftRead s).tracker = s.tracker ∧
    (shiftRead s).channels = s.channels ∧ (shiftRead s).drive = s.drive ∧ (shiftRead s).timers = s.timers ∧
    (shiftRead s).uptime = s.uptime ∧ (shiftRead s).secondMs = s.secondMs ∧ (shiftRead s).flap = s.flap ∧
    (shiftRead s).blower = s.blower ∧ (shiftRead s).filter = s.filter ∧ (shiftRead s).tally = s.tally ∧
    (shiftRead s).journal = s.journal ∧ (shiftRead s).flash = s.flash ∧ (shiftRead s).watch = s.watch ∧
    (shiftRead s).notices = s.notices ∧ (shiftRead s).freeCount = s.freeCount ∧ (shiftRead s).pending = s.pending := by
  unfold shiftRead
  try dsimp only
  (repeat' split) <;> simp

@[simp] theorem serveShift_keeps (action : Byte) (s : State) :
    (serveShift action s).est = s.est ∧ (serveShift action s).policy = s.policy ∧
    (serveShift action s).tracker = s.tracker ∧ (serveShift action s).channels = s.channels ∧
    (serveShift action s).drive = s.drive ∧ (serveShift action s).timers = s.timers ∧
    (serveShift action s).uptime = s.uptime ∧ (serveShift action s).secondMs = s.secondMs ∧
    (serveShift action s).flap = s.flap ∧ (serveShift action s).blower = s.blower ∧
    (serveShift action s).filter = s.filter ∧ (serveShift action s).journal = s.journal ∧
    (serveShift action s).flash = s.flash ∧ (serveShift action s).watch = s.watch ∧
    (serveShift action s).notices = s.notices ∧ (serveShift action s).freeCount = s.freeCount ∧
    (serveShift action s).pending = s.pending := by
  unfold serveShift
  try dsimp only
  (repeat' split) <;> simp

@[simp] theorem servePark_keeps (s : State) :
    (servePark s).est = s.est ∧ (servePark s).tracker = s.tracker ∧ (servePark s).channels = s.channels ∧
    (servePark s).uptime = s.uptime ∧ (servePark s).secondMs = s.secondMs ∧ (servePark s).filter = s.filter ∧
    (servePark s).tally = s.tally ∧ (servePark s).flash = s.flash ∧ (servePark s).watch = s.watch ∧
    (servePark s).freeCount = s.freeCount ∧ (servePark s).pending = s.pending := by
  unfold servePark
  try dsimp only
  (repeat' split) <;> simp

@[simp] theorem serveWake_keeps (s : State) :
    (serveWake s).tracker = s.tracker ∧ (serveWake s).channels = s.channels ∧ (serveWake s).uptime = s.uptime ∧
    (serveWake s).secondMs = s.secondMs ∧ (serveWake s).filter = s.filter ∧ (serveWake s).journal = s.journal ∧
    (serveWake s).flash = s.flash ∧ (serveWake s).freeCount = s.freeCount ∧ (serveWake s).pending = s.pending := by
  unfold serveWake
  try dsimp only
  (repeat' split) <;> simp

@[simp] theorem serveRestart_keeps (s : State) :
    (serveRestart s).est = s.est ∧ (serveRestart s).policy = s.policy ∧ (serveRestart s).tracker = s.tracker ∧
    (serveRestart s).channels = s.channels ∧ (serveRestart s).drive = s.drive ∧ (serveRestart s).timers = s.timers ∧
    (serveRestart s).uptime = s.uptime ∧ (serveRestart s).secondMs = s.secondMs ∧ (serveRestart s).flap = s.flap ∧
    (serveRestart s).blower = s.blower ∧ (serveRestart s).filter = s.filter ∧ (serveRestart s).tally = s.tally ∧
    (serveRestart s).flash = s.flash ∧ (serveRestart s).watch = s.watch ∧ (serveRestart s).notices = s.notices ∧
    (serveRestart s).freeCount = s.freeCount ∧ (serveRestart s).pending = s.pending := by
  unfold serveRestart
  try dsimp only
  (repeat' split) <;> simp

@[simp] theorem serveRequest_keeps (r : Request) (s : State) :
    (serveRequest r s).uptime = s.uptime ∧ (serveRequest r s).secondMs = s.secondMs ∧
    (serveRequest r s).flash = s.flash ∧ (serveRequest r s).pending = s.pending := by
  unfold serveRequest
  try dsimp only
  (repeat' split) <;> simp

/-! ### Reset -/

@[simp] theorem standingLines_keeps (s : State) :
    (standingLines s).est = s.est ∧ (standingLines s).policy = s.policy ∧ (standingLines s).tracker = s.tracker ∧
    (standingLines s).channels = s.channels ∧ (standingLines s).drive = s.drive ∧
    (standingLines s).timers = s.timers ∧ (standingLines s).uptime = s.uptime ∧
    (standingLines s).secondMs = s.secondMs ∧ (standingLines s).filter = s.filter ∧
    (standingLines s).tally = s.tally ∧ (standingLines s).journal = s.journal ∧ (standingLines s).flash = s.flash ∧
    (standingLines s).watch = s.watch ∧ (standingLines s).link = s.link ∧ (standingLines s).freeCount = s.freeCount ∧
    (standingLines s).pending = s.pending := by
  unfold standingLines
  try dsimp only
  (repeat' split) <;> simp

@[simp] theorem resetModule_keeps (kind : ResetKind) (lines : ResetLines) (flash : Flash) (s : State) :
    (resetModule kind lines flash s).freeCount = s.freeCount ∧ (resetModule kind lines flash s).pending = s.pending := by
  unfold resetModule
  simp [State.resetWith]

@[simp] theorem powerOn_keeps (lines : ResetLines) (cut : List SlotOutcome) (s : State) :
    (powerOn lines cut s).freeCount = s.freeCount ∧ (powerOn lines cut s).pending = s.pending := by
  unfold powerOn
  try dsimp only
  (repeat' split) <;> simp

@[simp] theorem restartReset_keeps (s : State) :
    (restartReset s).freeCount = s.freeCount ∧ (restartReset s).pending = s.pending := by
  unfold restartReset
  try dsimp only
  (repeat' split) <;> simp

/-! ### Link -/

@[simp] theorem serveHead_keeps (s : State) :
    (serveHead s).uptime = s.uptime ∧ (serveHead s).secondMs = s.secondMs ∧ (serveHead s).flash = s.flash ∧
    (serveHead s).pending = s.pending := by
  unfold serveHead
  try dsimp only
  (repeat' split) <;> simp

@[simp] theorem joinQueue_keeps (r : Request) (s : State) :
    (joinQueue r s).uptime = s.uptime ∧ (joinQueue r s).secondMs = s.secondMs ∧ (joinQueue r s).flash = s.flash ∧
    (joinQueue r s).pending = s.pending := by
  unfold joinQueue
  try dsimp only
  (repeat' split) <;> simp

@[simp] theorem deliverFrame_keeps (r : Request) (s : State) :
    (deliverFrame r s).uptime = s.uptime ∧ (deliverFrame r s).secondMs = s.secondMs ∧
    (deliverFrame r s).flash = s.flash ∧ (deliverFrame r s).pending = s.pending := by
  unfold deliverFrame
  try dsimp only
  (repeat' split) <;> simp

@[simp] theorem receiverTo_keeps (x : Receiver) (s : State) :
    (receiverTo x s).est = s.est ∧ (receiverTo x s).policy = s.policy ∧ (receiverTo x s).tracker = s.tracker ∧
    (receiverTo x s).channels = s.channels ∧ (receiverTo x s).drive = s.drive ∧ (receiverTo x s).timers = s.timers ∧
    (receiverTo x s).uptime = s.uptime ∧ (receiverTo x s).secondMs = s.secondMs ∧ (receiverTo x s).flap = s.flap ∧
    (receiverTo x s).blower = s.blower ∧ (receiverTo x s).filter = s.filter ∧ (receiverTo x s).tally = s.tally ∧
    (receiverTo x s).journal = s.journal ∧ (receiverTo x s).flash = s.flash ∧ (receiverTo x s).watch = s.watch ∧
    (receiverTo x s).notices = s.notices ∧ (receiverTo x s).freeCount = s.freeCount ∧
    (receiverTo x s).pending = s.pending := by
  unfold receiverTo
  try dsimp only
  (repeat' split) <;> simp

@[simp] theorem abandonFrame_keeps (s : State) :
    (abandonFrame s).est = s.est ∧ (abandonFrame s).policy = s.policy ∧ (abandonFrame s).tracker = s.tracker ∧
    (abandonFrame s).channels = s.channels ∧ (abandonFrame s).drive = s.drive ∧ (abandonFrame s).timers = s.timers ∧
    (abandonFrame s).uptime = s.uptime ∧ (abandonFrame s).secondMs = s.secondMs ∧ (abandonFrame s).flap = s.flap ∧
    (abandonFrame s).blower = s.blower ∧ (abandonFrame s).filter = s.filter ∧ (abandonFrame s).tally = s.tally ∧
    (abandonFrame s).journal = s.journal ∧ (abandonFrame s).flash = s.flash ∧ (abandonFrame s).watch = s.watch ∧
    (abandonFrame s).notices = s.notices ∧ (abandonFrame s).freeCount = s.freeCount ∧
    (abandonFrame s).pending = s.pending := by
  unfold abandonFrame
  try dsimp only
  (repeat' split) <;> simp

@[simp] theorem receiveByte_keeps (b : Byte) (s : State) :
    (receiveByte b s).uptime = s.uptime ∧ (receiveByte b s).secondMs = s.secondMs ∧
    (receiveByte b s).flash = s.flash ∧ (receiveByte b s).pending = s.pending := by
  unfold receiveByte
  try dsimp only
  (repeat' split) <;> simp

@[simp] theorem takeLineByte_keeps (s : State) (x : LineByte) :
    (takeLineByte s x).uptime = s.uptime ∧ (takeLineByte s x).secondMs = s.secondMs ∧
    (takeLineByte s x).flash = s.flash ∧ (takeLineByte s x).pending = s.pending := by
  unfold takeLineByte
  try dsimp only
  (repeat' split) <;> simp

@[simp] theorem receiveBytes_keeps (bytes : List LineByte) (s : State) :
    (receiveBytes bytes s).uptime = s.uptime ∧ (receiveBytes bytes s).secondMs = s.secondMs ∧
    (receiveBytes bytes s).flash = s.flash ∧ (receiveBytes bytes s).pending = s.pending := by
  unfold receiveBytes
  induction bytes generalizing s with
  | nil => simp
  | cons x l ih => simp [ih]

@[simp] theorem gapPassed_keeps (s : State) :
    (gapPassed s).est = s.est ∧ (gapPassed s).policy = s.policy ∧ (gapPassed s).tracker = s.tracker ∧
    (gapPassed s).channels = s.channels ∧ (gapPassed s).drive = s.drive ∧ (gapPassed s).timers = s.timers ∧
    (gapPassed s).uptime = s.uptime ∧ (gapPassed s).secondMs = s.secondMs ∧ (gapPassed s).flap = s.flap ∧
    (gapPassed s).blower = s.blower ∧ (gapPassed s).filter = s.filter ∧ (gapPassed s).tally = s.tally ∧
    (gapPassed s).journal = s.journal ∧ (gapPassed s).flash = s.flash ∧ (gapPassed s).watch = s.watch ∧
    (gapPassed s).notices = s.notices ∧ (gapPassed s).freeCount = s.freeCount ∧ (gapPassed s).pending = s.pending := by
  unfold gapPassed
  try dsimp only
  (repeat' split) <;> simp

@[simp] theorem headLeaves_keeps (s : State) :
    (headLeaves s).uptime = s.uptime ∧ (headLeaves s).secondMs = s.secondMs ∧ (headLeaves s).flash = s.flash ∧
    (headLeaves s).pending = s.pending := by
  unfold headLeaves
  try dsimp only
  (repeat' split) <;> simp

@[simp] theorem replyLeaves_keeps (s : State) :
    (replyLeaves s).pending = s.pending := by
  unfold replyLeaves
  try dsimp only
  (repeat' split) <;> simp

@[simp] theorem scanEnds_keeps (s : State) :
    (scanEnds s).uptime = s.uptime ∧ (scanEnds s).secondMs = s.secondMs ∧ (scanEnds s).flash = s.flash ∧
    (scanEnds s).pending = s.pending := by
  unfold scanEnds
  try dsimp only
  (repeat' split) <;> simp

/-! ### Events -/

@[simp] theorem sampleArrives_keeps (code : Nat) (raw : Int) (quality : Nat) (s : State) :
    (sampleArrives code raw quality s).drive = s.drive ∧ (sampleArrives code raw quality s).uptime = s.uptime ∧
    (sampleArrives code raw quality s).secondMs = s.secondMs ∧ (sampleArrives code raw quality s).filter = s.filter ∧
    (sampleArrives code raw quality s).journal = s.journal ∧ (sampleArrives code raw quality s).flash = s.flash ∧
    (sampleArrives code raw quality s).link = s.link ∧ (sampleArrives code raw quality s).freeCount = s.freeCount ∧
    (sampleArrives code raw quality s).pending = s.pending := by
  unfold sampleArrives
  try dsimp only
  (repeat' split) <;> simp

@[simp] theorem fposRead_keeps (reading : Option Int) (s : State) :
    (fposRead reading s).drive = s.drive ∧ (fposRead reading s).uptime = s.uptime ∧
    (fposRead reading s).secondMs = s.secondMs ∧ (fposRead reading s).filter = s.filter ∧
    (fposRead reading s).journal = s.journal ∧ (fposRead reading s).flash = s.flash ∧
    (fposRead reading s).link = s.link ∧ (fposRead reading s).freeCount = s.freeCount ∧
    (fposRead reading s).pending = s.pending := by
  unfold fposRead
  try dsimp only
  (repeat' split) <;> simp

@[simp] theorem secondPasses_keeps (s : State) :
    (secondPasses s).est = s.est ∧ (secondPasses s).policy = s.policy ∧ (secondPasses s).tracker = s.tracker ∧
    (secondPasses s).channels = s.channels ∧ (secondPasses s).drive = s.drive ∧ (secondPasses s).timers = s.timers ∧
    (secondPasses s).flap = s.flap ∧ (secondPasses s).blower = s.blower ∧ (secondPasses s).filter = s.filter ∧
    (secondPasses s).tally = s.tally ∧ (secondPasses s).journal = s.journal ∧ (secondPasses s).flash = s.flash ∧
    (secondPasses s).watch = s.watch ∧ (secondPasses s).notices = s.notices ∧ (secondPasses s).link = s.link ∧
    (secondPasses s).freeCount = s.freeCount ∧ (secondPasses s).pending = s.pending := by
  unfold secondPasses
  try dsimp only
  (repeat' split) <;> simp

/-! ### Time -/

@[simp] theorem advanceClocks_keeps (s : State) :
    (advanceClocks s).est = s.est ∧ (advanceClocks s).policy = s.policy ∧ (advanceClocks s).tracker = s.tracker ∧
    (advanceClocks s).uptime = s.uptime ∧ (advanceClocks s).blower = s.blower ∧ (advanceClocks s).filter = s.filter ∧
    (advanceClocks s).tally = s.tally ∧ (advanceClocks s).flash = s.flash ∧ (advanceClocks s).watch = s.watch ∧
    (advanceClocks s).notices = s.notices ∧ (advanceClocks s).freeCount = s.freeCount ∧
    (advanceClocks s).pending = s.pending := by
  unfold advanceClocks
  try dsimp only
  (repeat' split) <;> simp

@[simp] theorem dueSecond_keeps (s : State) :
    (dueSecond s).est = s.est ∧ (dueSecond s).policy = s.policy ∧ (dueSecond s).tracker = s.tracker ∧
    (dueSecond s).channels = s.channels ∧ (dueSecond s).drive = s.drive ∧ (dueSecond s).timers = s.timers ∧
    (dueSecond s).flap = s.flap ∧ (dueSecond s).blower = s.blower ∧ (dueSecond s).filter = s.filter ∧
    (dueSecond s).tally = s.tally ∧ (dueSecond s).journal = s.journal ∧ (dueSecond s).flash = s.flash ∧
    (dueSecond s).watch = s.watch ∧ (dueSecond s).notices = s.notices ∧ (dueSecond s).link = s.link ∧
    (dueSecond s).freeCount = s.freeCount ∧ (dueSecond s).pending = s.pending := by
  unfold dueSecond
  try dsimp only
  (repeat' split) <;> simp

@[simp] theorem dueScan_keeps (s : State) :
    (dueScan s).uptime = s.uptime ∧ (dueScan s).secondMs = s.secondMs ∧ (dueScan s).flash = s.flash ∧
    (dueScan s).pending = s.pending := by
  unfold dueScan
  try dsimp only
  (repeat' split) <;> simp

@[simp] theorem dueGap_keeps (s : State) :
    (dueGap s).est = s.est ∧ (dueGap s).policy = s.policy ∧ (dueGap s).tracker = s.tracker ∧
    (dueGap s).channels = s.channels ∧ (dueGap s).drive = s.drive ∧ (dueGap s).timers = s.timers ∧
    (dueGap s).uptime = s.uptime ∧ (dueGap s).secondMs = s.secondMs ∧ (dueGap s).flap = s.flap ∧
    (dueGap s).blower = s.blower ∧ (dueGap s).filter = s.filter ∧ (dueGap s).tally = s.tally ∧
    (dueGap s).journal = s.journal ∧ (dueGap s).flash = s.flash ∧ (dueGap s).watch = s.watch ∧
    (dueGap s).notices = s.notices ∧ (dueGap s).freeCount = s.freeCount ∧ (dueGap s).pending = s.pending := by
  unfold dueGap
  try dsimp only
  (repeat' split) <;> simp

@[simp] theorem dueDebounce_keeps (which : Door) (s : State) :
    (dueDebounce which s).est = s.est ∧ (dueDebounce which s).tracker = s.tracker ∧
    (dueDebounce which s).channels = s.channels ∧ (dueDebounce which s).uptime = s.uptime ∧
    (dueDebounce which s).secondMs = s.secondMs ∧ (dueDebounce which s).flap = s.flap ∧
    (dueDebounce which s).filter = s.filter ∧ (dueDebounce which s).journal = s.journal ∧
    (dueDebounce which s).flash = s.flash ∧ (dueDebounce which s).watch = s.watch ∧
    (dueDebounce which s).link = s.link ∧ (dueDebounce which s).freeCount = s.freeCount ∧
    (dueDebounce which s).pending = s.pending := by
  unfold dueDebounce
  try dsimp only
  (repeat' split) <;> simp

@[simp] theorem dueDriveStale_keeps (s : State) :
    (dueDriveStale s).est = s.est ∧ (dueDriveStale s).policy = s.policy ∧ (dueDriveStale s).tracker = s.tracker ∧
    (dueDriveStale s).channels = s.channels ∧ (dueDriveStale s).timers = s.timers ∧
    (dueDriveStale s).uptime = s.uptime ∧ (dueDriveStale s).secondMs = s.secondMs ∧ (dueDriveStale s).flap = s.flap ∧
    (dueDriveStale s).blower = s.blower ∧ (dueDriveStale s).filter = s.filter ∧ (dueDriveStale s).tally = s.tally ∧
    (dueDriveStale s).journal = s.journal ∧ (dueDriveStale s).flash = s.flash ∧ (dueDriveStale s).watch = s.watch ∧
    (dueDriveStale s).notices = s.notices ∧ (dueDriveStale s).link = s.link ∧
    (dueDriveStale s).freeCount = s.freeCount ∧ (dueDriveStale s).pending = s.pending := by
  unfold dueDriveStale
  try dsimp only
  (repeat' split) <;> simp

@[simp] theorem dueDriveSilent_keeps (s : State) :
    (dueDriveSilent s).est = s.est ∧ (dueDriveSilent s).policy = s.policy ∧ (dueDriveSilent s).tracker = s.tracker ∧
    (dueDriveSilent s).channels = s.channels ∧ (dueDriveSilent s).timers = s.timers ∧
    (dueDriveSilent s).uptime = s.uptime ∧ (dueDriveSilent s).secondMs = s.secondMs ∧
    (dueDriveSilent s).flap = s.flap ∧ (dueDriveSilent s).blower = s.blower ∧ (dueDriveSilent s).filter = s.filter ∧
    (dueDriveSilent s).journal = s.journal ∧ (dueDriveSilent s).flash = s.flash ∧ (dueDriveSilent s).link = s.link ∧
    (dueDriveSilent s).freeCount = s.freeCount ∧ (dueDriveSilent s).pending = s.pending := by
  unfold dueDriveSilent
  try dsimp only
  (repeat' split) <;> simp

@[simp] theorem dueChannel_keeps (c : Channel) (s : State) :
    (dueChannel c s).drive = s.drive ∧ (dueChannel c s).uptime = s.uptime ∧ (dueChannel c s).secondMs = s.secondMs ∧
    (dueChannel c s).filter = s.filter ∧ (dueChannel c s).tally = s.tally ∧ (dueChannel c s).journal = s.journal ∧
    (dueChannel c s).flash = s.flash ∧ (dueChannel c s).link = s.link ∧ (dueChannel c s).freeCount = s.freeCount ∧
    (dueChannel c s).pending = s.pending := by
  unfold dueChannel
  try dsimp only
  (repeat' split) <;> simp

@[simp] theorem dueChannels_keeps (s : State) :
    (dueChannels s).drive = s.drive ∧ (dueChannels s).uptime = s.uptime ∧ (dueChannels s).secondMs = s.secondMs ∧
    (dueChannels s).filter = s.filter ∧ (dueChannels s).tally = s.tally ∧ (dueChannels s).journal = s.journal ∧
    (dueChannels s).flash = s.flash ∧ (dueChannels s).link = s.link ∧ (dueChannels s).freeCount = s.freeCount ∧
    (dueChannels s).pending = s.pending := by
  unfold dueChannels
  generalize Channel.all = l
  induction l generalizing s with
  | nil => simp
  | cons x l ih => simp [ih]

@[simp] theorem dueDrive_keeps (s : State) :
    (dueDrive s).est = s.est ∧ (dueDrive s).policy = s.policy ∧ (dueDrive s).tracker = s.tracker ∧
    (dueDrive s).channels = s.channels ∧ (dueDrive s).drive = s.drive ∧ (dueDrive s).timers = s.timers ∧
    (dueDrive s).uptime = s.uptime ∧ (dueDrive s).secondMs = s.secondMs ∧ (dueDrive s).blower = s.blower ∧
    (dueDrive s).filter = s.filter ∧ (dueDrive s).tally = s.tally ∧ (dueDrive s).journal = s.journal ∧
    (dueDrive s).flash = s.flash ∧ (dueDrive s).watch = s.watch ∧ (dueDrive s).link = s.link ∧
    (dueDrive s).freeCount = s.freeCount ∧ (dueDrive s).pending = s.pending := by
  unfold dueDrive
  try dsimp only
  (repeat' split) <;> simp

@[simp] theorem dueMove_keeps (s : State) :
    (dueMove s).est = s.est ∧ (dueMove s).policy = s.policy ∧ (dueMove s).tracker = s.tracker ∧
    (dueMove s).channels = s.channels ∧ (dueMove s).drive = s.drive ∧ (dueMove s).timers = s.timers ∧
    (dueMove s).uptime = s.uptime ∧ (dueMove s).secondMs = s.secondMs ∧ (dueMove s).blower = s.blower ∧
    (dueMove s).filter = s.filter ∧ (dueMove s).tally = s.tally ∧ (dueMove s).journal = s.journal ∧
    (dueMove s).flash = s.flash ∧ (dueMove s).watch = s.watch ∧ (dueMove s).link = s.link ∧
    (dueMove s).freeCount = s.freeCount ∧ (dueMove s).pending = s.pending := by
  unfold dueMove
  try dsimp only
  (repeat' split) <;> simp

@[simp] theorem dueEst_keeps (s : State) :
    (dueEst s).tracker = s.tracker ∧ (dueEst s).channels = s.channels ∧ (dueEst s).drive = s.drive ∧
    (dueEst s).uptime = s.uptime ∧ (dueEst s).secondMs = s.secondMs ∧ (dueEst s).flash = s.flash ∧
    (dueEst s).freeCount = s.freeCount ∧ (dueEst s).pending = s.pending := by
  unfold dueEst
  try dsimp only
  (repeat' split) <;> simp

@[simp] theorem dueDec_keeps (s : State) :
    (dueDec s).est = s.est ∧ (dueDec s).tracker = s.tracker ∧ (dueDec s).channels = s.channels ∧
    (dueDec s).drive = s.drive ∧ (dueDec s).uptime = s.uptime ∧ (dueDec s).secondMs = s.secondMs ∧
    (dueDec s).filter = s.filter ∧ (dueDec s).tally = s.tally ∧ (dueDec s).journal = s.journal ∧
    (dueDec s).flash = s.flash ∧ (dueDec s).watch = s.watch ∧ (dueDec s).link = s.link ∧
    (dueDec s).freeCount = s.freeCount ∧ (dueDec s).pending = s.pending := by
  unfold dueDec
  try dsimp only
  (repeat' split) <;> simp

@[simp] theorem dueHold_keeps (s : State) :
    (dueHold s).est = s.est ∧ (dueHold s).tracker = s.tracker ∧ (dueHold s).channels = s.channels ∧
    (dueHold s).drive = s.drive ∧ (dueHold s).uptime = s.uptime ∧ (dueHold s).secondMs = s.secondMs ∧
    (dueHold s).filter = s.filter ∧ (dueHold s).tally = s.tally ∧ (dueHold s).journal = s.journal ∧
    (dueHold s).flash = s.flash ∧ (dueHold s).watch = s.watch ∧ (dueHold s).link = s.link ∧
    (dueHold s).freeCount = s.freeCount ∧ (dueHold s).pending = s.pending := by
  unfold dueHold
  try dsimp only
  (repeat' split) <;> simp

@[simp] theorem duePurge_keeps (s : State) :
    (duePurge s).est = s.est ∧ (duePurge s).tracker = s.tracker ∧ (duePurge s).channels = s.channels ∧
    (duePurge s).drive = s.drive ∧ (duePurge s).uptime = s.uptime ∧ (duePurge s).secondMs = s.secondMs ∧
    (duePurge s).flap = s.flap ∧ (duePurge s).filter = s.filter ∧ (duePurge s).tally = s.tally ∧
    (duePurge s).journal = s.journal ∧ (duePurge s).flash = s.flash ∧ (duePurge s).watch = s.watch ∧
    (duePurge s).link = s.link ∧ (duePurge s).freeCount = s.freeCount ∧ (duePurge s).pending = s.pending := by
  unfold duePurge
  try dsimp only
  (repeat' split) <;> simp

@[simp] theorem runDue_keeps (s : State) :
    (runDue s).flash = s.flash ∧ (runDue s).pending = s.pending := by
  unfold runDue
  try dsimp only
  (repeat' split) <;> simp

@[simp] theorem millisecond_keeps (s : State) :
    (millisecond s).flash = s.flash ∧ (millisecond s).pending = s.pending := by
  unfold millisecond
  try dsimp only
  (repeat' split) <;> simp

end Sys2Proof.Machine
end

