-- ==== Sys2Proof/Laws/Service.lean ====
section
/-! SUPPORT. What serving a request at a free port comes to, and what a reply leaves in the link port. -/

namespace Sys2Proof.Machine

/-- The state in which a request that arrives at a free port is served: it is the head. -/
def State.atHead (s : State) (r : Request) : State :=
  s.withLink { s.link with receiver := .hunt, gapMs := 0, queue := [r] }

@[simp] theorem atHead_link (s : State) (r : Request) :
    (s.atHead r).link = { s.link with receiver := .hunt, gapMs := 0, queue := [r] } := rfl

@[simp] theorem atHead_keeps (s : State) (r : Request) :
    (s.atHead r).est = s.est ∧ (s.atHead r).policy = s.policy ∧ (s.atHead r).tracker = s.tracker ∧
    (s.atHead r).channels = s.channels ∧ (s.atHead r).drive = s.drive ∧ (s.atHead r).timers = s.timers ∧
    (s.atHead r).uptime = s.uptime ∧ (s.atHead r).secondMs = s.secondMs ∧ (s.atHead r).flap = s.flap ∧
    (s.atHead r).blower = s.blower ∧ (s.atHead r).filter = s.filter ∧ (s.atHead r).tally = s.tally ∧
    (s.atHead r).journal = s.journal ∧ (s.atHead r).flash = s.flash ∧ (s.atHead r).watch = s.watch ∧
    (s.atHead r).notices = s.notices ∧ (s.atHead r).freeCount = s.freeCount ∧
    (s.atHead r).pending = s.pending := by
  simp [State.atHead]

/-- At a free port a request is served in the event of its arrival. -/
theorem deliverFrame_of_free {s : State} (r : Request) (h : PortFree s) :
    deliverFrame r s = serveRequest r (s.atHead r) := by
  obtain ⟨h1, h2, h3, h4⟩ := h
  simp [deliverFrame, joinQueue, serveHead, State.mayServe, State.atHead, State.withLink, h1, h2, h3, h4]

/-- The command of a request is the delivery of its frame (log 1). -/
theorem exec_request {c : Instr} {r : Request} (s : State) (h : requestOf c = some r) :
    exec c s = .next (deliverFrame r s) := by
  cases c <;> simp [requestOf] at h <;> subst h <;> rfl

/-- At a free port the command of a request serves it. -/
theorem exec_request_free {c : Instr} {r : Request} {s : State} (h : requestOf c = some r) (hs : PortFree s) :
    exec c s = .next (serveRequest r (s.atHead r)) := by
  rw [exec_request s h, deliverFrame_of_free r hs]

/-- What a reply changes: the link port alone. -/
theorem sendReply_link (code : Byte) (result : ResultCode) (body : List Byte) (s : State) :
    (sendReply code result body s).link = { s.link with
      sending := some (replyByRules (code + 0x80#8) (result.code :: s.linkStatus :: body)),
      holding := false, dropped := false, badFrame := false } := rfl

/-- The status of a reply built in `u` is the one of the event from `s`, when the two flags stand as in `s`. -/
theorem linkStatus_eq {s u : State} (h1 : u.link.dropped = s.link.dropped) (h2 : u.link.badFrame = s.link.badFrame) :
    u.linkStatus = statusOf s u := by
  unfold State.linkStatus statusOf State.isParked
  rw [h1, h2]
  congr 1
  cases s.link.dropped <;> cases s.link.badFrame <;> cases u.notices.attention <;> cases u.drive.vehicle <;> rfl

/-- The status of an event reads the notices and the vehicle state alone of the later state. -/
theorem statusOf_congr (s : State) {t u : State} (h1 : t.notices = u.notices) (h2 : t.drive = u.drive) :
    statusOf s t = statusOf s u := by simp [statusOf, h1, h2]

/-- A reply built at service answers the request, when the event has left the link port at the head. -/
theorem answered_sendReply {s u : State} {r : Request} {code : Byte} {result : ResultCode} {n : Nat}
    {body : List Byte} (hu : u.link = (s.atHead r).link) (hc : code = r.code) (hn : result.code = BitVec.ofNat 8 n)
    (hh : s.link.holding = false) : Answered r n body s (sendReply code result body u) := by
  unfold Answered
  rw [sendReply_link, hu, linkStatus_eq (s := s) (by rw [hu]; rfl) (by rw [hu]; rfl), hn, hc]
  rw [statusOf_congr s (t := sendReply r.code result body u) (u := u) (by simp) (by simp)]
  simp [hh]

end Sys2Proof.Machine
end

