-- ==== Sys2Proof/Laws/Shared.lean ====
section
/-! SUPPORT. What the shared arithmetic gives, what raising a notice does to the notice unit (R182, R184), what an evaluation
and a delivery do to the watch slots (R173 to R176), what the start of a move and a new target do to the flap (R115 to R122),
what the episode table does (R62, R66, R67, R74), what the handing of a demand does to the blower (R54, R132, R133), and that the
table values, the counts, the loads, the flow, the position and the blower demand the model works out are those the rules spell
(R21 to R25, R53, R113, R139, R140). -/

namespace Sys2Proof.Machine

/-! ### Ranges -/

theorem clampNat_eq {lo hi : Nat} (x : Nat) (h : lo ≤ hi) : clampNat lo hi x = toRange lo hi x := by
  unfold clampNat toRange
  split <;> [skip; split] <;> omega

theorem clampInt_eq {lo hi : Int} (x : Int) (h : lo ≤ hi) : clampInt lo hi x = max lo (min hi x) := by
  unfold clampInt
  split <;> [skip; split] <;> omega

/-- A clamped field of a request. -/
theorem field_eq {w lo hi : Nat} (x : BitVec w) (h : lo ≤ hi) : field lo hi x = toRange lo hi x.toNat :=
  clampNat_eq x.toNat h

theorem toRange_le {lo hi : Nat} (x : Nat) (h : lo ≤ hi) : lo ≤ toRange lo hi x ∧ toRange lo hi x ≤ hi := by
  unfold toRange
  omega

theorem clampInt_le {lo hi : Int} (x : Int) (h : lo ≤ hi) : lo ≤ clampInt lo hi x ∧ clampInt lo hi x ≤ hi := by
  rw [clampInt_eq x h]
  omega

theorem clamps_iff {w : Nat} (lo hi : Nat) (x : BitVec w) : clamps lo hi x = true ↔ Outside lo hi x.toNat := by
  simp [clamps, Outside]

theorem doneOr_code (clamped : Bool) : (doneOr clamped).code = BitVec.ofNat 8 (if clamped then 1 else 0) := by
  cases clamped <;> rfl

theorem saturatingAdd_eq (m a b : Nat) : saturatingAdd m a b = min m (a + b) := by
  unfold saturatingAdd
  split <;> omega

theorem saturatingAdd_le (m a b : Nat) : saturatingAdd m a b ≤ m := by
  unfold saturatingAdd
  split <;> omega

theorem saturatingAdd_of_le {m a b : Nat} (h : a + b ≤ m) : saturatingAdd m a b = a + b := by
  unfold saturatingAdd
  split <;> omega

/-! ### Raising a notice -/

theorem merge_kind {p n : Notice} (h : p.kind = n.kind) : (p.merge n).kind = n.kind := by
  cases p <;> cases n <;> simp_all [Notice.merge, Notice.kind]

/-- After a raising a notice of the kind is pending. -/
theorem raiseIn_kind (n : Notice) (l : List PendingNotice) : ∃ p ∈ raiseIn n l, p.notice.kind = n.kind := by
  induction l with
  | nil => exact ⟨⟨n, false⟩, by simp [raiseIn], rfl⟩
  | cons q rest ih =>
    rw [raiseIn]
    split
    · rename_i h
      exact ⟨⟨q.notice.merge n, true⟩, by simp, merge_kind h⟩
    · split
      · exact ⟨⟨n, false⟩, by simp, rfl⟩
      · obtain ⟨p, hp, hk⟩ := ih
        exact ⟨p, by simp [hp], hk⟩

/-- After a raising whose detail is no set, the pending notice carries the newest detail (R182). -/
theorem raiseIn_newest (n : Notice) (l : List PendingNotice) (hm : ∀ m : Notice, m.kind = n.kind → m.merge n = n) :
    ∃ p ∈ raiseIn n l, p.notice = n := by
  induction l with
  | nil => exact ⟨⟨n, false⟩, by simp [raiseIn], rfl⟩
  | cons q rest ih =>
    rw [raiseIn]
    split
    · rename_i h
      exact ⟨⟨q.notice.merge n, true⟩, by simp, hm q.notice h⟩
    · split
      · exact ⟨⟨n, false⟩, by simp, rfl⟩
      · obtain ⟨p, hp, hk⟩ := ih
        exact ⟨p, by simp [hp], hk⟩

/-- A kind pending after a raising was pending before or is the raised one. -/
theorem raiseIn_mem {n : Notice} {l : List PendingNotice} {p : PendingNotice} (hp : p ∈ raiseIn n l) :
    p ∈ l ∨ p.notice.kind = n.kind := by
  induction l with
  | nil => simp only [raiseIn, List.mem_singleton] at hp; subst hp; exact .inr rfl
  | cons q rest ih =>
    rw [raiseIn] at hp
    split at hp
    · rename_i h
      rcases List.mem_cons.mp hp with rfl | hp
      · exact .inr (merge_kind h)
      · exact .inl (by simp [hp])
    · split at hp
      · rcases List.mem_cons.mp hp with rfl | hp
        · exact .inr rfl
        · exact .inl hp
      · rcases List.mem_cons.mp hp with rfl | hp
        · exact .inl (by simp)
        · exact (ih hp).imp (fun h => by simp [h]) id

/-- Each kind has its own priority (R181). -/
theorem priority_inj {a b : NoticeKind} (h : a.priority = b.priority) : a = b := by
  cases a <;> cases b <;> simp_all [NoticeKind.priority]

/-- Raising keeps the pending notices in rising priority number, one per kind at most (R181, R182). -/
theorem raiseIn_sorted (n : Notice) {l : List PendingNotice}
    (h : l.Pairwise (fun a b => a.notice.kind.priority < b.notice.kind.priority)) :
    (raiseIn n l).Pairwise (fun a b => a.notice.kind.priority < b.notice.kind.priority) := by
  induction l with
  | nil => simp [raiseIn]
  | cons q rest ih =>
    rw [List.pairwise_cons] at h
    rw [raiseIn]
    split
    · rename_i hk
      rw [List.pairwise_cons]
      refine ⟨fun b hb => ?_, h.2⟩
      have := h.1 b hb
      simp only [merge_kind hk]
      rwa [hk] at this
    · rename_i hne
      split
      · rename_i hlt
        rw [List.pairwise_cons]
        refine ⟨fun b hb => ?_, List.pairwise_cons.mpr h⟩
        rcases List.mem_cons.mp hb with rfl | hb
        · exact hlt
        · exact lt_trans hlt (h.1 b hb)
      · rename_i hge
        rw [List.pairwise_cons]
        refine ⟨fun b hb => ?_, ih h.2⟩
        rcases raiseIn_mem hb with hb | hb
        · exact h.1 b hb
        · rw [hb]
          exact lt_of_le_of_ne (not_lt.mp hge) (fun he => hne (priority_inj he))

/-- The attention line of the notice unit worked out (R184). -/
theorem attentionDue_iff (masked : List NoticeKind) (pending : List PendingNotice) :
    attentionDue masked pending = true ↔ ∃ p ∈ pending, p.notice.kind ∉ masked := by
  simp [attentionDue]

/-- Raising a notice keeps the notice unit sound. -/
theorem raise_sound (n : Notice) {s : State} (h : NoticesSound s) : NoticesSound (raise n s) :=
  ⟨raiseIn_sorted n h.1, attentionDue_iff _ _⟩

/-- A watch slot's notice, raised, names the slot. -/
theorem raise_watch (n : SlotNumber) (s : State) :
    ∃ p ∈ (raise (.watch [n]) s).notices.pending, ∃ l, p.notice = .watch l ∧ n ∈ l := by
  have key : ∀ l : List PendingNotice, ∃ p ∈ raiseIn (.watch [n]) l, ∃ m, p.notice = .watch m ∧ n ∈ m := by
    intro l
    induction l with
    | nil => exact ⟨⟨.watch [n], false⟩, by simp [raiseIn], [n], rfl, by simp⟩
    | cons q rest ih =>
      rw [raiseIn]
      split
      · rename_i h
        refine ⟨⟨q.notice.merge (.watch [n]), true⟩, by simp, ?_⟩
        obtain ⟨q, r⟩ := q
        cases q <;> simp_all [Notice.kind, Notice.merge, unionIn]
        cases n <;> simp [SlotNumber.all]
      · split
        · exact ⟨⟨.watch [n], false⟩, by simp, [n], rfl, by simp⟩
        · obtain ⟨p, hp, hk⟩ := ih
          exact ⟨p, by simp [hp], hk⟩
  exact key s.notices.pending

/-! ### The watch slots -/

theorem WatchUnit.get_set (w : WatchUnit) (n m : SlotNumber) (x : WatchSlot) :
    (w.set n x).get m = if m = n then x else w.get m := by
  cases n <;> cases m <;> rfl

/-- What an evaluation makes of a slot that is not OFF, case by case (R174 to R176). -/
theorem evaluated_eq (w : WatchSlot) (v : Int) (uptime : Nat) (h : w.scope ≠ .off) :
    w.evaluated v uptime = slotEvaluated w v uptime := by
  obtain ⟨q, k, l, y, sc, a, hit⟩ := w
  cases sc with
  | off => exact absurd rfl h
  | stop | always =>
    cases k with
    | above | below | crossUp | crossDown =>
      cases a <;> cases hit <;>
        simp [WatchSlot.evaluated, WatchSlot.hits, WatchSlot.armedAfter, slotEvaluated] <;> split <;> simp_all

/-- What an evaluation of slot n does to each slot (R173 to R176). -/
theorem evaluateSlot_get (n m : SlotNumber) (v : Int) (s : State) :
    (evaluateSlot n v s).watch.get m = if m = n then slotEvaluated (s.watch.get n) v s.uptime else s.watch.get m := by
  rw [evaluateSlot]
  dsimp only
  split
  · rename_i h
    split
    · rename_i hm
      rw [hm, slotEvaluated, h]
    · rfl
  · rename_i h
    rw [← evaluated_eq _ _ _ h, ← WatchUnit.get_set]
    split <;> rfl

@[simp] theorem evaluateSlot_uptime (n : SlotNumber) (v : Int) (s : State) : (evaluateSlot n v s).uptime = s.uptime := by
  rw [evaluateSlot]
  dsimp only
  split
  · rfl
  · split <;> rfl

/-- An evaluation changes no slot's quantity. -/
theorem slotEvaluated_quantity (w : WatchSlot) (v : Int) (uptime : Nat) : (slotEvaluated w v uptime).quantity = w.quantity := by
  obtain ⟨q, k, l, y, sc, a, hit⟩ := w
  cases sc <;> cases k <;> simp only [slotEvaluated] <;> (repeat' split) <;> rfl

theorem deliverTo_get (q : Quantity) (n m : SlotNumber) (v : Int) (s : State) :
    (deliverTo q v n s).watch.get m
      = if m = n ∧ (s.watch.get n).quantity = q then slotEvaluated (s.watch.get n) v s.uptime else s.watch.get m := by
  rw [deliverTo]
  split <;> simp_all [evaluateSlot_get]

@[simp] theorem deliverTo_uptime (q : Quantity) (n : SlotNumber) (v : Int) (s : State) :
    (deliverTo q v n s).uptime = s.uptime := by
  rw [deliverTo]
  split <;> simp

/-- What a delivery does to each slot: those that watch the quantity are evaluated on the value (R173). -/
theorem deliver_get (q : Quantity) (n : SlotNumber) (v : Int) (s : State) :
    (deliver q v s).watch.get n
      = if (s.watch.get n).quantity = q then slotEvaluated (s.watch.get n) v s.uptime else s.watch.get n := by
  cases n <;> simp [deliver, deliverTo_get]

theorem deliver_delivered (q : Quantity) (v : Int) (s : State) : Delivered q v s (deliver q v s) :=
  fun n h => by rw [deliver_get, if_pos h]

/-! ### The start of a move -/

theorem ceilDiv_bounds (a : Nat) : a ≤ ceilDiv a 1000 * 1000 ∧ ceilDiv a 1000 * 1000 < a + 1000 := by
  unfold ceilDiv
  omega

/-- A TIMED drive from the set point to the target (R120). -/
theorem startDrive_started (f : Flap) : DriveStarted f (f.startDrive f.setPoint f.target) := by
  obtain ⟨h1, h2⟩ := ceilDiv_bounds ((f.target - f.setPoint).natAbs * f.travelTime)
  refine ⟨_, rfl, rfl, rfl, rfl, rfl, ?_, ?_⟩ <;> rw [Int.abs_eq_natAbs]
  · exact_mod_cast h1
  · exact_mod_cast h2

/-- The start of a due move by each drive mode's rule (R117, R119, R120, R122). -/
theorem startMove_started (f : Flap) : MoveStarted f f.startMove := by
  obtain h | h | h | h : f.mode = .tracked ∨ f.mode = .edge ∨ f.mode = .timed ∨ f.mode = .direct := by
    cases f.mode <;> simp
  · cases hr : f.ready <;> simp [MoveStarted, Flap.startMove, Flap.issue, Flap.newTimer, h, hr]
  · simp [MoveStarted, Flap.startMove, Flap.issue, Flap.newTimer, h]
  · simpa only [MoveStarted, Flap.startMove, h] using startDrive_started f
  · simp [MoveStarted, Flap.startMove, h]

/-- The test for a due move, of a flap that stands in IDLE (R115). -/
theorem testDue_follows {f : Flap} (h : f.state = .idle) : MoveFollows f f.testDue := by
  unfold Flap.testDue Flap.moveDue
  refine ⟨fun hn => ?_, fun hi ht => ?_⟩
  · rcases hn with hn | hn <;> simp [hn]
  · simpa [h, hi, ht] using startMove_started f

/-- A completion: the flap enters IDLE, and the move that is due follows (R117, R119, R120, R128). -/
theorem completeMove_follows (f : Flap) (s : State) : MoveFollows f.toIdle (completeMove f s).flap :=
  testDue_follows rfl

/-! ### Values of the tables -/

theorem sat_eq (t : Int) : sat t = satByRules t := by
  have h1 := clampInt_le t (show (-200 : Int) ≤ 450 by decide)
  have table : ∀ i : Nat, i ≤ 13 → ∀ r : Int,
      (match satTable[i + 1]? with
        | none => satTable[i]?.getD 0
        | some high => satTable[i]?.getD 0 + (high - satTable[i]?.getD 0) * r / 50)
        = satTable.getD i 65500 + (satTable.getD (i + 1) 65500 - satTable.getD i 65500) * r / 50 := by
    intro i hi r
    interval_cases i <;> first | rfl | simp [satTable]
  rw [clampInt_eq t (by decide)] at h1
  unfold sat satByRules
  rw [clampInt_eq t (by decide)]
  have hr : max (-200) (min 450 t) + 200 - 50 * ((max (-200) (min 450 t) + 200) / 50)
      = (max (-200) (min 450 t) + 200) % 50 := by omega
  simp only [hr]
  exact table _ (by omega) _

theorem etaPm_eq (r : FilterRecord) : (r.etaPm : Int) = etaPmByRules r := by
  unfold FilterRecord.etaPm etaPmByRules
  cases r.kind <;> simp

theorem derate_eq (r : FilterRecord) : (r.derate : Int) = derateByRules r := by
  unfold FilterRecord.derate derateByRules
  have h : 400 * min r.pmLoad r.pmCap / r.pmCap ≤ 400 := by
    rcases Nat.eq_zero_or_pos r.pmCap with h | h
    · simp [h]
    · exact Nat.div_le_of_le_mul (by nlinarith [Nat.min_le_right r.pmLoad r.pmCap])
  cases r.kind with
  | none => rfl
  | particle | combined => exact Int.ofNat_sub (h.trans (by decide))

theorem etaGas_eq (r : FilterRecord) (cap : r.kind = .combined → r.gasCap.isSome = true ∧ r.etaGasBase.isSome = true) :
    (r.etaGas : Int) = etaGasByRules r := by
  unfold FilterRecord.etaGas etaGasByRules
  cases hk : r.kind with
  | none => rfl
  | particle => rfl
  | combined =>
    obtain ⟨h1, h2⟩ := cap hk
    obtain ⟨x, hx⟩ := Option.isSome_iff_exists.mp h1
    obtain ⟨y, hy⟩ := Option.isSome_iff_exists.mp h2
    simp [hx, hy]

theorem flow_eq (s : State) (h : s.blower.level ≤ 7) : s.flow = flowByRules s := by
  have ht : ∀ n : Nat, n ≤ 7 →
      flowTable n = ((([0, 60, 100, 140, 180, 230, 280, 340] : List Nat).getD n 340 : Nat) : Int) := by decide
  simp only [State.flow, flowOf, flowByRules, ht _ h, derate_eq]

theorem demandDue_eq (s : State) : s.demandDue
    = demandByTable (decide (s.drive.vehicle = .parked)) s.policy.purging s.policy.mode s.policy.basis s.policy.comfort := by
  unfold State.demandDue demandByTable State.isParked
  cases hm : s.policy.mode <;> simp [hm, max_assoc, apply_ite (max s.policy.comfort)]

/-- What the handing of a demand does: the blower follows it, and an entry to FAULT raises BLOWER-FAULT (R132, R133). -/
theorem blowerDemand_follows (d : Nat) (s : State) :
    (blowerDemand d s).blower = blowerHanded d s.blower
      ∧ (s.blower.fault = false → (blowerDemand d s).blower.fault = true →
          ∃ p ∈ (blowerDemand d s).notices.pending, p.notice = .blowerFault) := by
  unfold blowerDemand blowerHanded
  dsimp only
  split <;> rename_i h
  · exact ⟨by simp [h], fun _ _ => raiseIn_newest .blowerFault _ fun m hm => by cases m <;> simp_all [Notice.merge, Notice.kind]⟩
  · cases hf : s.blower.fault <;> simp_all

/-- A recomputation of the demand leaves the blower at it, in FAULT where its level has risen from 0 under a stall (R54, R133). -/
theorem recomputeDemand_follows {s : State} (h : s.blower.level = s.policy.demand) : BlowerFollows s (recomputeDemand s) := by
  unfold BlowerFollows recomputeDemand
  split <;> rename_i hd
  · have same : blowerHanded s.policy.demand s.blower = s.blower := by
      rw [← h]
      unfold blowerHanded
      cases hl : s.blower
      simp
      omega
    exact ⟨same.symm, fun h0 h1 => absurd (h0.symm.trans h1) (by decide)⟩
  · simpa using blowerDemand_follows s.demandDue (s.withPolicy { s.policy with demand := s.demandDue })

/-! ### The position and a new target -/

theorem flapPosition_eq (s : State) : s.flapPosition = positionByRules s := by
  unfold State.flapPosition Flap.position positionByRules
  cases hs : s.flap.state <;> cases hm : s.flap.mode <;>
    first | rfl | (simp only [Flap.timedPosition, hs]; cases s.flap.driveInFlight <;> rfl)

/-- A new target that reaches a TIMED flap in mid-move, INHIBIT released (R121). -/
theorem flapTarget_retarget {x : Int} {s : State} {d : TimedDrive} (h : s.flap.state = .moving) (hi : s.flap.inhibit = false)
    (hm : s.flap.mode = .timed) (hd : s.flap.driveInFlight = some d) :
    flapTarget x s = if x = reachedByRules d then
        completeMove (({ s.flap with target := x } : Flap).driveEnded (reachedByRules d)) s
      else s.withFlap ((({ s.flap with target := x } : Flap).driveEnded (reachedByRules d)).startDrive (reachedByRules d) x) := by
  have hp : ({ s.flap with target := x } : Flap).timedPosition = reachedByRules d := by
    simp [Flap.timedPosition, hd, h, movedToward, reachedByRules]
  have hr : flapTarget x s = retargetTimed { s.flap with target := x } x s := by simp [flapTarget, h, hi, hm]
  rw [hr, ← hp]
  rfl

/-- What a new target does to the flap, in each of its states and drive modes (R115, R118, R119, R121). -/
theorem flapTarget_handed (x : Int) (s : State) : TargetHanded x s.flap (flapTarget x s).flap := by
  refine ⟨fun h => ?_, fun h => ?_, fun h hm => ?_, fun h hi hm => ?_, fun d h hi hm hd => ⟨fun hx => ?_, fun hx => ?_⟩,
    fun h => ?_⟩
  · have key := testDue_follows (f := { s.flap with target := x }) h
    simpa [flapTarget, h] using key
  · simp only [flapTarget, h]
    by_cases hx : x = s.flap.setPoint <;> simp [hx, Flap.toIdle]
  · simp only [flapTarget, h]
    rcases hm with hm | hm
    · simp [hm]
    · cases hi : s.flap.inhibit <;> simp [hm]
  · simp [flapTarget, h, hi, hm, Flap.issue, Flap.newTimer]
  · rw [flapTarget_retarget h hi hm hd, if_pos hx]
    subst hx
    exact (completeMove_follows _ s).1 (.inr rfl)
  · rw [flapTarget_retarget h hi hm hd, if_neg hx]
    obtain ⟨_, e, -, rest⟩ := startDrive_started { s.flap with target := x, setPoint := reachedByRules d }
    cases e
    exact ⟨_, rfl, rfl, rest⟩
  · rcases h with h | h | h <;> simp [flapTarget, h]

/-! ### The episode table -/

/-- The eviction takes the first CLOSED record (R62). -/
theorem evict_eq {pre post : List Episode} {e : Episode} (opens : ∀ p ∈ pre, p.ending = none) (closed : e.ending.isSome = true) :
    evictOldestClosed (pre ++ e :: post) = pre ++ post := by
  induction pre with
  | nil => simp [evictOldestClosed, closed]
  | cons p pre ih =>
    simp [evictOldestClosed, opens p (by simp), ih fun q hq => opens q (by simp [hq])]

/-- A new record joins at the end, where a full table has made room (R62). -/
theorem joinTable_room (e : Episode) (table : List Episode) : ∃ kept, joinTable e table = kept ++ [e] ∧ RoomMade table kept := by
  refine ⟨_, rfl, ?_⟩
  unfold RoomMade
  split
  · rfl
  · rintro pre x post rfl opens closed
    exact evict_eq opens closed

/-- Of a table with a CLOSED record the eviction removes one (R62). -/
theorem evict_length {table : List Episode} (h : ∃ e ∈ table, e.ending.isSome = true) :
    (evictOldestClosed table).length + 1 = table.length := by
  induction table with
  | nil => simp at h
  | cons x rest ih =>
    cases hx : x.ending with
    | some _ => simp [evictOldestClosed, hx]
    | none => simp [evictOldestClosed, hx, ih (by simpa [hx] using h)]

/-- A CLOSED record ahead of x gives way first, whatever x holds (R62). -/
theorem evict_ahead {pre : List Episode} (closed : ∃ p ∈ pre, p.ending.isSome = true) :
    ∃ pre', pre'.Sublist pre ∧ ∀ (x : Episode) (post : List Episode), evictOldestClosed (pre ++ x :: post) = pre' ++ x :: post := by
  induction pre with
  | nil => simp at closed
  | cons p pre ih =>
    cases hp : p.ending with
    | some _ => exact ⟨pre, .cons _ (.refl _), fun x post => by simp [evictOldestClosed, hp]⟩
    | none =>
      obtain ⟨pre', sub, h⟩ := ih (by simpa [hp] using closed)
      exact ⟨p :: pre', .cons_cons _ sub, fun x post => by simp [evictOldestClosed, hp, h x post]⟩

/-- The opening of e makes the same room in a table whether a record stands in it as x or, changed, as x' (R74): where the table has
room, where a CLOSED record stands ahead, and where both are OPEN. -/
theorem joinTable_order {e x x' : Episode} {pre post : List Episode}
    (room : (pre ++ x :: post).length < 16 ∨ (∃ p ∈ pre, p.ending.isSome = true) ∨ (x.ending = none ∧ x'.ending = none)) :
    ∃ pre' post', pre'.Sublist pre ∧ joinTable e (pre ++ x :: post) = pre' ++ x :: post'
      ∧ joinTable e (pre ++ x' :: post) = pre' ++ x' :: post' := by
  have hlen : (pre ++ x' :: post).length = (pre ++ x :: post).length := by simp
  unfold joinTable
  rw [hlen]
  split
  · exact ⟨pre, post ++ [e], .refl _, by simp, by simp⟩
  · next full =>
    by_cases closed : ∃ p ∈ pre, p.ending.isSome = true
    · obtain ⟨pre', sub, h⟩ := evict_ahead closed
      exact ⟨pre', post ++ [e], sub, by simp [h x post], by simp [h x' post]⟩
    · obtain ⟨hx, hx'⟩ := (room.resolve_left full).resolve_left closed
      have skip (y : Episode) (hy : y.ending = none) (pre : List Episode) (opens : ∀ p ∈ pre, p.ending = none) :
          evictOldestClosed (pre ++ y :: post) = pre ++ y :: evictOldestClosed post := by
        induction pre with
        | nil => simp [evictOldestClosed, hy]
        | cons p pre ih => simp [evictOldestClosed, opens p (by simp), ih fun q hq => opens q (by simp [hq])]
      have opens : ∀ p ∈ pre, p.ending = none := fun p hp => by
        cases hq : p.ending with
        | none => rfl
        | some _ => exact absurd ⟨p, hp, by simp [hq]⟩ closed
      exact ⟨pre, evictOldestClosed post ++ [e], .refl _, by simp [skip x hx pre opens], by simp [skip x' hx' pre opens]⟩

/-- A change of a detector's OPEN record, wherever it stands (R57, R60). -/
theorem updateRecord_at {d : DetectorId} {pre post table : List Episode} {e : Episode} (h : OpenRecordAt d pre e post table)
    (change : Episode → Episode) : updateRecord d change table = pre ++ change e :: post := by
  obtain ⟨rfl, hs, ho, hp⟩ := h
  induction pre with
  | nil => simp [updateRecord, Episode.isOpenOf, hs, ho]
  | cons p pre ih =>
    have hne : p.isOpenOf d = false := by
      rw [Episode.isOpenOf, Bool.and_eq_false_imp]
      intro h
      simpa using hp p (by simp) (of_decide_eq_true h)
    simp [updateRecord, hne, ih fun q hq => hp q (by simp [hq])]

/-- A record after a sample, by the rule's three fields (R59, R66). -/
theorem sampled_eq (x b : Int) (e : Episode) : e.sampled x (x * 16) b = recordSampled x b e := by
  unfold Episode.sampled recordSampled
  rw [saturatingAdd_eq]
  rfl

/-- The merged detail of a raising (R182). -/
theorem merge_merged {p n : Notice} : Merged p n (p.merge n) := by
  have union {α : Type} [DecidableEq α] (order a b : List α) (hn : order.Nodup) (ha : ∀ x, x ∈ order) :
      (unionIn order a b).Nodup ∧ ∀ x, x ∈ unionIn order a b ↔ x ∈ a ∨ x ∈ b :=
    ⟨hn.filter _, fun x => by simp [unionIn, ha]⟩
  cases p <;> cases n <;> first
    | rfl
    | exact ⟨_, rfl, union _ _ _ (by decide) (by decide)⟩
    | exact ⟨_, rfl, union _ _ _ (by decide) fun x => by cases x <;> decide⟩

/-! ### Counts, loads and the flow -/

theorem counted_eq (sum threshold : Int) (m : Option Int) (snap : Bool) (n : Nat) :
    counted sum m snap threshold n = divergedByRules threshold sum m snap n := by
  cases m <;> cases snap <;> simp [counted, compared, difference, divergedByRules]

theorem countedAbove_eq (sum : Int) (m : Option Int) (snap : Bool) (n : Nat) :
    countedAbove sum m snap 480 n = aboveByRules sum m snap n := by
  cases m with
  | none => rfl
  | some c =>
    cases snap with
    | true => rfl
    | false =>
      simp only [countedAbove, aboveByRules, Bool.false_eq_true, if_false]
      have habs : (480 : Int) < ((c - sum).natAbs : Int) ↔ 480 < c - sum ∨ 480 < sum - c := by omega
      have hlt : 480 < c - sum → sum < c := by omega
      have hge : 480 < sum - c → ¬ sum < c := by omega
      by_cases h1 : 480 < c - sum <;> by_cases h2 : 480 < sum - c <;> simp only [habs, h1, h2] <;> simp_all

theorem addLoad_eq (load acc step : Nat) : addLoad load acc step = loadByRules load acc step := by
  unfold addLoad loadByRules loadUnit max32
  by_cases h : acc + step < 57600000
  · rw [if_neg (by omega), if_pos h]
  · rw [if_pos (by omega), if_neg h]

end Sys2Proof.Machine
end

