-- ==== Sys2Proof/WellFormed.lean ====
section
/-! DEFINITION. Which commands are ones the module can meet: the operands the rules admit, command by command. -/

namespace Sys2Proof

/-- A value fits a signed 32-bit integer, as every value of a condition does (R187). -/
def fits32 (x : Int) : Bool := decide (-2147483648 ≤ x) && decide (x ≤ 2147483647)

/-- The command's operands are ones its rule admits. RECEIVE_FRAME brings at least one byte (R192); UNKNOWN_REQUEST is a frame
whose KIND is not in the catalogue, with a payload a frame can hold (R191, R199); SHIFT_REFUSED_VALUE has an action that
is none of the three (R149); a SAMPLE is not one of FPOS, which the module makes itself (R86), and its raw value fits the
condition that may carry it (R80, R187); an erase leaves sixteen slots (R153); a cut operation at most sixteen (R168). -/
def Instr.wellFormed : Instr → Bool
  | .powerOnReset _ cut => decide (cut.length ≤ 16)
  | .receiveFrame bytes => !bytes.isEmpty
  | .unknownRequest kind payload => !inCatalogue kind && decide (payload.length ≤ 64)
  | .sample code raw _ => decide (code ≠ 9) && fits32 raw
  | .fposRead (some reading) => fits32 reading
  | .eraseFail left => decide (left.length = 16)
  | .shiftRefusedValue action => decide (3 ≤ action.toNat)
  | .fposRead none => true
  | .gapTimeout | .replySent | .ident _ | .cabin _ | .limits _ | .mode _ | .comfort _ | .drive _ _ | .channel _
  | .detector _ | .actuator _ | .flapRecover | .filterFit _ | .filterRead | .watchSet _ | .watchRead | .watchClear _
  | .noticeFetch _ | .noticeMask _ | .conditions _ _ | .stateRead | .channels | .episodes _ | .shiftStart | .shiftEnd
  | .shiftRead | .park | .wake | .restart | .staleExpiry _ | .lostExpiry _ | .estimatorUpdate | .decExpiry
  | .holdExpiry | .purgeExpiry | .ckptExpiry | .erasePass | .programPass | .programFail _ | .scanEnd
  | .contactChange _ _ | .debounceAccept _ | .driveAgeStale | .driveAgeSilent | .uptimeTick | .inhibitAssert
  | .inhibitRelease | .faultLineAssert | .faultLineRelease | .readyChange _ | .moveTimeout | .timedDriveEnd
  | .timedHomingEnd | .stallAssert | .stallRelease => true

end Sys2Proof
end

