-- ==== Sys2Proof/Tests/Slice0.lean ====
section
/-! SUPPORT. Tests: the checks of WellFormed refuse an ill-formed term, the spec's worked cases come out step by step, and each
statement's hypotheses are met by a concrete state. -/

namespace Sys2Proof.Tests

open Sys2Proof Sys2Proof.Machine

/-! ### Well-formedness: each check refuses -/

def allOff : ResetLines :=
  { inhibit := false, faultLine := false, ready := false, stall := false, drvClosed := false, krbClosed := false }

theorem test_wf_cut : (Instr.powerOnReset allOff (List.replicate 17 .damaged)).wellFormed = false
    ∧ (Instr.powerOnReset allOff (List.replicate 16 .damaged)).wellFormed = true := by decide

theorem test_wf_receive : (Instr.receiveFrame []).wellFormed = false
    ∧ (Instr.receiveFrame [.noStop 0#8]).wellFormed = true := by decide

theorem test_wf_unknown_kind : (Instr.unknownRequest 0x19#8 []).wellFormed = false
    ∧ (Instr.unknownRequest 0x1A#8 []).wellFormed = true := by decide

theorem test_wf_unknown_payload : (Instr.unknownRequest 0#8 (List.replicate 65 0#8)).wellFormed = false
    ∧ (Instr.unknownRequest 0#8 (List.replicate 64 0#8)).wellFormed = true := by decide

theorem test_wf_sample_fpos : (Instr.sample 9 500 0).wellFormed = false ∧ (Instr.sample 8 500 0).wellFormed = true := by
  decide

theorem test_wf_sample_raw : (Instr.sample 0 2147483648 0).wellFormed = false
    ∧ (Instr.sample 0 (-2147483648) 0).wellFormed = true := by decide

theorem test_wf_fpos : (Instr.fposRead (some (-2147483649))).wellFormed = false
    ∧ (Instr.fposRead (some 2147483647)).wellFormed = true := by decide

theorem test_wf_erase : (Instr.eraseFail (List.replicate 15 .damaged)).wellFormed = false
    ∧ (Instr.eraseFail (List.replicate 16 .damaged)).wellFormed = true := by decide

theorem test_wf_shift : (Instr.shiftRefusedValue 2#8).wellFormed = false
    ∧ (Instr.shiftRefusedValue 3#8).wellFormed = true := by decide

/-! ### States and readers -/

/-- After the scan of an empty flash: the link port serves. -/
def ready : State := State.reset.withJournal { Journal.afterReset with state := .ready }

def parked : State := ready.withDrive { ready.drive with vehicle := .parked }

def failed : State := ready.withJournal { ready.journal with state := .failed }

/-- Two requests wait, the journal in this state. -/
def waitingIn (state : JournalState) : State :=
  State.reset.withLink { State.reset.link with queue := [.park, .wake] } |>.withJournal { Journal.afterReset with state := state }

/-- A program of sector 2, slot 15, with sequence 496 is under way (chapter 8, worked example). -/
def writing : State :=
  ready.withJournal { ready.journal with
    activeSector := some 2, writePosition := 15, nextSequence := 497,
    write := some { kind := .checkpoint, snapshot := ⟨ready.filter, ready.tally⟩, parkOwed := false,
                    phase := .programming 2 15 496 } }

/-- A record as a program writes it, its CRC good. -/
def stored (sequence : Nat) (kind : RecordKind) (content : Snapshot) : JournalRecord :=
  { sequence := sequence, kind := kind, content := content, crc := recordCrc sequence kind content }

/-- An erase of sector 3 is under way (chapter 8, worked example). -/
def erasing : State :=
  (ready.withJournal { ready.journal with
    activeSector := some 2, writePosition := 16, nextSequence := 497,
    write := some { kind := .checkpoint, snapshot := ⟨ready.filter, ready.tally⟩, parkOwed := false,
                    phase := .erasing 3 } }).withFlash
    [(47, .record (stored 496 .checkpoint ⟨ready.filter, ready.tally⟩)), (48, .damaged), (63, .damaged), (64, .damaged)]

/-- A reply is going out with these requests queued. -/
def sendingWith (queue : List Request) : State :=
  ready.withLink { ready.link with queue := queue, sending := some (.of 0x93#8 []) }

def flapWith (x : Flap) : State := ready.withFlap x

/-- The command completes, and what it leaves satisfies the test. -/
def leaves (c : Instr) (s : State) (test : State → Bool) : Bool :=
  match exec c s with
  | .next t => test t
  | .fault _ | .refused _ => false

/-- The payload of the reply that goes out. -/
def replyOf (s : State) : List Byte := (s.link.sending.map (·.payload)).getD []

/-! ### The link port (chapter 11, worked exchange) -/

/-- R191: the STATE frame is A5 00 13 3F 5D. -/
theorem test_state_frame : frameBytes 0x13#8 [] = [0xA5#8, 0x00#8, 0x13#8, 0x3F#8, 0x5D#8] := by decide +kernel

/-- Those five bytes, taken from the line, are served: the STATE reply has 64 bytes of payload. -/
theorem test_state_served :
    leaves (.receiveFrame (onLine [0xA5#8, 0x00#8, 0x13#8, 0x3F#8, 0x5D#8])) ready
      (fun t => decide ((replyOf t).length = 64 ∧ (replyOf t).headD 0xFF#8 = 0x00#8)) = true := by decide +kernel

/-- A wrong last byte: the frame is abandoned (R193). -/
theorem test_frame_abandoned :
    leaves (.receiveFrame (onLine [0xA5#8, 0x00#8, 0x13#8, 0x3F#8, 0x5C#8])) ready
      (fun t => t.link.badFrame && t.link.sending.isNone && decide (t.link.receiver = .hunt)) = true := by
  decide +kernel

/-- A STATE frame that arrives in two parts, the second of them from the receiver state the first has left, is served (R192). -/
theorem test_split_frame :
    leaves (.receiveFrame (onLine [0xA5#8, 0x00#8])) ready (fun t => decide (t.link.receiver = .kind 0 ∧ t.link.gapMs = 0)) = true
      ∧ leaves (.receiveFrame (onLine [0x13#8, 0x3F#8, 0x5D#8])) (ready.withLink { ready.link with receiver := .kind 0 })
        (fun t => decide (t.link.queue = [.stateRead] ∧ t.link.receiver = .hunt)) = true := by decide +kernel

/-- A byte other than 0xA5 is discarded in HUNT: a frame without its SYNC changes nothing (R192). -/
theorem test_no_sync :
    leaves (.receiveFrame (onLine [0x5A#8, 0x00#8, 0x13#8, 0x3F#8, 0x5D#8])) ready (fun t => decide (t = ready)) = true := by
  decide +kernel

/-- A byte without its stop bit does not reach the receiver (R190). -/
theorem test_no_stop_bit : leaves (.receiveFrame [.noStop 0xA5#8]) ready (fun t => decide (t = ready)) = true := by
  decide +kernel

/-- The third request of the exchange finds both entries occupied: DROPPED. -/
theorem test_third_dropped :
    leaves .watchRead (sendingWith [.stateRead, .noticeFetch 0#8])
      (fun t => t.link.dropped && decide (t.link.queue = [.stateRead, .noticeFetch 0#8])) = true := by decide +kernel

/-- The next entry's reply carries DROPPED, which is then clear; here the fetch finds nothing: EMPTY. -/
theorem test_reply_sent :
    leaves .replySent ((sendingWith [.stateRead, .noticeFetch 0#8]).withLink
        { (sendingWith [.stateRead, .noticeFetch 0#8]).link with dropped := true })
      (fun t => decide (replyOf t = [6#8, 1#8]) && !t.link.dropped && decide (t.link.queue = [.noticeFetch 0#8]))
      = true := by decide +kernel

/-- KIND 1A is not in the catalogue (R199). -/
theorem test_unknown_request :
    leaves (.unknownRequest 0x1A#8 []) ready
      (fun t => decide (t.link.sending = some (.of 0x9A#8 [2#8, 0#8]))) = true := by decide +kernel

/-- The refusal's whole frame on the line: SYNC, LEN 2, KIND 9A, result and status, and the CRC B032 (R191, by hand). -/
theorem test_reply_frame :
    leaves (.unknownRequest 0x1A#8 []) ready
      (fun t => decide (t.link.sending.map Reply.frame
        = some [0xA5#8, 2#8, 0x9A#8, 2#8, 0#8, 0xB0#8, 0x32#8])) = true := by decide +kernel

/-- PARK with LEN 1 (R199): REFUSED-LENGTH from the port itself. -/
theorem test_bad_length :
    leaves (.receiveFrame (onLine (frameBytes 0x17#8 [0#8]))) ready
      (fun t => decide (t.link.sending = some (.of 0x97#8 [3#8, 0#8])) && decide (t.drive = ready.drive)) = true := by
  decide +kernel

/-- A LIMITS payload of R34's defaults, high byte first. -/
theorem test_decode_limits : decodeRequest 0x03#8
    [4#8, 0xB0#8, 7#8, 0xD0#8, 5#8, 0xDC#8, 0#8, 15#8, 0#8, 40#8, 1#8, 0x2C#8, 0#8, 10#8, 0#8, 30#8, 0#8, 180#8,
     0#8, 15#8, 0#8, 45#8]
    = .limits { co2Limit := 1200#16, co2Hard := 2000#16, fogMin := 1500#16, cleanPm := 15#16, cleanGas := 40#16,
                recircDwell := 300#16, decisionPeriod := 10#16, changeDwell := 30#16, holdMax := 180#16,
                releaseDelay := 15#16, purgeTime := 45#16 } := by decide

/-- WATCH SET: slot 2, quantity 12 (ECO), BELOW, STOP, level -1, hysteresis 256: descriptor 1100 01 01. -/
theorem test_decode_watch : decodeRequest 0x0D#8 [2#8, 0xC5#8, 0xFF#8, 0xFF#8, 0xFF#8, 0xFF#8, 1#8, 0#8]
    = .watchSet { slot := 2#8, quantity := 12#4, kind := 1#2, scope := 1#2, level := 0xFFFFFFFF#32, hysteresis := 256#16 } := by
  decide

/-- An unknown filter kind is none of the three (R199). -/
theorem test_filter_kind_unknown :
    leaves (.filterFit { kind := 3#8, fitDay := 0#16, pmCap := 0#32, gasCap := 0#32, etaPmBase := 0#16,
                         etaGasBase := 0#16 }) ready
      (fun t => decide (replyOf t = [4#8, 0#8]) && decide (t.filter = ready.filter)) = true := by decide +kernel

/-! ### One update and one decision (sections 1.9 and the worked case of chapter 2) -/

def live (x : Int) (r : ChannelRecord) : ChannelRecord :=
  { r with state := .live, lastValue := x, ageMs := some 0, lastQuality := some .good }

/-- The truck behind a bus, before the update. -/
def traffic : State :=
  ((((((ready.withChannels { ready.channels with
      opm := live 120 ready.channels.opm, ogs := live 40 ready.channels.ogs, otm := live 120 ready.channels.otm,
      orh := live 800 ready.channels.orh, ctm := live 215 ready.channels.ctm,
      stm := live 160 ready.channels.stm }).withEst { ready.est with
      epm := 480, egs := 500, eco := 14400, eah := 9000, freshCpm := some 31, freshCrh := some 520, snapPm := false,
      snapCo2 := false, snapAh := false, fogMargin := 3831, cabin := { ready.est.cabin with occupants := 2 } }).withFlap
    { ready.flap with target := 250, setPoint := 250 }).withBlower { ready.blower with level := 4 }).withFilter
    { ready.filter with kind := .combined, pmLoad := 6250, state := .inService }).withDrive
    { ready.drive with lastSpeed := 30, freshness := .fresh, engine := some .run, vehicle := .moving }).withPolicy
    { ready.policy with target := 250, comfort := 4, demand := 4, lastChange := some 0 }

theorem test_update_estimates :
    leaves .estimatorUpdate traffic
      (fun t => decide (t.est.epm = 480 ∧ t.est.egs = 493 ∧ t.est.eco = 14418 ∧ t.est.eah = 9228 ∧ t.est.mixedPm = 840
        ∧ t.est.mixedGas = 535 ∧ t.est.lastFlow = 162 ∧ t.est.freshCpm = none)) = true := by decide +kernel

theorem test_update_door_open :
    leaves .estimatorUpdate (traffic.withDrive { traffic.drive with drv := { traffic.drive.drv with isOpen := true } })
      (fun t => decide (t.est.epm = 522)) = true := by decide +kernel

theorem test_fog_margin : leaves (.sample 4 520 0) traffic (fun t => decide (t.est.fogMargin = 3831)) = true := by
  decide +kernel

theorem test_decision :
    leaves .decExpiry (traffic.withUptime 120)
      (fun t => decide (t.policy.target = 500 ∧ t.policy.basis = .ventilate ∧ t.policy.held = false
        ∧ t.policy.lastChange = some 120 ∧ t.policy.demand = 4 ∧ t.flap.target = 500)) = true := by decide +kernel

theorem test_decision_cold :
    leaves .decExpiry (traffic.withEst { traffic.est with fogMargin := -1533 })
      (fun t => decide (t.policy.target = 1000 ∧ t.policy.basis = .fogOverride ∧ t.policy.fogFlag = true
        ∧ t.notices.pending = [⟨.fogAlert (-1533), false⟩])) = true := by decide +kernel

/-! ### One plume (section 3.8) -/

/-- The PM detector with this baseline at this time. -/
def quietAt (b : Int) (uptime : Nat) : State :=
  (ready.withTracker { ready.tracker with pm := { ready.tracker.pm with baseline := some b } }).withUptime uptime

theorem test_baseline_moves :
    leaves (.sample 0 70 0) (quietAt 960 3001) (fun t => decide (t.tracker.pm.baseline = some 962)) = true := by
  decide +kernel

theorem test_episode_opens :
    leaves (.sample 0 96 0) (quietAt 962 3002) (fun t => decide (t.tracker.table =
      [{ number := 1, source := .pm, start := 3002, ending := none, peak := 96, baselineAtOpen := 60, dose := 574 }]
        ∧ t.policy.hold = .holding)) = true := by decide +kernel

/-! ### A TIMED retarget (chapter 6, worked sequence) -/

/-- 4001.200, and 4003.400 before the drive ends. -/
def movingFresh : State :=
  traffic.withFlap { traffic.flap with
    state := .moving, target := 1000, setPoint := 400, towardFresh := true,
    driveInFlight := some { start := 400, destination := 1000, towardFresh := true, duration := 2400, elapsed := 600 } }

def movingRecirc : State :=
  traffic.withFlap { traffic.flap with
    state := .moving, target := 1000, setPoint := 550, towardRecirc := true, inhibit := true,
    driveInFlight := some { start := 550, destination := 0, towardFresh := false, duration := 2200, elapsed := 2200 } }

theorem test_retarget_reverses :
    leaves (.mode 2#8) (movingFresh.withPolicy { movingFresh.policy with target := 1000 })
      (fun t => decide (t.flap.state = .moving ∧ t.flap.towardRecirc = true ∧ t.flap.towardFresh = false
        ∧ t.flap.driveInFlight =
          some { start := 550, destination := 0, towardFresh := false, duration := 2200, elapsed := 0 })) = true := by
  decide +kernel

theorem test_drive_ends :
    leaves .timedDriveEnd movingRecirc
      (fun t => decide (t.flap.state = .idle ∧ t.flap.setPoint = 0 ∧ t.flapPosition = 0
        ∧ t.notices.pending = [⟨.moveDone 0, false⟩] ∧ t.notices.attention = false)) = true := by decide +kernel

theorem test_inhibit_release_starts :
    leaves .inhibitRelease (traffic.withFlap { traffic.flap with target := 1000, setPoint := 0, inhibit := true })
      (fun t => decide (t.flap.state = .moving ∧ t.flap.driveInFlight =
        some { start := 0, destination := 1000, towardFresh := true, duration := 4000, elapsed := 0 })) = true := by
  decide +kernel

/-! ### A filter crosses into WORN (chapter 7) -/

theorem test_captured_load :
    let r : FilterRecord := { FilterRecord.afterReset with
      kind := .combined, state := .inService, pmLoad := 19999, pmAcc := 57540000, gasLoad := 20000,
      gasAcc := 57580000 }
    let t := r.captured (flowOf 4 r.derate false) 840 535
    r.derate = 681 ∧ r.etaGas = 540 ∧ t.pmLoad = 20000 ∧ t.pmAcc = 37356 ∧ t.gasLoad = 20001 ∧ t.gasAcc = 15245
      ∧ t.state = .worn ∧ t.derate = 680 ∧ t.etaGas = 539 := by decide +kernel

/-! ### A sector switch, a failed erase and a scan (chapter 8) -/

theorem test_program_passes :
    leaves .programPass writing (fun t => decide (t.journal.newest = some ⟨2, 496, .checkpoint⟩
      ∧ t.journal.writePosition = 16 ∧ t.journal.write = none)
      && (match t.flash.read 47 with
          | .record r => decide (r.sequence = 496 ∧ r.kind = .checkpoint ∧ r.content = ⟨ready.filter, ready.tally⟩)
          | _ => false)) = true := by decide +kernel

theorem test_switch_erases_next :
    leaves .ckptExpiry ((ready.withJournal { ready.journal with
        activeSector := some 2, writePosition := 16, nextSequence := 497, newest := some ⟨2, 496, .checkpoint⟩ }).withTimers
        { ready.timers with ckpt := some 1 })
      (fun t => decide (t.journal.write.map (·.phase) = some (.erasing 3))) = true := by decide +kernel

theorem test_erase_fails :
    leaves (.eraseFail ((List.replicate 6 .complete) ++ [.damaged] ++ List.replicate 9 .untouched)) erasing
      (fun t => decide (t.journal.retired = [3] ∧ t.journal.write.map (·.phase) = some (.erasing 4)
        ∧ t.flash.read 48 = .erased ∧ t.flash.read 54 = .damaged ∧ t.flash.read 63 = .damaged)) = true := by
  decide +kernel

theorem test_erase_passes :
    leaves .erasePass erasing
      (fun t => decide (t.journal.write.map (·.phase) = some (.programming 3 0 497) ∧ t.flash.read 63 = .erased
        ∧ t.flash.read 64 = .damaged ∧ t.journal.activeSector = some 3)) = true := by decide +kernel

/-- The record of slot 66, and one whose CRC is not good. -/
def newestStored : JournalRecord := stored 499 .fit ⟨{ ready.filter with fitDay := 7 }, ready.tally⟩

def badStored : JournalRecord := { newestStored with sequence := 500, crc := ~~~recordCrc 500 .fit newestStored.content }

/-- Sector 4 after the supply failed: slot 67 holds a record that was cut short. -/
def afterCut : State :=
  State.reset.withFlash
    [(64, .record (stored 497 .checkpoint ⟨ready.filter, ready.tally⟩)), (65, .damaged), (66, .record newestStored),
     (67, .record badStored)]

theorem stored_valid {n : Nat} (k : RecordKind) (c : Snapshot) (h0 : n ≠ 0) (hm : n ≠ max32) :
    (Slot.record (stored n k c)).valid? = some (stored n k c) :=
  Slot.valid?_eq_some.mpr ⟨rfl, decide_eq_true rfl, h0, hm⟩

/-- A record whose CRC is not good is DAMAGED, however high its sequence (R153, R154). -/
theorem test_bad_crc_passed_over : (Slot.record badStored).valid? = none := by
  have h : badStored.crcGood = false :=
    decide_eq_false fun h => absurd (congrArg (·.getLsbD 0) h) (by simp [badStored, newestStored, stored])
  rw [Slot.valid?, if_pos (.inl h)]

theorem newestStored_valid : (Slot.record newestStored).valid? = some newestStored :=
  stored_valid .fit _ (by decide) (by decide)

theorem newestStored_highest :
    ∀ e ∈ afterCut.flash, ∀ x, e.2.valid? = some x → x.sequence < newestStored.sequence ∨ e.1 = 66 ∧ x = newestStored := by
  intro e he x hx
  rcases List.mem_cons.mp he with rfl | he
  · cases (stored_valid .checkpoint _ (by decide) (by decide)).symm.trans hx
    exact .inl (by decide)
  rcases List.mem_cons.mp he with rfl | he
  · cases hx
  rcases List.mem_cons.mp he with rfl | he
  · cases newestStored_valid.symm.trans hx
    exact .inr ⟨rfl, rfl⟩
  rcases List.mem_cons.mp he with rfl | he
  · cases test_bad_crc_passed_over.symm.trans hx
  · cases he

/-- The scan finds the record of sequence 499 in slot 66 (chapter 8, worked example). -/
theorem test_scan_finds : afterCut.flash.newestValid = some ⟨66, newestStored⟩ :=
  Flash.newestValid_eq (.tail _ (.tail _ (.head _))) newestStored_valid newestStored_highest

theorem test_scan_adopts :
    decide ((endScan afterCut).journal.state = .ready ∧ (endScan afterCut).journal.activeSector = some 4
      ∧ (endScan afterCut).journal.writePosition = 3 ∧ (endScan afterCut).journal.nextSequence = 500
      ∧ (endScan afterCut).journal.newest = some ⟨4, 499, .fit⟩ ∧ (endScan afterCut).filter.fitDay = 7) = true := by
  rw [endScan, test_scan_finds]
  decide +kernel

/-- A record fills its slot: the fields' 60 bytes, two of 0xFF, and the CRC of those 62 (R154). -/
theorem test_record_bytes (r : JournalRecord) :
    r.bytes.length = 64 ∧ (r.bytes.drop 60).take 2 = [0xFF#8, 0xFF#8] ∧ r.bytes.drop 62 = bytes16 r.crc :=
  ⟨r.bytes_length, r.bytes_filler, r.bytes_split.2⟩

/-- The first write after the scan finds slot 3 DAMAGED and programs slot 4. -/
theorem test_damaged_slot_skipped :
    leaves .ckptExpiry (afterCut.withJournal { afterCut.journal with
        state := .ready, activeSector := some 4, writePosition := 3, nextSequence := 500, newest := some ⟨4, 499, .fit⟩ })
      (fun t => decide (t.journal.write.map (·.phase) = some (.programming 4 4 500))) = true := by decide +kernel

/-! ### A full table (section 3.8) -/

def record (n : Nat) (ending : Option EpisodeEnd) (source : DetectorId) : Episode :=
  { number := n, source := source, start := 3000 + n, ending := ending, peak := 100, baselineAtOpen := 60, dose := 1 }

def fullTable : State :=
  (quietAt 962 3441).withTracker { (quietAt 962 3441).tracker with
    gas := { ready.tracker.gas with baseline := some 640, openEpisode := some 31 }, nextNumber := 47,
    table := record 31 none .gas :: (List.range 15).map fun i => record (32 + i) (some ⟨3050 + i, .released⟩) .pm }

/-- The oldest CLOSED record gives way, not the open one at the head. -/
theorem test_eviction :
    leaves (.sample 0 160 0) fullTable
      (fun t => decide (t.tracker.table.map (·.number) = 31 :: (List.range 15).map (· + 33))) = true := by decide +kernel

/-- From 46 the reply holds record 46 alone, and no more follow. -/
theorem test_episodes_read :
    leaves (.episodes 46#16) fullTable (fun t => decide ((replyOf t).take 5 = [0#8, 0#8, 0#8, 0#8, 46#8])) = true := by
  decide +kernel

theorem test_episodes_empty :
    leaves (.episodes 50#16) fullTable (fun t => decide (replyOf t = [6#8, 0#8, 0#8])) = true := by decide +kernel

/-! ### Further single steps -/

/-- R102, R33: PARK stops the timers, the flap goes to 1000 and the blower to 0, and the reply waits for the write. -/
theorem test_park :
    leaves .park traffic (fun t => decide (t.drive.vehicle = .parked ∧ t.timers.est = none ∧ t.policy.target = 1000
      ∧ t.blower.level = 0 ∧ t.link.sending = none ∧ t.journal.write.map (·.kind) = some .park)) = true := by
  decide +kernel

theorem test_wake_refused : leaves .wake ready (fun t => decide (replyOf t = [5#8, 0#8])) = true := by decide +kernel

/-- The link status of a reply while PARKED has bit 3 set (R198). -/
theorem test_parked_status : leaves .filterRead parked (fun t => decide ((replyOf t).take 2 = [0#8, 8#8])) = true := by
  decide +kernel

theorem test_comfort_clamped :
    leaves (.comfort 8#8) ready (fun t => decide (t.policy.comfort = 7 ∧ t.blower.level = 7 ∧ replyOf t = [1#8, 0#8]))
      = true := by decide +kernel

/-- An armed CROSS-UP slot hits above its level, not at it (R175). -/
theorem test_cross_up :
    let s := ready.withWatch { ready.watch with
      slot1 := { quantity := .eco, kind := .crossUp, level := 100, hysteresis := 10, scope := .always, armed := true,
                 firstHit := none } }
    (evaluateSlot .one 101 s).watch.slot1.firstHit = some ⟨0, 101⟩
      ∧ (evaluateSlot .one 100 s).watch.slot1.firstHit = none ∧ (evaluateSlot .one 100 s).watch.slot1.armed = true := by
  decide +kernel

/-- Half values round away from zero; a quotient with a negative numerator rounds down (Introduction, "Rounding"). -/
theorem test_rounding : nearest 11 2 = 6 ∧ nearest (-35) 4 = -9 ∧ nearest (-5) 2 = -3 ∧ ((-7 : Int) / 2 = -4) := by
  decide

/-- A queued command is taken from the front. -/
theorem test_step_takes_front :
    (match step { ready with pending := [.uptimeTick, .wake] } with
      | .next t => decide (t.uptime = 1 ∧ t.pending = [.wake])
      | _ => false) = true := by decide +kernel

/-! ### The hypotheses of the statements are met

One theorem per statement that has hypotheses: each of its clauses at a concrete state and operands, at the ends of the
ranges where a clause names one. -/

theorem portFree_ready : PortFree ready := by unfold PortFree; decide +kernel

theorem witness_StepRunsFrontCommand :
    ({ ready with pending := [.park, .wake] } : State).pending = .park :: [.wake] := rfl

/-- Every clock runs, and each stands one millisecond before the last that brings nothing. -/
def ticking : State :=
  { State.reset with
    secondMs := 998, journal := { State.reset.journal with scanMs := 1998 },
    link := { State.reset.link with receiver := .length, gapMs := 18 },
    channels := { State.reset.channels with
      opm := { State.reset.channels.opm with state := .live, ageMs := some 4998 },
      fpos := { State.reset.channels.fpos with state := .stale, ageMs := some 9998 } },
    drive := { State.reset.drive with
      freshness := .stale, ageMs := 29998, krb := { State.reset.drive.krb with debounce := some ⟨true, 48⟩ } },
    timers := { est := some 2, dec := some 2, hold := some 2, purge := some 2, ckpt := some 1 },
    flap := { State.reset.flap with
      state := .moving, moveTimer := some ⟨5998, 6000⟩,
      driveInFlight := some { start := 1000, destination := 0, towardFresh := false, duration := 4000, elapsed := 3998 } } }

theorem ticking_nothingDue : NothingDue ticking := by
  unfold NothingDue
  and_intros
  case _ => decide
  all_goals intro x
  all_goals first
    | decide
    | (cases x <;> decide)
    | (intro h; cases h; decide)

theorem witness_IdleStepIsMillisecond :
    (ticking.pending = [] ∧ NothingDue ticking) ∧ ready.pending = [] ∧ ready.secondMs + 1 < 1000
      ∧ (ready.withSecondMs 998).secondMs + 1 < 1000 ∧ 1000 ≤ (ready.withSecondMs 999).secondMs + 1 :=
  ⟨⟨rfl, ticking_nothingDue⟩, by decide +kernel⟩

theorem witness_RequestWaitsOrIsDropped :
    requestOf (.comfort 8#8) = some (.comfort 8#8)
      ∧ 2 ≤ (sendingWith [.park, .wake]).link.queue.length
      ∧ ((sendingWith [.park]).link.queue.length < 2 ∧ (sendingWith [.park]).link.sending.isSome = true)
      ∧ (State.reset.link.queue.length < 2 ∧ State.reset.journal.state = .scanning) := by decide +kernel

theorem witness_ReceivedFrameIsItsRequest :
    requestOf .stateRead = some .stateRead ∧ Request.stateRead.inCatalogue = true ∧ ready.link.receiver = .hunt
      ∧ (List.replicate 64 0#8).length ≤ 64 := by decide +kernel

theorem witness_ReceivedFrameIsItsRequest_bytes :
    ready.link.receiver = .hunt ∧ 0xA4#8 ≠ 0xA5#8 ∧ ByteStored 0xA5#8 ready.link.receiver .length
      ∧ ByteStored 64#8 .length (.kind 64) ∧ ByteStored 1#8 (.kind 0) (.check 1#8 [] none)
      ∧ ByteStored 1#8 (.kind 64) (.body 64 1#8 []) ∧ ByteStored 7#8 (.body 2 1#8 []) (.body 2 1#8 [7#8])
      ∧ ByteStored 8#8 (.body 2 1#8 [7#8]) (.check 1#8 [7#8, 8#8] none)
      ∧ ByteStored 9#8 (.check 1#8 [] none) (.check 1#8 [] (some 9#8)) := by
  refine ⟨rfl, by decide, ⟨rfl, rfl⟩, ⟨by decide, rfl⟩, rfl, rfl, rfl, rfl, rfl⟩

theorem witness_RequestDecodesFromPayload :
    (Request.ident none).inCatalogue = true ∧ (Request.ident (some 0xFFFF#16)).inCatalogue = true
      ∧ Request.restart.inCatalogue = true := by decide

theorem witness_FrameAbandoned :
    ready.link.receiver = .hunt ∧ word16 0x3F#8 0x5C#8 ≠ frameCrc 0x13#8 [] ∧ 64 < (65#8 : Byte).toNat
      ∧ (ready.withLink { ready.link with receiver := .length }).link.receiver ≠ .hunt := by decide +kernel

theorem witness_PortRefusesByItself :
    PortFree ready ∧ (0#8 : Byte).toNat = 0 ∧ 25 < (26#8 : Byte).toNat ∧ ready.link.receiver = .hunt
      ∧ ([0#8] : List Byte).length ∉ allowedLengths 1 ∧ ([0#8] : List Byte).length ∉ allowedLengths 25 :=
  ⟨portFree_ready, by decide +kernel⟩

theorem witness_HeadLeavesAfterReply :
    ((sendingWith [.park]).link.sending.isSome = true ∧ (sendingWith [.park]).link.queue = [.park]
        ∧ Request.park ≠ .restart)
      ∧ ((sendingWith [.park, .wake]).link.queue = [.park, .wake] ∧ (sendingWith [.park, .wake]).journal.state ≠ .scanning
        ∧ (sendingWith [.park, .wake]).link.holding = false ∧ requestOf .wake = some .wake)
      ∧ ready.link.sending = none := by decide +kernel

/-- A byte of the next frame has come in while the reply went out: the receiver keeps it, and the waiting request is served
(R192, R195). -/
theorem test_served_mid_frame :
    let s := sendingWith [.stateRead, .wake]
    leaves .replySent (s.withLink { s.link with receiver := .length, gapMs := 7 })
      (fun t => decide (t.link.receiver = .length ∧ t.link.gapMs = 7 ∧ replyOf t = [5#8, 0#8])) = true := by
  decide +kernel

theorem witness_ResetGivesStartValues :
    ready.journal.write = none ∧ { allOff with faultLine := true }.faultLine = true ∧ allOff.faultLine = false
      ∧ (sendingWith [.restart]).link.sending.isSome = true
      ∧ (sendingWith [.restart]).link.queue.head? = some .restart := by decide +kernel

/-- A FAULT line and a stall that stand asserted have acted after the reset, each with its notice (R123, R133, R184; log 9). -/
theorem test_reset_lines_stand :
    leaves (.powerOnReset { allOff with faultLine := true, stall := true } []) parked
      (fun t => decide (t.flap.state = .fault ∧ t.blower.fault = true ∧ t.notices.attention = true
        ∧ t.notices.pending = [⟨.flapFault .line, false⟩, ⟨.blowerFault, false⟩])) = true := by decide +kernel

theorem witness_IdentAnswered : PortFree ready := portFree_ready

/-- CABIN at both ends of its ranges. -/
def cabinLow : CabinFields :=
  { volume := 2000#16, occupants := 0#8, co2Reference := 350#16, drvExchange := 0#16, krbExchange := 0#16, weight := 0#16,
    drvPolarity := 0#8, krbPolarity := 1#8 }

/-- A halted truck whose kerb door has been accepted as closed to the contact. -/
def kerbClosed : State :=
  ready.withDrive { ready.drive with krb := { ready.drive.krb with contactClosed := true, accepted := some true } }

/-- The blower of a CABIN's decision: as it stood, and as a purge's demand of 7 hands it on (R53, R54). -/
theorem witness_CabinStored_blower : PurgeHanded traffic traffic.blower ∧ PurgeHanded traffic (blowerHanded 7 traffic.blower) :=
  ⟨fun _ _ => .inl rfl, fun due h => .inr (.inl ⟨true, by rw [h]; decide +kernel⟩)⟩

theorem witness_CabinStored :
    (PortFree ready ∧ PortFree parked ∧ PortFree kerbClosed) ∧ 1 < { cabinLow with krbPolarity := 2#8 }.krbPolarity.toNat
      ∧ cabinLow.drvPolarity.toNat ≤ 1 ∧ cabinLow.krbPolarity.toNat ≤ 1
      ∧ (parked.drive.vehicle = .parked
        ∧ doorByRules (parked.drive.door .drv).accepted .normal = (parked.drive.door .drv).isOpen
        ∧ doorByRules (parked.drive.door .krb).accepted .inverted = (parked.drive.door .krb).isOpen)
      ∧ (kerbClosed.drive.vehicle = .halted ∧ (kerbClosed.drive.door .krb).isOpen = false
        ∧ doorByRules (kerbClosed.drive.door .krb).accepted .normal = true
        ∧ doorByRules (kerbClosed.drive.door .krb).accepted .inverted = false
        ∧ doorByRules (kerbClosed.drive.door .drv).accepted .normal = (kerbClosed.drive.door .drv).isOpen)
      ∧ traffic.drive.vehicle ≠ .halted :=
  ⟨⟨portFree_ready, portFree_ready, portFree_ready⟩, by decide +kernel⟩

/-- A polarity under which the kerb door stands open in HALTED starts a stop (R95, R100). -/
theorem test_polarity_opens :
    (reworkDoor .krb kerbClosed).drive.vehicle = .atStop ∧ (reworkDoor .krb kerbClosed).drive.stopFlag = true
      ∧ (reworkDoor .krb kerbClosed).policy.openSince = some 0 := by decide +kernel

/-- LIMITS with co2_limit at its top and co2_hard at its bottom, and with the two equal. -/
def limitsAt (limit hard : Word16) : LimitsFields :=
  { co2Limit := limit, co2Hard := hard, fogMin := 0#16, cleanPm := 200#16, cleanGas := 500#16, recircDwell := 60#16,
    decisionPeriod := 5#16, changeDwell := 300#16, holdMax := 30#16, releaseDelay := 120#16, purgeTime := 300#16 }

theorem witness_LimitsStored :
    PortFree ready ∧ PortFree parked ∧ parked.drive.vehicle = .parked
      ∧ toRange 800 5000 (limitsAt 2000#16 0#16).co2Hard.toNat < toRange 600 2000 (limitsAt 2000#16 0#16).co2Limit.toNat
      ∧ toRange 600 2000 (limitsAt 900#16 900#16).co2Limit.toNat
          ≤ toRange 800 5000 (limitsAt 900#16 900#16).co2Hard.toNat :=
  ⟨portFree_ready, portFree_ready, by decide +kernel⟩

theorem witness_ModeTaken :
    PortFree ready ∧ PortFree parked ∧ 3 < (4#8 : Byte).toNat ∧ (3#8 : Byte).toNat ≤ 3
      ∧ ready.policy.mode.code = (0#8 : Byte).toNat ∧ parked.drive.vehicle = .parked
      ∧ ready.policy.mode.code ≠ (1#8 : Byte).toNat ∧ ready.drive.vehicle ≠ .parked
      ∧ ready.policy.ceilingFlag = false
      ∧ (ready.withPolicy { ready.policy with ceilingFlag := true }).policy.ceilingFlag = true
      ∧ leaves (.mode 2#8) ready (fun t => decide (t.policy.target ≠ ready.policy.target)) = true
      ∧ leaves (.mode 1#8) ready (fun t => decide (t.policy.target = ready.policy.target)) = true
      ∧ ready.blower.stall = false ∧ ready.blower.level = ready.policy.demand
      ∧ ready.policy.mode.code ≠ (3#8 : Byte).toNat :=
  ⟨portFree_ready, portFree_ready, by decide +kernel⟩

theorem witness_ComfortTaken :
    PortFree ready ∧ ready.blower.level = ready.policy.demand ∧ 7 < (8#8 : Byte).toNat ∧ ¬7 < (7#8 : Byte).toNat
      ∧ (parked.withBlower { parked.blower with level := 2 }).blower.level = parked.policy.demand
      ∧ (sendingWith [.restart]).link.queue.head? = some .restart
      ∧ leaves .replySent (sendingWith [.restart]) (fun _ => true) = true :=
  ⟨portFree_ready, by decide +kernel⟩

/-- A truck on the move, its door open or not, with the last speed above the threshold. -/
def moving (doorOpen : Bool) : State :=
  ready.withDrive { ready.drive with
    vehicle := .moving, lastSpeed := 6, freshness := .fresh, drv := { ready.drive.drv with isOpen := doorOpen } }

theorem witness_DriveTaken :
    (PortFree ready ∧ PortFree (moving true) ∧ PortFree parked) ∧ 1 < (2#8 : Byte).toNat ∧ (1#8 : Byte).toNat ≤ 1
      ∧ ready.drive.vehicle ≠ .parked ∧ min (0#16 : Word16).toNat 250 = ready.drive.reportedSpeed
      ∧ (min (6#16 : Word16).toNat 250 ≠ ready.drive.reportedSpeed ∧ 5 < (6#16 : Word16).toNat)
      ∧ (min (5#16 : Word16).toNat 250 ≠ ready.drive.reportedSpeed ∧ (5#16 : Word16).toNat ≤ 5)
      ∧ min (5#16 : Word16).toNat 250 ≠ (moving true).drive.reportedSpeed ∧ (moving true).drive.vehicle = .moving
      ∧ (moving true).drive.drv.isOpen = true ∧ (moving false).drive.drv.isOpen = false
      ∧ (moving false).drive.krb.isOpen = false ∧ min (5#16 : Word16).toNat 250 ≠ (moving false).drive.reportedSpeed
      ∧ (moving true).drive.stopFlag = false
      ∧ (1#8 : Byte).toNat = 1 ∧ parked.drive.vehicle = .parked
      ∧ min (0#16 : Word16).toNat 250 = parked.drive.reportedSpeed
      ∧ min (251#16 : Word16).toNat 250 ≠ parked.drive.reportedSpeed :=
  ⟨⟨portFree_ready, portFree_ready, portFree_ready⟩, by decide +kernel⟩

/-- Parked in the middle of a stop or not, the driver's door as given, slot 1 watching the speed for the stop. -/
def parkedAtStop (stopFlag doorOpen : Bool) : State :=
  (ready.withDrive { ready.drive with
      vehicle := .parked, stopFlag := stopFlag, drv := { ready.drive.drv with isOpen := doorOpen } }).withWatch
    { ready.watch with slot1 := { ready.watch.slot1 with quantity := .speed, level := 3, scope := .stop } }

/-- A DRIVE with RUN leaves PARKED: at 6 km/h the stop ends and its slot is OFF before the speed comes to it; at 5 the truck stands, and the
slot takes the speed (R99, R101, R103, R172, R177; log 31). -/
theorem test_drive_leaves_parked :
    leaves (.drive 6#16 0#8) (parkedAtStop true false)
        (fun t => decide (t.drive.vehicle = .moving ∧ t.drive.stopFlag = false ∧ t.watch.slot1.scope = .off
          ∧ t.watch.slot1.firstHit = none)) = true
      ∧ leaves (.drive 5#16 0#8) (parkedAtStop true false)
        (fun t => decide (t.drive.vehicle = .halted ∧ t.drive.stopFlag = true ∧ t.watch.slot1.firstHit = some ⟨0, 5⟩)) = true := by
  decide +kernel

theorem witness_ParkedIsLeft :
    PortFree ready ∧ ready.drive.vehicle ≠ .parked ∧ PortFree parked ∧ parked.drive.vehicle = .parked
      ∧ (parkedAtStop true false).drive.vehicle = .parked ∧ (parkedAtStop false true).drive.drv.isOpen = true
      ∧ min (251#16 : Word16).toNat 250 = 250
      ∧ parked.blower.stall = false ∧ parked.blower.level = parked.policy.demand :=
  ⟨portFree_ready, by decide +kernel, portFree_ready, by decide +kernel⟩

/-- A parked truck with the CO2 at the limit, so that a closed flap is not admissible, and a warm windscreen; its blower is at level 0,
under a stall or not. -/
def parkedStalled (stall : Bool) : State :=
  (((parked.setChannel .stm { parked.channels.get .stm with substitute := some 300 }).withBlower
      { parked.blower with level := 0, stall := stall }).withPolicy { parked.policy with demand := 0 }).withEst
    { parked.est with eco := 19200, fogMargin := 4000 }

/-- A level that rises from 0 under a stall puts the blower in FAULT, and the decision of the same event finds no flow, so that no
candidate is admissible; without the stall it ventilates (R36 to R38, R42, R133). -/
theorem test_wake_under_stall :
    leaves .wake (parkedStalled true) (fun t => t.blower.fault && decide (t.blower.level = 4 ∧ t.policy.basis = .ventLimited)
        && t.notices.pending.any fun p => decide (p.notice = .blowerFault)) = true
      ∧ leaves .wake (parkedStalled false)
        (fun t => !t.blower.fault && decide (t.blower.level = 2 ∧ t.policy.basis = .ventilate)) = true := by decide +kernel

/-- Channel c in this state, with these times. -/
def channelIn (c : Channel) (state : ChannelState) (stale lost : Nat) : State :=
  ready.setChannel c { ready.channels.get c with state := state, staleTime := stale, lostTime := lost, ageMs := some 900 }

/-- OPM LIVE, its age past a second. -/
def longAge : State :=
  ready.setChannel .opm { ready.channels.get .opm with state := .live, ageMs := some 1000 }

theorem witness_ChannelStored :
    PortFree ready ∧ 9 < (10#8 : Byte).toNat ∧ (0#8 : Byte).toNat = Channel.opm.code ∧ (9#8 : Byte).toNat = Channel.fpos.code
      ∧ (ready.channels.get .opm).state = .none ∧ ((channelIn .opm .lost 1 1).channels.get .opm).state = .lost
      ∧ ((channelIn .opm .live 5 30).channels.get .opm).state = .live
      ∧ ((channelIn .opm .stale 1 30).channels.get .opm).state = .stale
      ∧ leaves (.channel { code := 7#8, substitute := 0xFED4#16, staleTime := 5#16, lostTime := 30#16 }) ready
          (fun t => decide ((t.channels.get .otm).substitute ≠ (ready.channels.get .otm).substitute)) = true
      ∧ leaves (.channel { code := 8#8, substitute := 600#16, staleTime := 5#16, lostTime := 30#16 }) ready
          (fun t => decide ((t.channels.get .stm).substitute ≠ (ready.channels.get .stm).substitute)) = true
      ∧ leaves (.channel { code := 0#8, substitute := 60#16, staleTime := 1#16, lostTime := 1#16 }) longAge
          (fun t => decide ((t.channels.get .opm).state = .lost)) = true
      ∧ leaves (.channel { code := 0#8, substitute := 60#16, staleTime := 5#16, lostTime := 30#16 }) longAge
          (fun t => decide ((t.channels.get .opm).staleTime = 5 ∧ (t.channels.get .opm).lostTime = 30)) = true
      ∧ leaves (.channel { code := 0#8, substitute := 60#16, staleTime := 1#16, lostTime := 2#16 }) longAge
          (fun t => decide ((t.channels.get .opm).state ≠ .lost)) = true
      ∧ leaves (.channel { code := 0#8, substitute := 60#16, staleTime := 9#16, lostTime := 9#16 }) ready
          (fun t => decide ((t.channels.get .opm).substitute = (ready.channels.get .opm).substitute)) = true
      ∧ leaves (.channel { code := 4#8, substitute := 500#16, staleTime := 1#16, lostTime := 1#16 })
          (ready.setChannel .crh { ready.channels.get .crh with state := .stale, ageMs := some 1000 })
          (fun t => decide ((t.channels.get .crh).state = .lost)) = true
      ∧ Channel.opm.code = DetectorId.pm.code ∧ Channel.ogs.code = DetectorId.gas.code :=
  ⟨portFree_ready, by decide +kernel⟩

theorem witness_DetectorStored :
    PortFree ready ∧ 1 < (2#8 : Byte).toNat ∧ (0#8 : Byte).toNat = DetectorId.pm.code
      ∧ (1#8 : Byte).toNat = DetectorId.gas.code :=
  ⟨portFree_ready, by decide +kernel⟩

def flapIn (mode : DriveMode) (state : FlapState) : State :=
  ready.withFlap { ready.flap with mode := mode, state := state }

/-- A move or a homing under way, with its timer running. -/
def flapTimed (state : FlapState) : State :=
  ready.withFlap { ready.flap with mode := .tracked, state := state, moveTimer := some ⟨10, 6000⟩ }

theorem witness_ActuatorStored :
    PortFree ready ∧ 3 < (4#8 : Byte).toNat ∧ (3#8 : Byte).toNat ≤ 3 ∧ (flapTimed .moving).flap.state = .moving
      ∧ (flapTimed .homing).flap.state = .homing ∧ (flapIn .tracked .fault).flap.state = .fault
      ∧ (flapIn .tracked .disabled).flap.state = .disabled
      ∧ (ready.flap.state = .idle ∧ ready.flap.target = ready.flap.setPoint)
      ∧ (flapTimed .waitReady).flap.state = .waitReady
      ∧ leaves (.actuator { mode := 0#8, travelTime := 500#16, moveTimeout := 20000#16 }) (flapTimed .waitReady)
          (fun t => decide (t.flap.mode = .tracked)) = true
      ∧ leaves (.actuator { mode := 3#8, travelTime := 500#16, moveTimeout := 20000#16 }) (flapTimed .waitReady)
          (fun t => decide (t.flap.mode ≠ .tracked)) = true
      ∧ leaves (.actuator { mode := 2#8, travelTime := 500#16, moveTimeout := 20000#16 }) ready
          (fun t => decide (t.flap.mode = ready.flap.mode)) = true
      ∧ leaves (.actuator { mode := 3#8, travelTime := 500#16, moveTimeout := 20000#16 }) ready
          (fun t => decide (t.flap.mode ≠ ready.flap.mode)) = true :=
  ⟨portFree_ready, by decide +kernel⟩

/-- DIRECT entered from IDLE brings the demand output to the set point, unless INHIBIT stands (R129). -/
theorem test_enter_direct :
    let f := { ready.flap with target := 250, setPoint := 250 }
    let c := Instr.actuator { mode := 3#8, travelTime := 500#16, moveTimeout := 20000#16 }
    leaves c (flapWith f) (fun t => decide (t.flap.demand = 250 ∧ t.flap.state = .idle)) = true
      ∧ leaves c (flapWith { f with inhibit := true }) (fun t => decide (t.flap.demand = 1000)) = true := by decide +kernel

/-- Another mode ends a wait for READY, and EDGE starts the due move at once (R129). -/
theorem test_mode_ends_wait :
    leaves (.actuator { mode := 1#8, travelTime := 500#16, moveTimeout := 20000#16 })
      (flapWith { (flapTimed .waitReady).flap with target := 0 })
      (fun t => decide (t.flap.state = .moving ∧ t.flap.demand = 0 ∧ t.flap.moveTimer = some ⟨0, 20000⟩)) = true := by
  decide +kernel

theorem witness_FlapRecoverTaken :
    PortFree ready ∧ ready.flap.state ≠ .fault
      ∧ ((flapWith { ready.flap with state := .fault, inhibit := true }).flap.inhibit = true)
      ∧ ((flapIn .timed .fault).flap.state = .fault ∧ (flapIn .timed .fault).flap.inhibit = false
        ∧ (flapIn .timed .fault).flap.faultLine = false ∧ (flapIn .timed .fault).flap.mode = .timed)
      ∧ (flapWith { ready.flap with state := .fault, faultLine := true }).flap.faultLine = true
      ∧ 3 ≤ (flapWith { ready.flap with state := .fault, faultLine := true, failCount := 2 }).flap.failCount + 1
      ∧ (flapWith { ready.flap with state := .fault, faultLine := true, mode := .direct }).flap.mode ≠ .timed
      ∧ (flapIn .edge .fault).flap.mode = .edge
      ∧ (flapWith { ready.flap with state := .fault, mode := .tracked, ready := true }).flap.ready = true
      ∧ ((flapIn .tracked .fault).flap.mode = .tracked ∧ (flapIn .tracked .fault).flap.ready = false)
      ∧ ((flapIn .direct .fault).flap.mode = .direct ∧ (flapIn .direct .fault).flap.target = 1000) :=
  ⟨portFree_ready, by decide +kernel⟩

def fit (kind : Byte) : FilterFitFields :=
  { kind := kind, fitDay := 7#16, pmCap := 999#32, gasCap := 200001#32, etaPmBase := 999#16, etaGasBase := 0#16 }

theorem witness_FilterFitTaken :
    PortFree ready ∧ JournalQuiet ready.journal ∧ JournalQuiet writing.journal ∧ JournalQuiet failed.journal
      ∧ 2 < (fit 3#8).kind.toNat ∧ (fit 2#8).kind.toNat ≤ 2 ∧ (fit 0#8).kind.toNat = 0 ∧ (fit 1#8).kind.toNat = 1
      ∧ failed.journal.state = .failed ∧ (writing.journal.state = .ready ∧ writing.journal.write.isSome = true)
      ∧ (ready.journal.state = .ready ∧ ready.journal.write = none)
      ∧ leaves (.filterFit (fit 2#8)) ready (fun t => decide (t.journal.state = .ready)) = true :=
  ⟨portFree_ready, by unfold JournalQuiet; decide +kernel⟩

theorem witness_FilterReadAnswered :
    PortFree ready ∧ ready.filter.pmLoad < 2 ^ 32 ∧ ready.filter.gasLoad < 2 ^ 32 ∧ ready.filter.pmAcc < 2 ^ 32
      ∧ ready.filter.gasAcc < 2 ^ 32 ∧ ready.filter.pmCap ≤ 100000 ∧ ready.filter.gasCap.getD 0 ≤ 200000
      ∧ ready.filter.fitDay ≤ 65535 ∧ ready.filter.etaPmBase ≤ 999 ∧ ready.filter.etaGasBase.getD 0 ≤ 999 :=
  ⟨portFree_ready, by decide +kernel⟩

def shiftOpen : State := ready.withTally { ready.tally with active := true, seconds := 4294967295, stops := 65535 }

theorem witness_ShiftTaken :
    PortFree ready ∧ PortFree shiftOpen ∧ ready.tally.active = false ∧ shiftOpen.tally.active = true
      ∧ shiftOpen.tally.seconds < 2 ^ 32 ∧ shiftOpen.tally.pmDose < 2 ^ 32 ∧ shiftOpen.tally.stops < 2 ^ 16
      ∧ 2 < (3#8 : Byte).toNat :=
  ⟨portFree_ready, portFree_ready, by decide +kernel⟩

def watchFields (slot : Byte) (scope : BitVec 2) : WatchSetFields :=
  { slot := slot, quantity := 15#4, kind := 0#2, scope := scope, level := 0xFFFFFFFF#32, hysteresis := 0#16 }

theorem witness_WatchSlotsWritten :
    PortFree ready ∧ (watchFields 0#8 1#2).slot.toNat = 0 ∧ 4 < (watchFields 5#8 1#2).slot.toNat
      ∧ (watchFields 1#8 3#2).scope.toNat = 3
      ∧ ((watchFields 4#8 2#2).slot.toNat = SlotNumber.four.toNat
        ∧ (watchFields 4#8 2#2).quantity.toNat = Quantity.speed.code
        ∧ (watchFields 4#8 2#2).kind.toNat = WatchKind.above.code
        ∧ (watchFields 4#8 2#2).scope.toNat = WatchScope.always.code)
      ∧ leaves (.watchSet (watchFields 4#8 2#2)) ready (fun t => (t.watch.get .four).firstHit.isSome) = true
      ∧ leaves (.watchSet (watchFields 4#8 0#2)) ready (fun t => decide ((t.watch.get .four).firstHit = none)) = true
      ∧ 15 < (16#8 : Byte).toNat ∧ (15#8 : Byte).toNat ≤ 15 :=
  ⟨portFree_ready, by decide +kernel⟩

/-- Slot 1 of kind ABOVE or BELOW at level 5, hit already or not. -/
def slotOne (kind : WatchKind) (hit : Option FirstHit) : State :=
  ready.withWatch { ready.watch with
    slot1 := { quantity := .eco, kind := kind, level := 5, hysteresis := 0, scope := .always, armed := false,
               firstHit := hit } }

theorem witness_WatchReadAnswered :
    PortFree ready ∧ (ready.watch.get .one).hysteresis < 2 ^ 16 ∧ (ready.watch.get .one).firstHit = none
      ∧ ((slotOne .above (some ⟨4294967295, 6⟩)).watch.get .one).firstHit = some ⟨4294967295, 6⟩ :=
  ⟨portFree_ready, by decide +kernel⟩

/-- Slot 1 of a CROSS kind at level 5 with hysteresis 2, armed or not, hit already or not. -/
def slotCross (kind : WatchKind) (armed : Bool) (hit : Option FirstHit) : State :=
  ready.withWatch { ready.watch with
    slot1 := { quantity := .eco, kind := kind, level := 5, hysteresis := 2, scope := .stop, armed := armed,
               firstHit := hit } }

theorem witness_AboveAndBelowHit :
    ((slotOne .above none).watch.get .one).scope ≠ .off ∧ ((slotOne .above none).watch.get .one).kind = .above
      ∧ ((slotOne .below none).watch.get .one).kind = .below ∧ ((slotOne .above none).watch.get .one).level < 6
      ∧ 4 < ((slotOne .below none).watch.get .one).level ∧ 5 ≤ ((slotOne .above none).watch.get .one).level
      ∧ ((slotOne .above none).watch.get .one).firstHit = none
      ∧ ((slotOne .above (some ⟨0, 6⟩)).watch.get .one).firstHit ≠ none
      ∧ ((slotCross .crossUp true none).watch.get .one).scope ≠ .off
      ∧ (((slotCross .crossUp true none).watch.get .one).kind = .crossUp
        ∧ ((slotCross .crossUp true none).watch.get .one).armed = true
        ∧ ((slotCross .crossUp true none).watch.get .one).level < 6
        ∧ (5 : Int) ≤ ((slotCross .crossUp true none).watch.get .one).level)
      ∧ (((slotCross .crossDown true none).watch.get .one).kind = .crossDown
        ∧ (4 : Int) < ((slotCross .crossDown true none).watch.get .one).level
        ∧ ((slotCross .crossDown true none).watch.get .one).level ≤ 5)
      ∧ ((slotCross .crossUp true (some ⟨0, 6⟩)).watch.get .one).firstHit ≠ none
      ∧ (((slotCross .crossUp false none).watch.get .one).armed = false
        ∧ (3 : Int) ≤ ((slotCross .crossUp false none).watch.get .one).level
            - ((slotCross .crossUp false none).watch.get .one).hysteresis
        ∧ ((slotCross .crossUp false none).watch.get .one).level
            - ((slotCross .crossUp false none).watch.get .one).hysteresis < 4)
      ∧ (((slotCross .crossDown false none).watch.get .one).level
            + ((slotCross .crossDown false none).watch.get .one).hysteresis ≤ 7
        ∧ (6 : Int) < ((slotCross .crossDown false none).watch.get .one).level
            + ((slotCross .crossDown false none).watch.get .one).hysteresis)
      ∧ (ready.watch.get .one).scope = .off ∧ (ready.watch.get .one).quantity = .channel .opm
      ∧ (ready.watch.get .one).quantity ≠ .fog := by decide +kernel

/-- A masked MOVE-DONE and, or not, an unmasked BLOWER-FAULT are pending. -/
def notified (unmasked : Bool) : State :=
  if unmasked then raise .blowerFault (raise (.moveDone 0) ready) else raise (.moveDone 0) ready

theorem witness_NoticesFetchedAndMasked :
    PortFree (notified true) ∧ PortFree (notified false) ∧ NoticesSound (notified true) ∧ NoticesSound (notified false)
      ∧ 1 < (2#8 : Byte).toNat
      ∧ (∀ p ∈ (notified false).notices.pending, (0#8 : Byte).toNat = 0
          ∧ p.notice.kind ∈ (notified false).notices.masked)
      ∧ ((⟨.blowerFault, false⟩ : PendingNotice) ∈ (notified true).notices.pending
        ∧ NoticeKind.blowerFault ∉ (notified true).notices.masked
        ∧ ∀ q ∈ (notified true).notices.pending, NoticeKind.blowerFault.priority ≤ q.notice.kind.priority)
      ∧ ((⟨.moveDone 0, false⟩ : PendingNotice) ∈ (notified false).notices.pending ∧ (1#8 : Byte).toNat = 1
        ∧ ∀ q ∈ (notified false).notices.pending, NoticeKind.moveDone.priority ≤ q.notice.kind.priority)
      ∧ 8191 < (8192#16 : Word16).toNat ∧ (8191#16 : Word16).toNat ≤ 8191
      ∧ (∀ p ∈ (notified false).notices.pending, p.notice.kind ≠ (Notice.sensorLost [.opm]).kind)
      ∧ (⟨.moveDone 0, false⟩ : PendingNotice) ∈ (notified false).notices.pending := by
  unfold PortFree NoticesSound
  decide +kernel

/-- R182: a set merges to the union, a number is replaced, and the repeated flag is set. -/
theorem test_raise_merges :
    (raise (.sensorLost [.ogs]) (raise (.sensorLost [.opm]) ready)).notices.pending
        = [⟨(Notice.sensorLost [.opm]).merge (.sensorLost [.ogs]), true⟩]
      ∧ (raise (.moveDone 250) (notified false)).notices.pending = [⟨.moveDone 250, true⟩] := by decide +kernel

theorem witness_ConditionsTaken :
    PortFree ready ∧ 1 < (2#8 : Byte).toNat ∧ (∃ x, some (64#8 : Byte) = some x ∧ 63 < x.toNat)
      ∧ ((1#8 : Byte).toNat ≤ 1 ∧ ∀ x, some (63#8 : Byte) = some x → x.toNat ≤ 63)
      ∧ (occur .diverged (some .epm) 480 ready).notices.lastCondition = some ⟨.diverged, some .epm, 0, 480⟩
      ∧ .inputClamped ∈ ready.notices.conditionMasked ∧ .diverged ∉ ready.notices.conditionMasked :=
  ⟨portFree_ready, by decide, ⟨64#8, rfl, by decide⟩, ⟨by decide, fun x h => by cases h; decide⟩, by decide +kernel⟩

theorem positions_ready : PositionsInRange ready := by
  unfold PositionsInRange IsPosition TargetIsCandidate
  and_intros
  all_goals first | decide +kernel | (intro d h; cases h)

theorem witness_StateAnswered :
    PortFree ready ∧ EstimatesInRange ready ∧ PositionsInRange ready ∧ ready.uptime < 2 ^ 32 ∧ ready.policy.comfort ≤ 7
      ∧ ready.policy.demand ≤ 7 ∧ ready.drive.lastSpeed ≤ 250 ∧ ready.flap.failCount ≤ 3 ∧ ready.blower.level ≤ 7
      ∧ (traffic.policy.lastChange = some 0 ∧ ready.timers.hold = none ∧ ready.timers.est = some 1000) :=
  ⟨portFree_ready, by unfold EstimatesInRange; decide +kernel, positions_ready, by decide +kernel⟩

theorem witness_ChannelsAnswered :
    PortFree ready ∧ (ready.channels.get .opm).state = .none
      ∧ ((channelIn .opm .live 5 30).channels.get .opm).state ≠ .none
      ∧ ((channelIn .opm .live 5 30).channels.get .opm).ageMs = some 900 :=
  ⟨portFree_ready, by decide +kernel⟩

theorem witness_EpisodesAnswered :
    PortFree ready ∧ PortFree fullTable ∧ ready.tracker.table = [] ∧ fullTable.tracker.table.length = 16
      ∧ fullTable.tracker.table[0]? = some (record 31 none .gas) :=
  ⟨portFree_ready, portFree_ready, by decide +kernel⟩

theorem witness_ParkTaken :
    PortFree parked ∧ parked.drive.vehicle = .parked ∧ PortFree ready ∧ JournalQuiet ready.journal
      ∧ JournalQuiet writing.journal ∧ ready.drive.vehicle ≠ .parked ∧ ready.blower.level = ready.policy.demand
      ∧ failed.journal.state = .failed ∧ writing.journal.write.isSome = true
      ∧ leaves .park ready (fun t => decide (t.journal.state = .ready)) = true
      ∧ leaves .park (ready.withJournal { ready.journal with retired := [0, 1, 2, 3, 4, 5, 6, 7] })
          (fun t => decide (t.journal.state = .failed)) = true :=
  ⟨portFree_ready, by decide +kernel, portFree_ready, by unfold JournalQuiet; decide +kernel⟩

theorem witness_RestartTaken :
    PortFree ready ∧ PortFree writing ∧ ready.journal.write = none ∧ failed.journal.state = .failed
      ∧ writing.journal.write.isSome = true ∧ writing.journal.state ≠ .failed :=
  ⟨portFree_ready, portFree_ready, by decide +kernel⟩

/-- Every condition kind is unmasked. -/
def unmaskedAll : State := ready.withNotices { ready.notices with conditionMasked := [] }

theorem witness_SampleTaken :
    (299 < Channel.cco.range.1 ∧ Channel.cco.range.2 < 5001) ∧ 9 < 10 ∧ 2 < 3
      ∧ (ready.est.gasSnapArmed = true ∧ ready.drive.vehicle ≠ .parked)
      ∧ ((slotOne .above none).watch.get .one).quantity = .eco
      ∧ (¬(0 < Channel.opm.range.1 ∨ Channel.opm.range.2 < 0) ∧ .inputClamped ∉ ready.notices.conditionFlags) := by decide +kernel

/-- Each clause of the two lookups: STM off the table or CTM alone, TABLE-CLAMPED unmasked, and a channel that gives no margin (R23, R25). -/
theorem witness_LookupsNoted :
    (GivesMargin .stm ∧ GivesMargin .crh ∧ GivesMargin .ctm ∧ ¬GivesMargin .otm) ∧ (OffTable 451 ∧ OffTable (-201) ∧ ¬OffTable 450)
      ∧ .tableClamped ∉ unmaskedAll.notices.conditionMasked
      ∧ leaves (.sample 8 451 0) unmaskedAll (fun t => decide (t.usable .stm = 451 ∧ t.usable .ctm = 200)) = true
      ∧ leaves (.sample 5 (-201) 0) unmaskedAll (fun t => decide (t.usable .ctm = -201 ∧ t.usable .stm = 50)) = true := by
  unfold GivesMargin OffTable
  decide +kernel

/-- A windscreen above 45 degrees raises TABLE-CLAMPED for STM, one at 45 does not; nothing raises INPUT-CLAMPED (R23, R25, R80). -/
theorem test_margin_lookups :
    leaves (.sample 8 451 0) unmaskedAll (fun t => decide (t.notices.conditionFlags = [.tableClamped]
        ∧ t.notices.lastCondition = some ⟨.tableClamped, some (.channel .stm), 0, 451⟩)) = true
      ∧ leaves (.sample 8 450 0) unmaskedAll (fun t => decide (t.notices.conditionFlags = [])) = true := by decide +kernel

theorem witness_FposReadTaken :
    (flapIn .tracked .idle).flap.mode = .tracked ∧ (flapIn .tracked .idle).flap.state ≠ .fault
      ∧ (flapIn .tracked .idle).flap.state ≠ .disabled ∧ (flapIn .edge .fault).flap.state = .fault := by decide +kernel

theorem witness_StaleEntered :
    ((channelIn .ogs .live 1 600).channels.get .ogs).state = .live
      ∧ ((channelIn .ogs .live 1 600).channels.get .ogs).staleTime < ((channelIn .ogs .live 1 600).channels.get .ogs).lostTime
      ∧ ((channelIn .ogs .live 60 60).channels.get .ogs).staleTime = ((channelIn .ogs .live 60 60).channels.get .ogs).lostTime
      ∧ (ready.channels.get .ogs).state ≠ .live ∧ ((channelIn .ogs .stale 1 60).channels.get .ogs).state = .stale := by
  decide +kernel

/-- A PM episode is open in record 32, the second of three; the hold machine, the release count and the gas detector's episode stand
as given. -/
def plumeOpen (uptime release : Nat) (hold : HoldState) (gasOpen : Option Nat) : State :=
  let s := (channelIn .opm .live 1 600).withUptime uptime
  (s.withTracker { s.tracker with
      pm := { s.tracker.pm with baseline := some 960, openEpisode := some 32, release := release },
      gas := { s.tracker.gas with baseline := some 640, openEpisode := gasOpen }, nextNumber := 34,
      table := [record 31 (some ⟨3030, .limit⟩) .pm, record 32 none .pm, record 33 none .gas] }).withPolicy
    { s.policy with hold := hold }

theorem plumeOpen_record (uptime release : Nat) (hold : HoldState) (gasOpen : Option Nat) :
    OpenRecordAt .pm [record 31 (some ⟨3030, .limit⟩) .pm] (record 32 none .pm) [record 33 none .gas]
      (plumeOpen uptime release hold gasOpen).tracker.table :=
  ⟨rfl, rfl, rfl, fun _ h _ => by rw [List.mem_singleton.mp h]; rfl⟩

theorem witness_LostEntered :
    ((channelIn .opm .live 1 600).channels.get .opm).state = .live
      ∧ ((channelIn .fpos .stale 1 2).channels.get .fpos).state = .stale
      ∧ (ready.channels.get .opm).state = .none ∧ ((channelIn .opm .lost 1 2).channels.get .opm).state = .lost
      ∧ Channel.opm.code = DetectorId.pm.code ∧ Channel.ogs.code = DetectorId.gas.code
      ∧ ((channelIn .opm .live 1 600).tracker.detector .pm).openEpisode = none
      ∧ ((plumeOpen 3100 0 .holding none).channels.get .opm).state = .live
      ∧ ((plumeOpen 3100 0 .holding none).tracker.detector .pm).openEpisode.isSome = true := by
  decide +kernel

/-- CHANNEL itself brings OPM to LOST, its lost time now below its age, with an episode open (R68, R90). -/
theorem test_channel_closes_episode :
    leaves (.channel { code := 0#8, substitute := 60#16, staleTime := 1#16, lostTime := 1#16 })
      ((plumeOpen 3100 0 .holding none).setChannel .opm
        { (plumeOpen 3100 0 .holding none).channels.get .opm with ageMs := some 1000 })
      (fun t => decide ((t.channels.get .opm).state = .lost ∧ t.tracker.pm.openEpisode = none
        ∧ t.tracker.table.map (·.ending) = [some ⟨3030, .limit⟩, some ⟨3100, .channelLost⟩, none])) = true := by
  decide +kernel

/-- OPM lost: its episode closes, record 32 of the table with it, and HOLDING trails for the release delay (R68, R47). -/
theorem test_lost_closes :
    leaves (.lostExpiry .opm) (plumeOpen 3100 0 .holding none)
      (fun t => decide (t.tracker.table.map (·.ending)
          = [some ⟨3030, .limit⟩, some ⟨3100, .channelLost⟩, none] ∧ t.policy.hold = .trailing
        ∧ t.timers.hold = some 15000)) = true := by decide +kernel

theorem witness_EpisodeNumbered :
    1000 ≤ (if DetectorId.pm = .pm then 1000 else 2000) ∧ 2000 ≤ (if DetectorId.gas = .pm then 1000 else 2000)
      ∧ ((quietAt 960 0).tracker.detector .pm).baseline = some 960
      ∧ ((quietAt 960 0).tracker.detector .pm).openEpisode = none
      ∧ ((quietAt 960 0).tracker.detector .pm).settings.level ≤ 150
      ∧ (960 : Int) + ((quietAt 960 0).tracker.detector .pm).settings.jump * 16 ≤ ((85 : Nat) : Int) * 16
      ∧ (fullTable.tracker.table.length = 16 ∧ (fullTable.tracker.detector .pm).openEpisode = none
        ∧ (fullTable.tracker.detector .pm).baseline = some 962)
      ∧ (quietAt 960 0).tracker.table.length < 16
      ∧ (ready.tracker.detector .gas).baseline = none
      ∧ (84 < ((quietAt 960 0).tracker.detector .pm).settings.level
        ∧ ((84 : Nat) : Int) * 16 < 960 + ((quietAt 960 0).tracker.detector .pm).settings.jump * 16)
      ∧ leaves .estimatorUpdate ready (fun _ => true) = true
      ∧ (sendingWith [.restart]).link.queue.head? = some .restart
      ∧ leaves .replySent (sendingWith [.restart]) (fun _ => true) = true
      ∧ leaves (.powerOnReset allOff []) ready (fun _ => true) = true := by decide +kernel

/-- The three ends of an open episode's sample: the release count of 5, the maximum duration of 120 s, and neither. -/
theorem witness_EpisodeNumbered_open :
    (∀ uptime release hold gasOpen,
        ((plumeOpen uptime release hold gasOpen).tracker.detector .pm).baseline = some 960
          ∧ ((plumeOpen uptime release hold gasOpen).tracker.detector .pm).openEpisode.isSome = true
          ∧ OpenRecordAt .pm [record 31 (some ⟨3030, .limit⟩) .pm] (record 32 none .pm) [record 33 none .gas]
              (plumeOpen uptime release hold gasOpen).tracker.table)
      ∧ (releaseByRules ((plumeOpen 3100 4 .holding none).tracker.detector .pm) 72 960 = 5
        ∧ ((plumeOpen 3100 4 .holding none).tracker.detector .pm).settings.releaseCount ≤ 5)
      ∧ (releaseByRules ((plumeOpen 3152 4 .holding none).tracker.detector .pm) 73 960 = 0
        ∧ 0 < ((plumeOpen 3152 4 .holding none).tracker.detector .pm).settings.releaseCount
        ∧ (((plumeOpen 3152 4 .holding none).tracker.detector .pm).settings.maxDuration : Int)
            ≤ ((plumeOpen 3152 4 .holding none).uptime : Int) - (record 32 none .pm).start)
      ∧ ((plumeOpen 3151 4 .holding none).uptime : Int) - (record 32 none .pm).start
          < ((plumeOpen 3151 4 .holding none).tracker.detector .pm).settings.maxDuration :=
  ⟨fun _ _ _ _ => ⟨rfl, rfl, plumeOpen_record _ _ _ _⟩, by decide +kernel⟩

/-- The room a full table makes: its oldest CLOSED record, the second here, is gone (R62). -/
theorem witness_EpisodeNumbered_full : RoomMade fullTable.tracker.table
    (record 31 none .gas :: (List.range 14).map fun i => record (33 + i) (some ⟨3051 + i, .released⟩) .pm) := by
  intro pre e post split opens closed
  match pre with
  | [] => cases split; cases closed
  | [_] => cases split; rfl
  | _ :: b :: _ =>
    injection split with _ split
    injection split with here _
    exact nomatch here ▸ opens b (.tail _ (.head _))

/-- The full table of section 3.8 with this table in its place. -/
def tableWith (table : List Episode) : State := fullTable.withTracker { fullTable.tracker with table := table }

/-- GAS is OPEN and PM meets its opening test; the tables of R74's second row: one with room, a full one with a CLOSED record ahead of
the OPEN one, and the full one without, the case of log 32. -/
theorem witness_EpisodeNumbered_order :
    (DetectorId.gas ≠ .pm ∧ Channel.ogs.code = DetectorId.gas.code
        ∧ (fullTable.tracker.detector .pm).baseline = some 962 ∧ (fullTable.tracker.detector .pm).openEpisode = none
        ∧ (fullTable.tracker.detector .pm).settings.level ≤ 160 ∧ fullTable.policy.hold ≠ .lapsed)
      ∧ (EpisodesSound (tableWith [record 31 none .gas])
        ∧ OpenRecordAt .gas [] (record 31 none .gas) [] (tableWith [record 31 none .gas]).tracker.table)
      ∧ (EpisodesSound (tableWith (record 30 (some ⟨3045, .limit⟩) .pm :: fullTable.tracker.table.take 15))
        ∧ OpenRecordAt .gas [record 30 (some ⟨3045, .limit⟩) .pm] (record 31 none .gas)
            ((List.range 14).map fun i => record (32 + i) (some ⟨3050 + i, .released⟩) .pm)
            (tableWith (record 30 (some ⟨3045, .limit⟩) .pm :: fullTable.tracker.table.take 15)).tracker.table)
      ∧ EpisodesSound fullTable
      ∧ OpenRecordAt .gas [] (record 31 none .gas)
          ((List.range 15).map fun i => record (32 + i) (some ⟨3050 + i, .released⟩) .pm) fullTable.tracker.table :=
  ⟨by decide +kernel,
    ⟨⟨by decide +kernel, by decide +kernel, fun d => by cases d <;> decide +kernel⟩, rfl, rfl, rfl, by decide +kernel⟩,
    ⟨⟨by decide +kernel, by decide +kernel, fun d => by cases d <;> decide +kernel⟩, rfl, rfl, rfl, by decide +kernel⟩,
    ⟨by decide +kernel, by decide +kernel, fun d => by cases d <;> decide +kernel⟩, rfl, rfl, rfl, by decide +kernel⟩

/-- The clauses of witness_EpisodeNumbered_order at an event of GAS: a sample that closes, one that does not, and the loss of OGS. -/
theorem witness_EpisodeNumbered_closing :
    (16 ≤ fullTable.tracker.table.length ∧ (tableWith [record 31 none .gas]).tracker.table.length < 16)
      ∧ leaves (.sample 1 700 0) (fullTable.withUptime 3100) (fun t => (t.tracker.detector .gas).openEpisode.isSome) = true
      ∧ leaves (.sample 1 41 0) (fullTable.withTracker { fullTable.tracker with gas := { fullTable.tracker.gas with release := 4 } })
          (fun t => decide ((t.tracker.detector .gas).openEpisode = none)) = true := by decide +kernel

/-- RELEASED closes the record, with the sample in its peak and dose; with the gas detector's episode open the hold stands (R47, R66,
R67, R69). -/
theorem test_episode_released :
    leaves (.sample 0 72 0) (plumeOpen 3100 4 .holding none)
        (fun t => decide (t.tracker.table[1]? = some { record 32 (some ⟨3100, .released⟩) .pm with dose := 193 }
          ∧ t.policy.hold = .trailing ∧ t.timers.hold = some 15000)) = true
      ∧ leaves (.sample 0 72 0) (plumeOpen 3100 4 .holding (some 33)) (fun t => decide (t.policy.hold = .holding)) = true
      ∧ leaves (.sample 0 72 0) (plumeOpen 3100 4 .lapsed none) (fun t => decide (t.policy.hold = .idle)) = true := by
  decide +kernel

theorem test_episode_limit :
    leaves (.sample 0 110 0) (plumeOpen 3152 4 .idle none)
      (fun t => decide (t.tracker.table[1]?
        = some { record 32 (some ⟨3152, .limit⟩) .pm with peak := 110, dose := 801 })) = true := by decide +kernel

/-- An update away from the thirtieth over-threshold reading of CPM, its fresh value well above the estimate. -/
def diverging (above : Nat) : State :=
  traffic.withEst { traffic.est with freshCpm := some 1000, divPm := 29, pmAbove := above }

/-- The cab at this particle estimate while a purge runs. -/
def purging (epm : Int) : State :=
  ((traffic.withEst { traffic.est with epm := epm, freshCpm := none }).withPolicy
    { traffic.policy with purging := true }).withTimers { traffic.timers with purge := some 20000 }

/-- Its load one unit below WORN, the filter takes the load of this update; CKPT has this many to run. -/
def wearingOut (ckpt : Nat) : State :=
  (traffic.withFilter { traffic.filter with pmLoad := 19999, pmAcc := 57599999 }).withTimers { traffic.timers with ckpt := some ckpt }

/-- The update makes the filter WORN with its notice, and the last one of the interval starts a checkpoint of the WORN record (R110, R141,
R157). -/
theorem test_worn_and_checkpoint :
    leaves .estimatorUpdate (wearingOut 1)
      (fun t => decide (t.filter.state = .worn ∧ ⟨.filter .worn, false⟩ ∈ t.notices.pending ∧ t.timers.ckpt = some 600
        ∧ t.journal.write.map (·.snapshot.filter.state) = some .worn)) = true
      ∧ leaves .estimatorUpdate (wearingOut 2) (fun t => decide (t.timers.ckpt = some 1 ∧ t.journal = traffic.journal)) = true := by
  decide +kernel

/-- A blower in FAULT, an OTM off the table and a channel on its substitute: each condition occurs in its case (R6, R8, R23). -/
theorem test_update_conditions :
    leaves .estimatorUpdate ((traffic.setChannel .otm (live 451 (traffic.channels.get .otm))).withBlower
        { traffic.blower with fault := true })
      (fun t => decide (t.notices.conditionFlags = [.zeroFlow, .tableClamped])) = true
      ∧ leaves .estimatorUpdate (traffic.setChannel .orh { traffic.channels.get .orh with state := .lost })
          (fun t => decide (t.notices.conditionFlags = [.substituted])) = true := by decide +kernel

theorem witness_EstimatorUpdated_account :
    (ready.withTimers { ready.timers with ckpt := none }).timers.ckpt = none
      ∧ ((wearingOut 1).timers.ckpt = some 1 ∧ (wearingOut 2).timers.ckpt = some 2)
      ∧ ((wearingOut 1).filter.kind ≠ .none ∧ leaves .estimatorUpdate (wearingOut 1)
          (fun t => decide (t.filter.state = .worn ∧ t.filter.state ≠ traffic.filter.state)) = true)
      ∧ leaves .estimatorUpdate (traffic.withFilter { traffic.filter with
            state := .worn, pmLoad := traffic.filter.pmCap - 1, pmAcc := 57599999 })
          (fun t => decide (t.filter.state = .spent)) = true
      ∧ (JournalQuiet traffic.journal ∧ traffic.journal.state = .ready ∧ traffic.journal.write = none)
      ∧ writing.journal.write.isSome = true
      ∧ ((sendingWith [.restart]).link.sending.isSome = true ∧ (sendingWith [.restart]).link.queue.head? = some .restart)
      ∧ ready.link.sending = none ∧ failed.journal.state ≠ .ready
      ∧ ConditionKind.diverged ∉ traffic.notices.conditionMasked := by
  unfold JournalQuiet
  decide +kernel

theorem witness_EstimatorUpdated :
    (ready.withTimers { ready.timers with est := none }).timers.est = none ∧ traffic.timers.est.isSome = true
      ∧ shiftOpen.tally.active = true ∧ (shiftOpen.withTally { shiftOpen.tally with seconds := 4294967294 }).tally.seconds
          < 4294967295
      ∧ traffic.tally.active = false
      ∧ leaves .estimatorUpdate (traffic.withEst { traffic.est with eco := 40000 })
          (fun t => decide ((traffic.policy.limits.co2Hard : Int) * 16 ≤ t.est.eco)) = true
      ∧ TargetIsCandidate traffic ∧ traffic.policy.mode = .auto
      ∧ ((traffic.withPolicy { traffic.policy with mode := .recirc, target := 0 }).policy.mode = .recirc
        ∧ (traffic.withPolicy { traffic.policy with mode := .recirc, target := 0 }).policy.target = 0)
      ∧ divergedByRules 480 480 (some 16000) false 29 = 30 ∧ aboveByRules 480 (some 16000) false 29 = 30
      ∧ leaves .estimatorUpdate (diverging 29) (fun t => t.filter.suspect && decide (t.est.divPm = 0)) = true
      ∧ leaves .estimatorUpdate (diverging 28) (fun t => !t.filter.suspect && decide (t.est.divPm = 0)) = true
      ∧ traffic.filter.kind ≠ .none ∧ ready.filter.kind = .none
      ∧ leaves .estimatorUpdate (traffic.withEst { traffic.est with fogMargin := 749 })
          (fun t => t.policy.fogFlag && !traffic.policy.fogFlag) = true
      ∧ leaves .estimatorUpdate (traffic.withEst { traffic.est with eco := 40000 })
          (fun t => t.policy.ceilingFlag && !t.policy.fogFlag && !traffic.policy.ceilingFlag) = true
      ∧ (purging 3000).policy.purging = true
      ∧ leaves .estimatorUpdate (purging 120) (fun t => decide
          (t.est.epm ≤ (purging 120).usable .opm * 16 * (1000 - etaPmByRules (purging 120).filter) / 1000 + 80)) = true
      ∧ leaves .estimatorUpdate (purging 3000) (fun t => decide
          ((purging 3000).usable .opm * 16 * (1000 - etaPmByRules (purging 3000).filter) / 1000 + 80 < t.est.epm)) = true := by
  unfold TargetIsCandidate
  decide +kernel

/-- A clean street: both outside channels LIVE at their limits, no episode. -/
def cleanAir (lastChange : Option Nat) : State :=
  ((traffic.withChannels { traffic.channels with
      opm := live 15 ready.channels.opm, ogs := live 40 ready.channels.ogs }).withPolicy
    { traffic.policy with lastChange := lastChange }).withUptime 130

/-- A cab whose carbon dioxide leaves no candidate, its blower standing. -/
def airless : State := (traffic.withBlower { traffic.blower with level := 0 }).withEst { traffic.est with eco := 40000 }

theorem cleanAir_open (lastChange : Option Nat) : OpenAir (cleanAir lastChange) :=
  ⟨show (15 : Int) ≤ 15 by decide, show (40 : Int) ≤ 40 by decide, .inl rfl, .inl rfl, rfl, rfl,
    show ([] : List Episode).length < 3 by decide⟩

theorem witness_DecisionTaken :
    (ready.withTimers { ready.timers with dec := none }).timers.dec = none ∧ traffic.timers.dec.isSome = true
      ∧ parked.drive.vehicle = .parked ∧ traffic.drive.vehicle ≠ .parked ∧ traffic.policy.mode = .auto
      ∧ leaves .decExpiry (traffic.withEst { traffic.est with fogMargin := 749 })
          (fun t => t.policy.fogFlag && !traffic.policy.fogFlag) = true
      ∧ leaves .decExpiry (traffic.withEst { traffic.est with fogMargin := 750 }) (fun t => !t.policy.fogFlag) = true
      ∧ traffic.policy.ceilingFlag = false
      ∧ (traffic.withPolicy { traffic.policy with ceilingFlag := true }).policy.ceilingFlag = true
      ∧ (traffic.withPolicy { traffic.policy with hold := .trailing }).policy.hold = .trailing
      ∧ traffic.policy.hold = .idle
      ∧ (traffic.withPolicy { traffic.policy with mode := .recirc }).policy.mode = .recirc
      ∧ TargetIsCandidate traffic
      ∧ leaves .decExpiry (cleanAir none) (fun t => decide (t.policy.fogFlag = false)) = true
      ∧ leaves .decExpiry airless (fun t => decide (t.policy.fogFlag = false)) = true := by
  unfold TargetIsCandidate
  decide +kernel

/-- The traffic of a decision with OTM at this temperature and no condition masked. -/
def streetAt (x : Int) : State :=
  (traffic.setChannel .otm (live x (traffic.channels.get .otm))).withNotices { traffic.notices with conditionMasked := [] }

/-- A decision in AUTO looks OTM up: above 45 degrees it raises TABLE-CLAMPED for OTM, at 45 nothing (R23, R36). -/
theorem test_decision_lookups :
    leaves .decExpiry (streetAt 451) (fun t => decide (t.policy.fogFlag = false ∧ t.notices.conditionFlags = [.tableClamped]
        ∧ t.notices.lastCondition = some ⟨.tableClamped, some (.channel .otm), (streetAt 451).uptime, 451⟩)) = true
      ∧ leaves .decExpiry (streetAt 450) (fun t => decide (t.notices.conditionFlags = [])) = true := by decide +kernel

/-- Each of the bases 2, 4, 5 and 6, and each side of the change dwell of 30 s. -/
theorem witness_DecisionTaken_bases :
    (OpenAir (cleanAir none) ∧ OpenAir (cleanAir (some 100)) ∧ OpenAir (cleanAir (some 101)))
      ∧ (¬OpenAir traffic ∧ LowestAdmissible traffic [0, 125, 250, 500, 750, 1000] 500
        ∧ LowestAdmissible traffic [500, 750, 1000] 500)
      ∧ (¬OpenAir airless ∧ (∀ f ∈ ([0, 125, 250, 500, 750, 1000] : List Int), ¬Admissible airless f)
        ∧ airless.policy.basis ≠ .ventLimited)
      ∧ (∀ c, (cleanAir (some 100)).policy.lastChange = some c →
          ((cleanAir (some 100)).policy.limits.changeDwell : Int) ≤ ((cleanAir (some 100)).uptime : Int) - c)
      ∧ (((cleanAir (some 101)).uptime : Int) - 101 < (cleanAir (some 101)).policy.limits.changeDwell
        ∧ (1000 : Int) ≠ (cleanAir (some 101)).policy.target) := by
  refine ⟨⟨cleanAir_open _, cleanAir_open _, cleanAir_open _⟩, ⟨?_, ?_, ?_⟩, ⟨?_, ?_, by decide +kernel⟩, fun c h => ?_,
    by decide +kernel⟩
  · unfold OpenAir; decide +kernel
  · unfold LowestAdmissible Admissible; decide +kernel
  · unfold LowestAdmissible Admissible; decide +kernel
  · unfold OpenAir; decide +kernel
  · unfold Admissible; decide +kernel
  · cases h
    decide +kernel

/-- A new target meets a flap that waits, and one in mid-move: at the position it has reached, and past it (R118, R119, R121). -/
theorem witness_DecisionTaken_flap :
    (flapTimed .waitReady).flap.state = .waitReady ∧ (flapTimed .waitReady).flap.setPoint = 1000
      ∧ ((flapIn .edge .moving).flap.state = .moving ∧ (flapIn .edge .moving).flap.inhibit = false)
      ∧ (movingFresh.flap.state = .moving ∧ movingFresh.flap.inhibit = false ∧ movingFresh.flap.mode = .timed)
      ∧ movingFresh.flap.driveInFlight.map reachedByRules = some 550
      ∧ leaves .decExpiry (movingFresh.withUptime 120) (fun t => decide (t.policy.target = 500)) = true
      ∧ movingRecirc.flap.inhibit = true := by decide +kernel

def holding : State :=
  (ready.withPolicy { ready.policy with hold := .holding, purging := true }).withTimers
    { ready.timers with hold := some 1, purge := some 1 }

theorem witness_HoldAndPurgeExpire :
    ready.timers.hold = none ∧ holding.timers.hold.isSome = true ∧ holding.policy.hold = .holding
      ∧ ready.timers.purge = none ∧ holding.timers.purge.isSome = true ∧ holding.blower.level = holding.policy.demand := by
  decide +kernel

/-- PLUME-LONG names the open record that stands first in the table (R48, R60). -/
theorem test_plume_long :
    leaves .holdExpiry ((plumeOpen 3100 0 .holding none).withTimers { ready.timers with hold := some 1 })
      (fun t => decide (t.policy.hold = .lapsed ∧ ⟨.plumeLong 32, false⟩ ∈ t.notices.pending)) = true := by decide +kernel

theorem witness_CheckpointTriggered :
    JournalQuiet ready.journal ∧ ready.link.sending = none
      ∧ ((sendingWith [.restart]).link.sending.isSome = true ∧ (sendingWith [.restart]).link.queue.head? = some .restart)
      ∧ (sendingWith [.park]).link.queue.head? ≠ some .restart
      ∧ (ready.withTimers { ready.timers with ckpt := none }).timers.ckpt = none ∧ ready.timers.ckpt.isSome = true
      ∧ failed.journal.state = .failed ∧ JournalQuiet writing.journal ∧ writing.journal.write.isSome = true
      ∧ leaves .ckptExpiry ready (fun t => decide (t.journal.state = .ready)) = true := by
  unfold JournalQuiet
  decide +kernel

/-- Sector 2 is the active one, with this many failures, and used up or not; these sectors are retired, the newest record stands in this one,
and this sequence comes next. -/
def worn (position fails sequence newest : Nat) (retired : List Nat) : State :=
  ready.withJournal { ready.journal with
    activeSector := some 2, writePosition := position, nextSequence := sequence, newest := some ⟨newest, 8, .fit⟩,
    retired := retired, failCounts := { ready.journal.failCounts with s2 := fails } }

/-- What a search for a target can meet: an ERASED slot, with a sequence left and without; none, and the active sector retired, with two left
and with one; no sector that may be erased (R157, R158, R163). -/
theorem witness_TargetSought :
    (ErasedFrom (worn 3 0 9 2 []).journal (worn 3 0 9 2 []).flash 2 3
        ∧ ∀ i, i < 3 → ¬ErasedFrom (worn 3 0 9 2 []).journal (worn 3 0 9 2 []).flash 2 i)
      ∧ (worn 3 0 4294967295 2 []).journal.nextSequence = 4294967295
      ∧ (∀ i, ¬ErasedFrom (worn 16 2 9 2 []).journal (worn 16 2 9 2 []).flash 2 i)
      ∧ (retiredBySwitch (worn 16 2 9 2 [0, 1, 3, 4, 5]).journal).length = 6
      ∧ (retiredBySwitch (worn 16 2 9 2 [0, 1, 3, 4, 5, 6]).journal).length = 7
      ∧ retiredBySwitch (worn 16 1 9 7 [0, 1, 3, 4, 5, 6]).journal = [0, 1, 3, 4, 5, 6]
      ∧ NextSector (worn 16 1 9 2 [3, 4]).journal 3 5
      ∧ ∀ k, ¬MayErase (worn 16 1 9 7 [0, 1, 3, 4, 5, 6]).journal k := by
  refine ⟨⟨⟨by decide, by decide, rfl⟩, fun i h e => absurd e.2.1 (Nat.not_le_of_lt h)⟩, rfl,
    fun i e => absurd e.2.1 (Nat.not_le_of_lt e.1), by decide, by decide, by decide,
    ⟨2, by decide, rfl, ⟨by decide, by decide, by decide, fun n h => by cases h; decide⟩, fun i h m => ?_⟩, fun k m => ?_⟩
  · exact match i, h, m.2.1 with
    | 0, _, x => x (.head _)
    | 1, _, x => x (.tail _ (.head _))
  · exact match k, m with
    | 0, ⟨_, x, _⟩ | 1, ⟨_, x, _⟩ | 3, ⟨_, x, _⟩ | 4, ⟨_, x, _⟩ | 5, ⟨_, x, _⟩ | 6, ⟨_, x, _⟩ => x (by decide)
    | 2, ⟨_, _, x, _⟩ => x rfl
    | 7, ⟨_, _, _, x⟩ => x _ rfl rfl
    | n + 8, ⟨x, _⟩ => absurd x (by omega)

/-- A checkpoint that finds no ERASED slot: a sector of one failure stays in use, one of two is retired, and the switch takes the next in
ring order past the retired ones (R158, R161). -/
theorem test_switch_retires :
    leaves .ckptExpiry (worn 16 1 9 2 [3, 4])
        (fun t => decide (t.journal.retired = [3, 4] ∧ t.journal.write.map (·.phase) = some (.erasing 5))) = true
      ∧ leaves .ckptExpiry (worn 16 2 9 2 [3, 4])
        (fun t => decide (t.journal.retired = [3, 4, 2] ∧ t.journal.write.map (·.phase) = some (.erasing 5))) = true := by
  decide +kernel

/-- The three ways into FAILED by a write's start: one sector left after a retirement, none that may be erased, no sequence left (R163). -/
theorem test_journal_fails :
    ∀ s ∈ [worn 16 2 9 2 [0, 1, 3, 4, 5, 6], worn 16 1 9 7 [0, 1, 3, 4, 5, 6], worn 3 0 4294967295 2 []],
      leaves .ckptExpiry s (fun t => decide (t.journal.state = .failed ∧ t.journal.write = none
        ∧ t.notices.pending = [⟨.journalFail, false⟩] ∧ t.notices.attention = true)) = true := by decide +kernel

/-- An erase of sector 3 is under way that may be the last one; its write owes a PARK reply or not, and a RESTART waits or not. -/
def lastErase (parkOwed restart : Bool) : State :=
  (ready.withJournal { ready.journal with
      activeSector := some 2, nextSequence := 9, retired := [0, 1, 4, 5, 6, 7], restartWaiting := restart,
      write := some { kind := .park, snapshot := ⟨ready.filter, ready.tally⟩, parkOwed := parkOwed, phase := .erasing 3 } }).withLink
    { ready.link with queue := [if restart then .restart else .park], holding := true }

/-- Entry to FAILED sends an owed PARK reply, or releases a RESTART, with ATTENTION in the status (R163, R196, R197; log 17). -/
theorem test_failure_releases :
    leaves (.eraseFail []) (lastErase true false) (fun t => decide (t.journal.state = .failed
        ∧ t.link.sending = some (.of 0x97#8 [0#8, 4#8]) ∧ t.link.holding = false)) = true
      ∧ leaves (.eraseFail []) (lastErase false true) (fun t => decide (t.journal.restartWaiting = false
        ∧ t.link.sending = some (.of 0x99#8 [0#8, 4#8]))) = true := by decide +kernel

theorem witness_JournalFails :
    (lastErase true false).flash.wf = true
      ∧ (lastErase true false).journal.write.map (fun w => owesPark w (lastErase true false).journal) = some true
      ∧ (lastErase false true).journal.write.map (fun w => owesPark w (lastErase false true).journal) = some false
      ∧ (lastErase true false).journal.restartWaiting = false ∧ (lastErase false true).journal.restartWaiting = true
      ∧ leaves (.eraseFail []) (lastErase false false)
          (fun t => decide (t.journal.state = .failed ∧ 6 < t.journal.retired.length)) = true
      ∧ leaves (.eraseFail []) erasing (fun t => decide (t.journal.state ≠ .failed ∧ t.journal.retired.length ≤ 6)) = true
      ∧ leaves .erasePass ((lastErase true false).withJournal
          { (lastErase true false).journal with nextSequence := 4294967295 })
          (fun t => decide (t.journal.state = .failed)) = true
      ∧ leaves (.programFail .damaged) (writing.withJournal { writing.journal with retired := [0, 1, 3, 4, 5, 6, 7] })
          (fun t => decide (t.journal.state = .failed)) = true
      ∧ leaves .programPass (writing.withJournal { writing.journal with
            retired := [0, 1, 3, 4, 5, 6, 7], pendingWrite := some ⟨.fit, true⟩ })
          (fun t => decide (t.journal.state = .failed)) = true := by decide +kernel

theorem witness_EraseCompletes :
    (∀ w, writing.journal.write = some w → ∀ c, w.phase ≠ .erasing c)
      ∧ erasing.flash.wf = true ∧ erasing.journal.write.map (·.phase) = some (.erasing 3)
      ∧ erasing.journal.nextSequence ≠ 4294967295 ∧ [SlotOutcome.damaged][0]? = some .damaged
      ∧ ([SlotOutcome.complete][0]? = some .complete ∧ [SlotOutcome.untouched][0]? = some .untouched
        ∧ ([] : List SlotOutcome)[15]? = none)
      ∧ ready.journal.write = none :=
  ⟨fun w h c => by cases h; exact (nomatch ·), by decide +kernel⟩

/-- The write of `writing`, with another write pending or not, and a RESTART waiting or not. -/
def writingOn (pendingWrite : Option PendingWrite) (restart : Bool) : State :=
  writing.withJournal { writing.journal with pendingWrite := pendingWrite, restartWaiting := restart }

theorem witness_ProgramCompletes :
    (∀ w, erasing.journal.write = some w → ∀ k i n, w.phase ≠ .programming k i n)
      ∧ writing.flash.wf = true ∧ writing.journal.write.map (·.phase) = some (.programming 2 15 496)
      ∧ writing.journal.pendingWrite = none ∧ writing.journal.restartWaiting = false
      ∧ writing.journal.write.map (·.parkOwed) = some false
      ∧ (writingOn (some ⟨.fit, true⟩) false).journal.write.map (·.phase) = some (.programming 2 15 496)
      ∧ (writingOn (some ⟨.fit, true⟩) false).journal.pendingWrite = some ⟨.fit, true⟩
      ∧ leaves .programPass (writingOn (some ⟨.fit, true⟩) false) (fun t => decide (t.journal.state = .ready)) = true
      ∧ leaves .programPass (writingOn (some ⟨.fit, false⟩) true) (fun t => decide (t.journal.state = .ready)) = true
      ∧ ((writingOn none true).journal.pendingWrite = none ∧ (writingOn none true).journal.restartWaiting = true)
      ∧ leaves (.programFail .damaged) writing (fun t => decide (t.journal.state = .ready)) = true
      ∧ ready.journal.write = none :=
  ⟨fun w h k i n => by cases h; exact (nomatch ·), by decide +kernel⟩

theorem witness_ScanEnded_waiting :
    (waitingIn .scanning).journal.state = .scanning ∧ (waitingIn .scanning).link.queue = .park :: [.wake]
      ∧ (waitingIn .scanning).link.sending = none ∧ (waitingIn .scanning).link.holding = false
      ∧ requestOf .park = some .park := by decide +kernel

/-- The port begins to serve: the PARK that waited is taken, the WAKE behind it waits on (R165). -/
theorem test_scan_end_serves :
    leaves .scanEnd (waitingIn .scanning) (fun t => decide (t.journal.state = .ready ∧ t.drive.vehicle = .parked
      ∧ t.link.queue = [.park, .wake])) = true := by decide +kernel

theorem witness_ScanEnded :
    ready.link.queue = [] ∧ ready.journal.state ≠ .scanning ∧ State.reset.journal.state = .scanning
      ∧ (∀ e ∈ State.reset.flash, e.2.valid? = none) ∧ afterCut.link.queue = [] ∧ afterCut.journal.state = .scanning
      ∧ (66, Slot.record newestStored) ∈ afterCut.flash
      ∧ newestStored.crc = crc16 (newestStored.bytes.take 62)
      ∧ 0 < newestStored.sequence ∧ newestStored.sequence < 4294967295
      ∧ (∀ e ∈ afterCut.flash, ∀ x, e.2.valid? = some x →
          x.sequence < newestStored.sequence ∨ e.1 = 66 ∧ x = newestStored) :=
  ⟨rfl, by decide +kernel, rfl, fun _ h => (nomatch h), rfl, rfl, .tail _ (.tail _ (.head _)),
    (congrArg crc16 newestStored.bytes_split.1).symm, by decide, by decide, newestStored_highest⟩

/-- A flash that holds one record, of this content. -/
def holdingOnly (c : Snapshot) : State := State.reset.withFlash [(66, .record (stored 499 .fit c))]

theorem holdingOnly_highest (c : Snapshot) :
    ∀ e ∈ (holdingOnly c).flash, ∀ x, e.2.valid? = some x → x.sequence < 499 ∨ e.1 = 66 ∧ x = stored 499 .fit c := by
  intro e he x hx
  cases List.mem_singleton.mp he
  cases (stored_valid .fit c (by decide) (by decide)).symm.trans hx
  exact .inr ⟨rfl, rfl⟩

/-- What the adoption of this filter record reports. -/
def adoptionReports (state : FilterState) (suspect : Bool) : List PendingNotice :=
  (endScan (holdingOnly ⟨{ ready.filter with state := state, suspect := suspect }, ready.tally⟩)).notices.pending

/-- WORN or SPENT first, then SUSPECT, which finds FILTER pending (R151). -/
theorem test_adoption_reports :
    adoptionReports .worn false = [⟨.filter .worn, false⟩] ∧ adoptionReports .spent false = [⟨.filter .spent, false⟩]
      ∧ adoptionReports .worn true = [⟨.filter .suspect, true⟩] ∧ adoptionReports .inService false = [] := by
  have h (c : Snapshot) : (holdingOnly c).flash.newestValid = some ⟨66, stored 499 .fit c⟩ :=
    Flash.newestValid_eq (.head _) (stored_valid .fit c (by decide) (by decide)) (holdingOnly_highest c)
  simp only [adoptionReports, endScan, h]
  decide +kernel

/-- A halted truck whose driver's door has stood closed to the contact long enough to open. -/
def opening : State :=
  ready.withDrive { ready.drive with
    drv := { ready.drive.drv with contactClosed := true, accepted := some false, debounce := some ⟨true, 50⟩ } }

/-- The driver's door, open since the reset, is about to be accepted as closed at this uptime; the kerb door stands so, and a purge
runs or not. -/
def closing (uptime : Nat) (kerbOpen purging : Bool) : State :=
  ((ready.withDrive { ready.drive with
      drv := { ready.drive.drv with accepted := some true, isOpen := true, debounce := some ⟨false, 50⟩ },
      krb := { ready.drive.krb with isOpen := kerbOpen } }).withUptime uptime).withPolicy
    { ready.policy with openSince := some 0, purging := purging }

theorem witness_ContactsAccepted :
    (ready.drive.door .drv).contactClosed = false ∧ (opening.drive.door .drv).contactClosed ≠ false
      ∧ (opening.drive.door .drv).debounce = some ⟨true, 50⟩
      ∧ ((opening.withDrive { opening.drive with drv := { opening.drive.drv with debounce := none } }).drive.door
          .drv).debounce = none
      ∧ (opening.drive.door .drv).isOpen = false ∧ opening.drive.vehicle = .halted ∧ opening.drive.stopFlag = false
      ∧ leaves (.debounceAccept .drv) opening (fun t => (t.drive.door .drv).isOpen) = true
      ∧ leaves (.debounceAccept .krb) ready (fun t => decide ((t.drive.door .krb).isOpen = false)) = true
      ∧ (moving false).drive.vehicle ≠ .halted ∧ (shiftOpen.withTally { shiftOpen.tally with stops := 65534 }).tally.stops
          < 65535
      ∧ ((closing 5 false false).drive.door .drv).isOpen = true
      ∧ leaves (.debounceAccept .drv) (closing 5 false false) (fun t => decide ((t.drive.door .drv).isOpen = false)) = true
      ∧ ((closing 5 true false).drive.door .krb).isOpen = true
      ∧ opening.blower.level = opening.policy.demand := by decide +kernel

theorem witness_ContactsAccepted_purge :
    PurgeDue (closing 5 false false) ∧ ¬PurgeDue (closing 4 false false) ∧ ¬PurgeDue (closing 5 false true) :=
  ⟨⟨rfl, ⟨0, rfl, by decide⟩, by decide, by decide⟩, fun ⟨_, ⟨o, h, late⟩, _⟩ => by cases h; exact absurd late (by decide),
    fun h => nomatch h.1⟩

/-- After 5 s a purge starts with the last door's closing, not before, and not while the other door is open; an opening cancels one
that runs (R50, R52). -/
theorem test_purge_starts :
    leaves (.debounceAccept .drv) (closing 5 false false) (fun t => decide (t.policy.purging = true ∧ t.policy.openSince = none
        ∧ t.timers.purge = some 45000 ∧ t.policy.demand = 7)) = true
      ∧ leaves (.debounceAccept .drv) (closing 4 false false) (fun t => !t.policy.purging) = true
      ∧ leaves (.debounceAccept .drv) (closing 5 true false)
          (fun t => !t.policy.purging && decide (t.policy.openSince = some 0)) = true := by decide +kernel

theorem test_purge_cancelled :
    leaves (.debounceAccept .drv) ((opening.withPolicy { opening.policy with purging := true }).withTimers
        { opening.timers with purge := some 1 })
      (fun t => decide (t.policy.purging = false ∧ t.timers.purge = none ∧ t.policy.openSince = some 0)) = true := by
  decide +kernel

/-- SILENT stops a moving truck with its door open, which the tally counts, and brings speed 0 to a slot (R97, R99, R148, R172). -/
theorem test_silent_delivers :
    leaves .driveAgeSilent (((moving true).withTally shiftOpen.tally).withWatch
        { ready.watch with slot1 := { ready.watch.slot1 with quantity := .speed, kind := .below, level := 5, scope := .always } })
      (fun t => decide (t.watch.slot1.firstHit = some ⟨0, 0⟩ ∧ t.drive.vehicle = .atStop ∧ t.tally.stops = 65535)) = true := by
  decide +kernel

theorem witness_DriveAgesAndUptime :
    (moving true).drive.freshness = .fresh ∧ ready.drive.freshness = .none
      ∧ ((moving true).withDrive { (moving true).drive with freshness := .silent }).drive.freshness = .silent
      ∧ ((moving true).withDrive { (moving true).drive with freshness := .stale }).drive.freshness = .stale
      ∧ (moving true).drive.vehicle = .moving ∧ 0 < (moving true).drive.lastSpeed
      ∧ ((moving true).withDrive { (moving true).drive with lastSpeed := 0 }).drive.lastSpeed = 0
      ∧ (ready.withUptime 4294967294).uptime < 4294967295
      ∧ (ready.withUptime 4294967295).uptime = 4294967295 := by decide +kernel

theorem witness_InhibitAndFaultLine :
    ready.flap.inhibit = false ∧ (flapWith { ready.flap with inhibit := true }).flap.inhibit = true
      ∧ (flapWith { ready.flap with inhibit := true, mode := .direct }).flap.mode = .direct
      ∧ (flapWith { ready.flap with inhibit := true, target := 0 }).flap.target
          ≠ (flapWith { ready.flap with inhibit := true, target := 0 }).flap.setPoint
      ∧ (flapWith { ready.flap with inhibit := true, setPoint := 0 }).flap.target
          ≠ (flapWith { ready.flap with inhibit := true, setPoint := 0 }).flap.setPoint
      ∧ (flapWith { ready.flap with inhibit := true, target := 0, mode := .tracked }).flap.mode ≠ .direct
      ∧ ready.flap.faultLine = false ∧ (flapTimed .homing).flap.state = .homing
      ∧ (flapIn .timed .disabled).flap.state = .disabled
      ∧ (flapWith { ready.flap with faultLine := true }).flap.faultLine = true := by decide +kernel

theorem witness_MovesComplete :
    (flapTimed .moving).flap.ready ≠ true ∧ (flapTimed .moving).flap.mode = .tracked
      ∧ (flapWith { ready.flap with mode := .tracked, state := .moving, readyFallen := true }).flap.readyFallen = true
      ∧ (flapTimed .moving).flap.target = (flapTimed .moving).flap.setPoint
      ∧ (flapTimed .waitReady).flap.state = .waitReady ∧ (flapWith { ready.flap with ready := true }).flap.ready ≠ false
      ∧ ready.flap.moveTimer = none ∧ (flapTimed .homing).flap.moveTimer.isSome = true
      ∧ (movingFresh.flap.state = .moving ∧ movingFresh.flap.mode = .timed
        ∧ movingFresh.flap.driveInFlight = some { start := 400, destination := 1000, towardFresh := true,
                                                  duration := 2400, elapsed := 600 }
        ∧ movingFresh.flap.target = 1000)
      ∧ ((flapWith { movingFresh.flap with state := .homing }).flap.driveInFlight.isSome = true)
      ∧ ready.flap.driveInFlight = none ∧ movingFresh.flap.state ≠ .homing
      ∧ ((flapTimed .homing).flap.state = .homing ∧ (flapTimed .homing).flap.mode = .tracked
        ∧ (flapTimed .homing).flap.homingWaiting = false ∧ (flapTimed .homing).flap.readyFallen = false)
      ∧ (flapWith { (flapTimed .homing).flap with homingWaiting := true }).flap.homingWaiting = true
      ∧ (flapWith { (flapTimed .homing).flap with readyFallen := true }).flap.readyFallen = true
      ∧ (flapIn .edge .homing).flap.mode = .edge
      ∧ (flapWith { movingFresh.flap with target := 250 }).flap.target ≠ 1000 := by decide +kernel

/-- A blower at level 0 in FRESH whose stall input stands asserted. -/
def stalled : State :=
  (ready.withBlower { ready.blower with level := 0, stall := true }).withPolicy
    { ready.policy with mode := .fresh, comfort := 0, demand := 0 }

theorem witness_StallTaken :
    PortFree stalled ∧ ready.blower.stall = false ∧ 0 < ready.blower.level ∧ ready.blower.fault = false
      ∧ (ready.withBlower { ready.blower with level := 0 }).blower.level = 0
      ∧ (ready.withBlower { ready.blower with stall := true }).blower.stall = true
      ∧ stalled.policy.mode = .fresh ∧ stalled.drive.vehicle ≠ .parked ∧ stalled.policy.purging = false
      ∧ stalled.policy.demand = 0 ∧ stalled.blower.level = 0 ∧ stalled.blower.stall = true ∧ stalled.blower.fault = false
      ∧ 0 < (1#8 : Byte).toNat ∧ 0 < (255#8 : Byte).toNat :=
  ⟨portFree_ready, by decide +kernel⟩

theorem witness_EstimatesAndTargetKept :
    leaves .estimatorUpdate traffic (fun _ => true) = true ∧ EstimatesInRange traffic ∧ TargetIsCandidate traffic
      ∧ TimersFollow traffic ∧ RecircTarget traffic
      ∧ RecircTarget (traffic.withPolicy { traffic.policy with mode := .recirc, target := 500 })
      ∧ ¬RecircTarget (traffic.withPolicy { traffic.policy with mode := .recirc }) := by
  unfold EstimatesInRange TargetIsCandidate TimersFollow RecircTarget
  decide +kernel

theorem witness_DemandAndTimersKept :
    DemandIsDue traffic ∧ TimersFollow traffic
      ∧ leaves .park traffic (fun t => decide (t.drive.vehicle = .parked)) = true
      ∧ leaves .decExpiry traffic (fun t => decide (t.drive.vehicle ≠ .parked ∧ t.policy.mode = .auto)) = true := by
  unfold DemandIsDue TimersFollow
  decide +kernel

theorem witness_ChannelsAndPositionsKept : ChannelsSound ready ∧ PositionsInRange ready := by
  refine ⟨fun c => ⟨?_, fun x h => ?_, ?_, ?_⟩, positions_ready⟩
  · cases c <;> decide +kernel
  · cases c <;> cases h <;> decide +kernel
  · cases c <;> decide +kernel
  · cases c <;> decide +kernel

theorem witness_EpisodesKept : EpisodesSound fullTable :=
  ⟨by decide +kernel, by decide +kernel, fun d => by cases d <;> decide +kernel⟩

theorem witness_NoticesAndQueueKept :
    NoticesSound (notified true) ∧ (sendingWith [.park, .wake]).link.queue.length ≤ 2
      ∧ ReplyFramed (sendingWith [.park, .wake]) := by
  refine ⟨?_, by decide +kernel, fun r h => ?_⟩
  · unfold NoticesSound
    decide +kernel
  · cases h
    decide +kernel

/-- Sector 4 after its scan: the newest record stands in slot 66, and nothing is in flight. -/
def scanned : State :=
  afterCut.withJournal { afterCut.journal with
    state := .ready, activeSector := some 4, writePosition := 3, nextSequence := 500, newest := some ⟨4, 499, .fit⟩ }

/-- The records of sector 4, the one cut short among them, carry sequences of the range (R154). -/
theorem scanned_range : SequencesInRange scanned.flash := by
  intro a r h
  simp only [show scanned.flash = [(64, .record (stored 497 .checkpoint ⟨ready.filter, ready.tally⟩)), (65, .damaged),
    (66, .record newestStored), (67, .record badStored)] from rfl, Flash.read] at h
  repeat' split at h
  all_goals cases h
  all_goals decide

theorem writing_sound : JournalSound writing := by
  refine ⟨by decide +kernel, fun a r h => (nomatch h), fun a h => ?_, by decide +kernel, fun h => absurd rfl h, fun w h => ?_,
    fun n h => (nomatch h), fun h => (nomatch h)⟩
  · cases h
    decide
  · cases h
    exact ⟨by decide, by decide, rfl, rfl, by decide, by decide⟩

theorem scanned_sound : JournalSound scanned := by
  refine ⟨by decide +kernel, scanned_range, fun a h => ?_, by decide +kernel, fun h => absurd rfl h, fun w h => (nomatch h), fun n h => ?_,
    fun _ => ⟨rfl, rfl⟩⟩
  · cases h
    decide
  · cases h
    exact ⟨2, newestStored, by decide, newestStored_valid, rfl, rfl⟩

/-- `scanned` with a write at this phase, which a power-on reset will cut. -/
def cutAt (phase : WritePhase) : State :=
  scanned.withJournal { scanned.journal with
    write := some { kind := .checkpoint, snapshot := ⟨scanned.filter, scanned.tally⟩, parkOwed := true, phase := phase } }

theorem cutAt_sound {phase : WritePhase} (h : phase.Sound scanned.journal scanned.flash) : JournalSound (cutAt phase) := by
  obtain ⟨form, range, active, next, _, _, newest, _⟩ := scanned_sound
  refine ⟨form, range, active, next, fun h => absurd rfl h, fun w hw => ?_, newest, fun h => (nomatch h)⟩
  cases hw
  exact h

theorem witness_ResetGivesStartValues_cut :
    JournalSound (cutAt (.programming 4 4 500)) ∧ JournalSound (cutAt (.erasing 5)) := by
  refine ⟨cutAt_sound ⟨by decide, by decide, rfl, by decide +kernel, by decide, by decide⟩,
    cutAt_sound ⟨by decide, fun h => (nomatch h), fun h => (nomatch h), fun n h => ?_⟩⟩
  cases h
  decide

/-- A reset that cuts a program leaves its slot as the outcome says and the newest record in the slot below; one that cuts an erase
leaves the other sectors (R158, R168). -/
theorem test_reset_cuts :
    leaves (.powerOnReset allOff [.untouched, .untouched, .untouched, .untouched, .damaged]) (cutAt (.programming 4 4 500))
        (fun t => t.journal.write.isNone && decide (t.flash.read 68 = .damaged)
          && (match t.flash.read 66 with | .record r => decide (r.sequence = 499) | _ => false)) = true
      ∧ leaves (.powerOnReset allOff [.damaged]) (cutAt (.erasing 5))
        (fun t => decide (t.flash.read 80 = .damaged ∧ t.flash.read 81 = scanned.flash.read 81)
          && (match t.flash.read 66 with | .record r => decide (r.sequence = 499) | _ => false)) = true := by decide +kernel

/-- Sector 4 in its scan, which will adopt the record of slot 66. -/
theorem scanning_sound : JournalSound afterCut :=
  ⟨scanned_sound.1, scanned_range, fun a h => (nomatch h), by decide +kernel, fun _ => rfl, fun w h => (nomatch h),
    fun n h => (nomatch h), fun _ => ⟨rfl, rfl⟩⟩

theorem witness_NewestRecordKept : JournalSound writing ∧ JournalSound scanned ∧ JournalSound afterCut :=
  ⟨writing_sound, scanned_sound, scanning_sound⟩

theorem witness_FlapKept :
    FlapSound movingFresh ∧ (flapWith { ready.flap with inhibit := true }).flap.inhibit = true
      ∧ leaves .stateRead (flapWith { ready.flap with inhibit := true }) (fun t => t.flap.inhibit) = true
      ∧ (flapIn .timed .disabled).flap.state = .disabled
      ∧ leaves .flapRecover (flapIn .timed .disabled) (fun _ => true) = true := by
  unfold FlapSound
  decide +kernel

theorem witness_OnlyTheOwnersChange :
    leaves .decExpiry ready (fun _ => true) = true ∧ ready.link.queue = []
      ∧ (parked.withTimers { parked.timers with est := none }).timers.est = none
      ∧ (parked.withTimers { parked.timers with est := none }).drive.vehicle = .parked
      ∧ ((slotOne .above (some ⟨0, 6⟩)).watch.get .one).firstHit = some ⟨0, 6⟩
      ∧ (0#8 : Byte).toNat = 0 ∧ 25 < (26#8 : Byte).toNat
      ∧ leaves (.sample 0 100 0) ready (fun _ => true) = true ∧ (sendingWith [.park]).link.queue.head? ≠ some .restart
      ∧ parked.drive.vehicle = .parked := by decide +kernel

end Sys2Proof.Tests
end

section
/-! COMFORT (R35): what a recomputation of the blower demand and a reset leave in the policy, and the obligation O15. -/

namespace Sys2Proof.Machine

/-! ### A recomputation of the demand and the resets -/

/-- The policy after a recomputation holds the demand that is due, and is otherwise as it was (R54). -/
@[simp] theorem recomputeDemand_policy (s : State) :
    (recomputeDemand s).policy = { s.policy with demand := s.demandDue } := by
  unfold recomputeDemand
  split
  next same => rw [same]
  next => simp

/-- A blower that stands at the demand stands at the one due after a recomputation (R54, R132). -/
theorem recomputeDemand_level {s : State} (h : s.blower.level = s.policy.demand) :
    (recomputeDemand s).blower.level = s.demandDue := by
  obtain ⟨handed, -⟩ := recomputeDemand_follows h
  simp [handed, blowerHanded]

/-- A reset of either kind gives the policy's start values, whatever lines it finds (R29). -/
@[simp] theorem resetModule_policy (kind : ResetKind) (lines : ResetLines) (flash : Flash) (s : State) :
    (resetModule kind lines flash s).policy = Policy.afterReset := by
  simp [resetModule, State.resetWith]

/-- The end of a RESTART's reply is the reset (R197). -/
theorem replyLeaves_restart {s : State} (sending : s.link.sending.isSome = true)
    (head : s.link.queue.head? = some .restart) : replyLeaves s = restartReset s := by
  simp [replyLeaves, head, Option.isSome_iff_ne_none.mp sending]

/-! ### COMFORT -/

/-- The level that COMFORT stores (R35). -/
theorem comfort_field (level : Byte) : field 0 7 level = min level.toNat 7 := by
  rw [field_eq level (by decide), toRange, Nat.zero_max]

/-- COMFORT clamps a level above 7 and no other (R35). -/
theorem comfort_clamps (level : Byte) : clamps 0 7 level = decide (7 < level.toNat) := by
  simp [clamps]

/-- A taken COMFORT stores the level, and the demand by R53's table (R35). -/
theorem takeComfort_policy (level : Nat) (s : State) :
    (takeComfort level s).policy = { s.policy with
      comfort := level,
      demand := demandByTable (decide (s.drive.vehicle = .parked)) s.policy.purging s.policy.mode s.policy.basis level } := by
  rw [takeComfort, recomputeDemand_policy, demandDue_eq]
  rfl

/-- A taken COMFORT applies the demand it works out (R35, R132). -/
theorem takeComfort_level (level : Nat) {s : State} (h : s.blower.level = s.policy.demand) :
    (takeComfort level s).blower.level = (takeComfort level s).policy.demand := by
  unfold takeComfort
  rw [recomputeDemand_level (by simpa using h), recomputeDemand_policy]

/-- COMFORT served as the head touches the reply, the policy, the blower and its fault's notice alone: no decision runs (R35). -/
theorem serveComfort_onlyChanges (level : Byte) (s : State) (r : Request) :
    OnlyChanges [.link, .policy, .blower, .notices] s (serveComfort level (s.atHead r)) := by
  refine ⟨by simp, fun p unlisted => ?_⟩
  cases p <;> simp [Part.Same] at unlisted ⊢

/-- COMFORT served as the head is answered DONE, or DONE-CLAMPED above 7 (R35). -/
theorem serveComfort_answered (level : Byte) {s : State} (free : PortFree s) :
    Answered (.comfort level) (if 7 < level.toNat then 1 else 0) [] s (serveComfort level (s.atHead (.comfort level))) := by
  obtain ⟨-, -, notHolding, -⟩ := free
  refine answered_sendReply (by simp) rfl ?_ notHolding
  simp [doneOr_code, comfort_clamps level]

/-- Settles O15: the served COMFORT by its policy, level and frame, and the start value of every reset. -/
theorem comfortTaken : Obligations.ComfortTaken := by
  refine ⟨fun level s free applied => ?_, rfl, fun lines cut s t h => ?_, fun s t sending head h => ?_⟩
  · have policy : (serveComfort level (s.atHead (.comfort level))).policy = { s.policy with
        comfort := min level.toNat 7,
        demand := demandByTable (decide (s.drive.vehicle = .parked)) s.policy.purging s.policy.mode s.policy.basis
          (min level.toNat 7) } := by
      simp [serveComfort, takeComfort_policy, comfort_field level]
    refine ⟨_, exec_request_free rfl free, serveComfort_answered level free, policy, ?_, fun parked => ?_,
      serveComfort_onlyChanges level s (.comfort level)⟩
    · simpa [serveRequest, serveComfort] using
        takeComfort_level (field 0 7 level) (s := s.atHead (.comfort level)) (by simpa using applied)
    · simp [serveRequest, policy, parked, demandByTable]
  · obtain rfl : powerOn lines cut s = t := by simpa [exec, execPowerOnReset] using h
    simp [powerOn, Policy.afterReset]
  · obtain rfl : restartReset s = t := by
      simpa [exec, execReplySent, replyLeaves_restart sending head] using h
    simp [restartReset, Policy.afterReset]

end Sys2Proof.Machine
end

section
/-! FILTER READ (R145): how the fields of a reply's body read back, the bounds of a filter record's derived values, and the
obligation O23. -/

namespace Sys2Proof.Machine

/-! ### Reading the fields of a body (R191) -/

@[simp] theorem out8_length (x : Nat) : (out8 x).length = 1 := by simp [out8]

@[simp] theorem out16_length (x : Int) : (out16 x).length = 2 := by simp [out16, bytes16]

@[simp] theorem out32_length (x : Int) : (out32 x).length = 4 := by simp [out32, bytes32]

/-- A field that stands after a part of the body is read in the rest of it. -/
theorem fieldAt_append_right {l : List Byte} {offset : Nat} (rest : List Byte) (n : Nat) (h : l.length ≤ offset) :
    fieldAt (l ++ rest) offset n = fieldAt rest (offset - l.length) n := by
  simp [fieldAt, List.drop_append, List.drop_eq_nil_of_le h]

/-- A field within the first part of a body is read there. -/
theorem fieldAt_append_left {l : List Byte} {n : Nat} (rest : List Byte) (h : n ≤ l.length) :
    fieldAt (l ++ rest) 0 n = fieldAt l 0 n := by
  simp [fieldAt, List.take_append_of_le_length h]

/-- The two bytes of a word read as its number. -/
theorem fieldAt_bytes16 (x : Word16) : fieldAt (bytes16 x) 0 2 = x.toNat := by
  have bound := x.isLt
  simp only [fieldAt, bytes16, List.drop_zero, List.take_succ_cons, List.take_zero, List.foldl_cons, List.foldl_nil,
    BitVec.extractLsb'_toNat, Nat.shiftRight_eq_div_pow]
  omega

/-- The four bytes of a word read as its number. -/
theorem fieldAt_bytes32 (x : Word32) : fieldAt (bytes32 x) 0 4 = x.toNat := by
  have bound := x.isLt
  simp only [fieldAt, bytes32, List.drop_zero, List.take_succ_cons, List.take_zero, List.foldl_cons, List.foldl_nil,
    BitVec.extractLsb'_toNat, Nat.shiftRight_eq_div_pow]
  omega

/-- A one-byte field reads as its number modulo 2^8. -/
theorem fieldAt_out8 (x : Nat) : fieldAt (out8 x) 0 1 = x % 2 ^ 8 := by
  simp [fieldAt, out8]

/-- A two-byte field reads as its number modulo 2^16, in two's complement for a signed one. -/
theorem fieldAt_out16 (x : Int) : fieldAt (out16 x) 0 2 = (x % 2 ^ 16).toNat := by
  simp [out16, fieldAt_bytes16]

/-- A four-byte field reads as its number modulo 2^32, in two's complement for a signed one. -/
theorem fieldAt_out32 (x : Int) : fieldAt (out32 x) 0 4 = (x % 2 ^ 32).toNat := by
  simp [out32, fieldAt_bytes32]

/-- An unsigned number of at most 16 bits reads back from its two bytes. -/
theorem fieldAt_out16_of_lt {x : Nat} (h : x < 2 ^ 16) : fieldAt (out16 x) 0 2 = x := by
  rw [fieldAt_out16]
  omega

/-- An unsigned number of at most 32 bits reads back from its four bytes. -/
theorem fieldAt_out32_of_lt {x : Nat} (h : x < 2 ^ 32) : fieldAt (out32 x) 0 4 = x := by
  rw [fieldAt_out32]
  omega

/-! ### The numbers of the record layout -/

theorem filterKind_code_le (k : FilterKind) : k.code ≤ 2 := by cases k <;> decide

theorem filterState_code_le (x : FilterState) : x.code ≤ 3 := by cases x <;> decide

/-- The particle efficiency does not fall with load: it is at most its base (R139). -/
theorem etaPm_le (r : FilterRecord) : r.etaPm ≤ r.etaPmBase := by
  unfold FilterRecord.etaPm
  cases r.kind <;> simp

/-- The gas efficiency falls with load from its base (R139). -/
theorem etaGas_le (r : FilterRecord) : r.etaGas ≤ r.etaGasBase.getD 0 := by
  unfold FilterRecord.etaGas
  cases r.kind with
  | none | particle => exact Nat.zero_le _
  | combined => exact Nat.div_le_of_le_mul (by rw [Nat.mul_comm]; exact Nat.mul_le_mul_right _ (Nat.sub_le _ _))

theorem derate_le (r : FilterRecord) : r.derate ≤ 1000 := by
  unfold FilterRecord.derate
  cases r.kind <;> simp

/-- The gas efficiency of R139 in every record: a COMBINED one without its capacity or its base gives 0, as the rules read it. -/
theorem etaGas_eq_rules (r : FilterRecord) : (r.etaGas : Int) = etaGasByRules r := by
  by_cases held : r.kind = .combined → r.gasCap.isSome = true ∧ r.etaGasBase.isSome = true
  · exact etaGas_eq r held
  · obtain ⟨combined, absent⟩ := Classical.not_imp.mp held
    have absent : r.gasCap = none ∨ r.etaGasBase = none :=
      (not_and_or.mp absent).imp Option.not_isSome_iff_eq_none.mp Option.not_isSome_iff_eq_none.mp
    unfold FilterRecord.etaGas etaGasByRules
    rcases absent with noCap | noBase
    · simp [combined, noCap]
    · simp [combined, noBase]

/-! ### The body of FILTER READ (section 11.6) -/

theorem filterBody_length (s : State) : (filterBody s).length = 38 := by
  simp [filterBody]

/-- Each field of the layout stands at its offset: the reply is read there as that field's own bytes. -/
theorem filterBody_fields (s : State) :
    fieldAt (filterBody s) 0 1 = fieldAt (out8 s.filter.kind.code) 0 1
    ∧ fieldAt (filterBody s) 1 2 = fieldAt (out16 s.filter.fitDay) 0 2
    ∧ fieldAt (filterBody s) 3 4 = fieldAt (out32 s.filter.pmCap) 0 4
    ∧ fieldAt (filterBody s) 7 4 = fieldAt (out32 (s.filter.gasCap.getD 0 : Nat)) 0 4
    ∧ fieldAt (filterBody s) 11 2 = fieldAt (out16 s.filter.etaPmBase) 0 2
    ∧ fieldAt (filterBody s) 13 2 = fieldAt (out16 (s.filter.etaGasBase.getD 0 : Nat)) 0 2
    ∧ fieldAt (filterBody s) 15 4 = fieldAt (out32 s.filter.pmLoad) 0 4
    ∧ fieldAt (filterBody s) 19 4 = fieldAt (out32 s.filter.gasLoad) 0 4
    ∧ fieldAt (filterBody s) 23 4 = fieldAt (out32 s.filter.pmAcc) 0 4
    ∧ fieldAt (filterBody s) 27 4 = fieldAt (out32 s.filter.gasAcc) 0 4
    ∧ fieldAt (filterBody s) 31 1 = fieldAt (out8 (s.filter.state.code + 4 * s.filter.suspect.toNat)) 0 1
    ∧ fieldAt (filterBody s) 32 2 = fieldAt (out16 s.filter.etaPm) 0 2
    ∧ fieldAt (filterBody s) 34 2 = fieldAt (out16 s.filter.etaGas) 0 2
    ∧ fieldAt (filterBody s) 36 2 = fieldAt (out16 s.filter.derate) 0 2 := by
  simp only [filterBody, List.append_assoc]
  simp [fieldAt_append_right, fieldAt_append_left]

/-- The byte of the state holds the SUSPECT flag at bit 2. -/
theorem stateByte_read (x : FilterState) (suspect : Bool) :
    fieldAt (out8 (x.code + 4 * suspect.toNat)) 0 1 = x.code + (if suspect then 4 else 0) := by
  have := filterState_code_le x
  rw [fieldAt_out8]
  cases suspect <;> simp <;> omega

/-! ### Answering -/

/-- A request that is only answered changes the link port alone. -/
theorem sendReply_onlyChanges (code : Byte) (result : ResultCode) (body : List Byte) (s : State) (r : Request) :
    OnlyChanges [.link] s (sendReply code result body (s.atHead r)) := by
  refine ⟨by simp, fun p unlisted => ?_⟩
  cases p <;> simp [Part.Same] at unlisted ⊢

/-- Settles O23: the body as the layout builds it, each field within the width that carries it. -/
theorem filterReadAnswered : Obligations.FilterReadAnswered := by
  intro s free pmLoad gasLoad pmAcc gasAcc pmCap gasCap fitDay etaPmBase etaGasBase
  have etaPm := etaPm_le s.filter
  have etaGas := etaGas_le s.filter
  have derate := derate_le s.filter
  obtain ⟨atKind, atFitDay, atPmCap, atGasCap, atEtaPmBase, atEtaGasBase, atPmLoad, atGasLoad, atPmAcc, atGasAcc, atState,
    atEtaPm, atEtaGas, atDerate⟩ := filterBody_fields s
  have ⟨_, _, notHolding, _⟩ := free
  refine ⟨_, filterBody s, exec_request_free rfl free, answered_sendReply rfl rfl rfl notHolding,
    sendReply_onlyChanges _ _ _ s .filterRead, filterBody_length s, ?_, ?_, ?_, ?_, ?_, ?_, ?_, ?_, ?_, ?_, ?_, ?_, ?_, ?_⟩
  · have := filterKind_code_le s.filter.kind
    rw [atKind, fieldAt_out8]
    omega
  · rw [atFitDay, fieldAt_out16_of_lt (by omega)]
  · rw [atPmCap, fieldAt_out32_of_lt (by omega)]
  · rw [atGasCap, fieldAt_out32_of_lt (by omega)]
  · rw [atEtaPmBase, fieldAt_out16_of_lt (by omega)]
  · rw [atEtaGasBase, fieldAt_out16_of_lt (by omega)]
  · rw [atPmLoad, fieldAt_out32_of_lt pmLoad]
  · rw [atGasLoad, fieldAt_out32_of_lt gasLoad]
  · rw [atPmAcc, fieldAt_out32_of_lt pmAcc]
  · rw [atGasAcc, fieldAt_out32_of_lt gasAcc]
  · rw [atState, stateByte_read]
  · rw [atEtaPm, fieldAt_out16_of_lt (by omega), etaPm_eq]
  · rw [atEtaGas, fieldAt_out16_of_lt (by omega), etaGas_eq_rules]
  · rw [atDerate, fieldAt_out16_of_lt (by omega), derate_eq]

end Sys2Proof.Machine
end

section
/-! The watch slots (R173 to R176): what an evaluation makes of a slot by its kind, when it raises WATCH, and the obligation O27. -/

namespace Sys2Proof.Machine

/-! ### One slot, by its kind (R174, R175) -/

section
variable {w : WatchSlot} {v : Int} {uptime : Nat}

theorem slotEvaluated_off (off : w.scope = .off) : slotEvaluated w v uptime = w := by
  simp [slotEvaluated, off]

theorem slotEvaluated_above (on : w.scope ≠ .off) (kind : w.kind = .above) : slotEvaluated w v uptime =
    if w.level < v then { w with firstHit := if w.firstHit = none then some ⟨uptime, v⟩ else w.firstHit } else w := by
  simp [slotEvaluated, kind]

theorem slotEvaluated_below (on : w.scope ≠ .off) (kind : w.kind = .below) : slotEvaluated w v uptime =
    if v < w.level then { w with firstHit := if w.firstHit = none then some ⟨uptime, v⟩ else w.firstHit } else w := by
  simp [slotEvaluated, kind]

theorem slotEvaluated_crossUp (on : w.scope ≠ .off) (kind : w.kind = .crossUp) : slotEvaluated w v uptime =
    if w.armed = true then
      if w.level < v then
        { w with armed := false, firstHit := if w.firstHit = none then some ⟨uptime, v⟩ else w.firstHit }
      else w
    else if v ≤ w.level - w.hysteresis then { w with armed := true } else w := by
  simp [slotEvaluated, kind]

theorem slotEvaluated_crossDown (on : w.scope ≠ .off) (kind : w.kind = .crossDown) : slotEvaluated w v uptime =
    if w.armed = true then
      if v < w.level then
        { w with armed := false, firstHit := if w.firstHit = none then some ⟨uptime, v⟩ else w.firstHit }
      else w
    else if w.level + w.hysteresis ≤ v then { w with armed := true } else w := by
  simp [slotEvaluated, kind]

/-- A value beyond the level of an ABOVE or BELOW slot is a hit, and its first hit is stored (R174, R176). -/
theorem slotEvaluated_level_hit (on : w.scope ≠ .off)
    (beyond : (w.kind = .above ∧ w.level < v) ∨ (w.kind = .below ∧ v < w.level)) (unhit : w.firstHit = none) :
    slotEvaluated w v uptime = { w with firstHit := some ⟨uptime, v⟩ } := by
  obtain ⟨kind, beyond⟩ | ⟨kind, beyond⟩ := beyond
  · rw [slotEvaluated_above on kind, if_pos beyond, if_pos unhit]
  · rw [slotEvaluated_below on kind, if_pos beyond, if_pos unhit]

/-- An ABOVE or BELOW slot stands at a value that is not beyond its level, and once it has hit (R174). -/
theorem slotEvaluated_level_stands (on : w.scope ≠ .off) (level : w.kind = .above ∨ w.kind = .below)
    (stands : (w.kind = .above ∧ v ≤ w.level) ∨ (w.kind = .below ∧ w.level ≤ v) ∨ w.firstHit ≠ none) :
    slotEvaluated w v uptime = w := by
  obtain ⟨kind, short⟩ | ⟨kind, short⟩ | hit := stands
  · rw [slotEvaluated_above on kind, if_neg (not_lt.mpr short)]
  · rw [slotEvaluated_below on kind, if_neg (not_lt.mpr short)]
  · obtain kind | kind := level
    · rw [slotEvaluated_above on kind, if_neg hit, ite_self]
    · rw [slotEvaluated_below on kind, if_neg hit, ite_self]

/-- A value beyond the level disarms an armed CROSS slot and is a hit (R175, R176). -/
theorem slotEvaluated_cross_hit (on : w.scope ≠ .off) (armed : w.armed = true)
    (beyond : (w.kind = .crossUp ∧ w.level < v) ∨ (w.kind = .crossDown ∧ v < w.level)) :
    slotEvaluated w v uptime =
      { w with armed := false, firstHit := if w.firstHit = none then some ⟨uptime, v⟩ else w.firstHit } := by
  obtain ⟨kind, beyond⟩ | ⟨kind, beyond⟩ := beyond
  · rw [slotEvaluated_crossUp on kind, if_pos armed, if_pos beyond]
  · rw [slotEvaluated_crossDown on kind, if_pos armed, if_pos beyond]

/-- A value back from the level by the hysteresis arms a disarmed CROSS slot (R175). -/
theorem slotEvaluated_cross_arms (on : w.scope ≠ .off) (disarmed : w.armed = false)
    (back : (w.kind = .crossUp ∧ v ≤ w.level - w.hysteresis) ∨ (w.kind = .crossDown ∧ w.level + w.hysteresis ≤ v)) :
    slotEvaluated w v uptime = { w with armed := true } := by
  have notArmed : ¬ w.armed = true := by simp [disarmed]
  obtain ⟨kind, back⟩ | ⟨kind, back⟩ := back
  · rw [slotEvaluated_crossUp on kind, if_neg notArmed, if_pos back]
  · rw [slotEvaluated_crossDown on kind, if_neg notArmed, if_pos back]

/-- An armed CROSS slot stands at a value that is not beyond its level, a disarmed one at a value not yet back from it (R175). -/
theorem slotEvaluated_cross_stands (on : w.scope ≠ .off)
    (stands : (w.armed = true ∧ w.kind = .crossUp ∧ v ≤ w.level)
      ∨ (w.armed = true ∧ w.kind = .crossDown ∧ w.level ≤ v)
      ∨ (w.armed = false ∧ w.kind = .crossUp ∧ w.level - w.hysteresis < v)
      ∨ (w.armed = false ∧ w.kind = .crossDown ∧ v < w.level + w.hysteresis)) :
    slotEvaluated w v uptime = w := by
  obtain ⟨armed, kind, short⟩ | ⟨armed, kind, short⟩ | ⟨armed, kind, short⟩ | ⟨armed, kind, short⟩ := stands
  · rw [slotEvaluated_crossUp on kind, if_pos armed, if_neg (not_lt.mpr short)]
  · rw [slotEvaluated_crossDown on kind, if_pos armed, if_neg (not_lt.mpr short)]
  · rw [slotEvaluated_crossUp on kind, if_neg (by simp [armed]), if_neg (not_le.mpr short)]
  · rw [slotEvaluated_crossDown on kind, if_neg (by simp [armed]), if_neg (not_le.mpr short)]

/-- An evaluation of a slot that is not OFF is a first hit just when it sets the hit flag (R176). -/
theorem hitsFirst_iff (on : w.scope ≠ .off) :
    (w.hits v && w.firstHit.isNone) = true ↔ (slotEvaluated w v uptime).firstHit ≠ w.firstHit := by
  rw [← evaluated_eq w v uptime on]
  cases hit : w.firstHit <;> simp [WatchSlot.evaluated, hit]

end

/-! ### The evaluation of a slot in the state (R173, R176) -/

theorem WatchUnit.set_get (u : WatchUnit) (n : SlotNumber) : u.set n (u.get n) = u := by
  cases n <;> rfl

/-- An evaluation that is a first hit writes its slot and raises WATCH for it (R176). -/
theorem evaluateSlot_of_first {n : SlotNumber} {v : Int} {s : State} (on : (s.watch.get n).scope ≠ .off)
    (first : (slotEvaluated (s.watch.get n) v s.uptime).firstHit ≠ (s.watch.get n).firstHit) :
    evaluateSlot n v s
      = raise (.watch [n]) (s.withWatch (s.watch.set n (slotEvaluated (s.watch.get n) v s.uptime))) := by
  unfold evaluateSlot
  rw [← evaluated_eq _ _ _ on]
  exact (if_neg on).trans (if_pos ((hitsFirst_iff on).mpr first))

/-- An evaluation that is no first hit writes its slot and does nothing else (R173, R176). -/
theorem evaluateSlot_of_no_first {n : SlotNumber} {v : Int} {s : State}
    (same : (slotEvaluated (s.watch.get n) v s.uptime).firstHit = (s.watch.get n).firstHit) :
    evaluateSlot n v s = s.withWatch (s.watch.set n (slotEvaluated (s.watch.get n) v s.uptime)) := by
  unfold evaluateSlot
  by_cases off : (s.watch.get n).scope = .off
  · rw [slotEvaluated_off off, WatchUnit.set_get]
    exact if_pos off
  · rw [← evaluated_eq _ _ _ off]
    exact (if_neg off).trans (if_neg fun first => (hitsFirst_iff off).mp first same)

/-- An evaluation leaves the notices alone unless it sets the slot's hit flag (R176). -/
theorem evaluateSlot_notices {n : SlotNumber} {v : Int} {s : State}
    (same : (slotEvaluated (s.watch.get n) v s.uptime).firstHit = (s.watch.get n).firstHit) :
    (evaluateSlot n v s).notices = s.notices := by
  rw [evaluateSlot_of_no_first same, State.withWatch_notices]

/-- A slot's first hit raises WATCH for it (R176). -/
theorem evaluateSlot_raises {n : SlotNumber} {v : Int} {s : State} (on : (s.watch.get n).scope ≠ .off)
    (first : (slotEvaluated (s.watch.get n) v s.uptime).firstHit ≠ (s.watch.get n).firstHit) :
    ∃ p ∈ (evaluateSlot n v s).notices.pending, ∃ l, p.notice = .watch l ∧ n ∈ l := by
  rw [evaluateSlot_of_first on first]
  exact raise_watch n _

/-- An evaluation that leaves its slot as it stood changes nothing in the state. -/
theorem evaluateSlot_eq_self {n : SlotNumber} {v : Int} {s : State}
    (stands : slotEvaluated (s.watch.get n) v s.uptime = s.watch.get n) : evaluateSlot n v s = s := by
  rw [evaluateSlot_of_no_first (by rw [stands]), stands, WatchUnit.set_get]
  rfl

/-- What an evaluation of a slot makes of that slot. -/
theorem evaluateSlot_get_same (n : SlotNumber) (v : Int) (s : State) :
    (evaluateSlot n v s).watch.get n = slotEvaluated (s.watch.get n) v s.uptime := by
  rw [evaluateSlot_get, if_pos rfl]

/-- An evaluation of one slot touches no other. -/
theorem evaluateSlot_get_other {n m : SlotNumber} (other : m ≠ n) (v : Int) (s : State) :
    (evaluateSlot n v s).watch.get m = s.watch.get m := by
  rw [evaluateSlot_get, if_neg other]

theorem evaluateSlot_onlyChanges (n : SlotNumber) (v : Int) (s : State) :
    OnlyChanges [.watch, .notices] s (evaluateSlot n v s) := by
  refine ⟨by simp, fun p unlisted => ?_⟩
  cases p <;> simp [Part.Same] at unlisted ⊢

theorem deliver_onlyChanges (q : Quantity) (v : Int) (s : State) :
    OnlyChanges [.watch, .notices] s (deliver q v s) := by
  refine ⟨by simp, fun p unlisted => ?_⟩
  cases p <;> simp [Part.Same] at unlisted ⊢

/-- Settles O27: the slot by its kind's comparison, the notices by whether the hit flag is set, and the rest by the frame. -/
theorem aboveAndBelowHit : Obligations.AboveAndBelowHit := by
  refine ⟨fun n v s on level => ⟨fun beyond unhit => ?_, fun stands => ?_⟩,
    fun n v s on _ => ⟨fun armed beyond => ⟨fun unhit => ?_, fun hit => ?_⟩, fun disarmed back => ?_, fun stands => ?_⟩,
    fun n v s => ⟨evaluateSlot_onlyChanges n v s, fun m other => evaluateSlot_get_other other v s, fun off => ?_⟩,
    fun q v s => ⟨deliver_onlyChanges q v s, deliver_delivered q v s, fun n unwatched => ?_⟩⟩
  · have after := slotEvaluated_level_hit (uptime := s.uptime) on beyond unhit
    exact ⟨(evaluateSlot_get_same n v s).trans after, evaluateSlot_raises on (by simp [after, unhit])⟩
  · exact evaluateSlot_eq_self (slotEvaluated_level_stands on level stands)
  · have after := slotEvaluated_cross_hit (uptime := s.uptime) on armed beyond
    rw [if_pos unhit] at after
    exact ⟨(evaluateSlot_get_same n v s).trans after, evaluateSlot_raises on (by simp [after, unhit])⟩
  · have after := slotEvaluated_cross_hit (uptime := s.uptime) on armed beyond
    rw [if_neg hit] at after
    exact ⟨(evaluateSlot_get_same n v s).trans after, evaluateSlot_notices (by rw [after])⟩
  · have after := slotEvaluated_cross_arms (uptime := s.uptime) on disarmed back
    exact ⟨(evaluateSlot_get_same n v s).trans after, evaluateSlot_notices (by rw [after])⟩
  · exact evaluateSlot_eq_self (slotEvaluated_cross_stands on stands)
  · exact evaluateSlot_eq_self (slotEvaluated_off off)
  · rw [deliver_get, if_neg unwatched]

end Sys2Proof.Machine
end

section
/-! The episode table (R57, R60, R62): each operation of the plume tracker keeps it sound. -/

namespace Sys2Proof.Machine

/-- The table holds one OPEN record at most per detector, its latest there, and it is the detector's open episode (R57, R60). -/
def Tracker.Sound (t : Tracker) : Prop :=
  t.table.length ≤ 16
    ∧ t.table.Pairwise (fun e q => e.ending = none → q.source ≠ e.source)
    ∧ ∀ d : DetectorId, (t.table.filter (Episode.isOpenOf d)).map (·.number) = (t.detector d).openEpisode.toList

theorem episodesSound_iff (s : State) : EpisodesSound s ↔ s.tracker.Sound := Iff.rfl

@[simp] theorem setDetector_table (t : Tracker) (d : DetectorId) (r : DetectorRecord) :
    (t.setDetector d r).table = t.table := by cases d <;> rfl

@[simp] theorem setDetector_nextNumber (t : Tracker) (d : DetectorId) (r : DetectorRecord) :
    (t.setDetector d r).nextNumber = t.nextNumber := by cases d <;> rfl

/-- A replaced detector record reads back, and the other detector's stands. -/
theorem detector_setDetector (t : Tracker) (d d' : DetectorId) (r : DetectorRecord) :
    (t.setDetector d r).detector d' = if d' = d then r else t.detector d' := by
  cases d <;> cases d' <;> rfl

/-- The table and the numbering leave the detectors alone. -/
@[simp] theorem detector_withTable (t : Tracker) (l : List Episode) (n : Nat) (d : DetectorId) :
    ({ t with table := l, nextNumber := n } : Tracker).detector d = t.detector d := by cases d <;> rfl

@[simp] theorem isOpenOf_iff (d : DetectorId) (e : Episode) : e.isOpenOf d = true ↔ e.source = d ∧ e.ending = none := by
  simp [Episode.isOpenOf]

/-- A tracker whose table and open episodes stand is as sound as before. -/
theorem Tracker.Sound.congr {t u : Tracker} (table : u.table = t.table)
    (opens : ∀ d, (u.detector d).openEpisode = (t.detector d).openEpisode) (h : t.Sound) : u.Sound := by
  simpa [Tracker.Sound, table, opens] using h

/-- A detector record changed in anything but its open episode. -/
theorem Tracker.Sound.setDetector {t : Tracker} {d : DetectorId} {r : DetectorRecord}
    (same : r.openEpisode = (t.detector d).openEpisode) (h : t.Sound) : (t.setDetector d r).Sound :=
  h.congr (by simp) fun d' => by
    rw [detector_setDetector]
    split <;> simp_all

/-! ### A changed record -/

/-- A change of the OPEN record finds one, which stands in the table, or leaves the table alone. -/
theorem updateRecord_cases (d : DetectorId) (change : Episode → Episode) (l : List Episode) :
    (updateRecord d change l = l ∧ l.filter (Episode.isOpenOf d) = [])
      ∨ ∃ pre e post, OpenRecordAt d pre e post l ∧ updateRecord d change l = pre ++ change e :: post := by
  induction l with
  | nil => exact .inl ⟨rfl, rfl⟩
  | cons x rest ih =>
    by_cases found : x.isOpenOf d = true
    · obtain ⟨source, opened⟩ := (isOpenOf_iff d x).mp found
      exact .inr ⟨[], x, rest, ⟨rfl, source, opened, by simp⟩, by simp [updateRecord, found]⟩
    · obtain ⟨same, none⟩ | ⟨pre, e, post, ⟨rfl, source, opened, closed⟩, changed⟩ := ih
      · exact .inl ⟨by simp [updateRecord, found, same], by simp [found, none]⟩
      · refine .inr ⟨x :: pre, e, post, ⟨rfl, source, opened, ?_⟩, by simp [updateRecord, found, changed]⟩
        intro p mem hp
        obtain rfl | mem := List.mem_cons.mp mem
        · exact Option.isSome_iff_ne_none.mpr fun hn => found ((isOpenOf_iff d p).mpr ⟨hp, hn⟩)
        · exact closed p mem hp

/-- Ahead of a detector's OPEN record no OPEN record of it stands. -/
theorem OpenRecordAt.filter_pre {d : DetectorId} {pre post l : List Episode} {e : Episode} (h : OpenRecordAt d pre e post l) :
    pre.filter (Episode.isOpenOf d) = [] := by
  obtain ⟨-, -, -, closed⟩ := h
  refine List.filter_eq_nil_iff.mpr fun p mem found => ?_
  obtain ⟨source, opened⟩ := (isOpenOf_iff d p).mp found
  simpa [opened] using closed p mem source

/-- In a sound tracker the OPEN record of a detector is the only one of its table. -/
theorem Tracker.Sound.filter_post {t : Tracker} (h : t.Sound) {d : DetectorId} {pre post : List Episode} {e : Episode}
    (found : OpenRecordAt d pre e post t.table) : post.filter (Episode.isOpenOf d) = [] := by
  obtain ⟨-, -, named⟩ := h
  have only := congrArg List.length (named d)
  obtain ⟨table, source, opened, closed⟩ := found
  have self : e.isOpenOf d = true := (isOpenOf_iff d e).mpr ⟨source, opened⟩
  rw [table, List.filter_append, List.filter_cons_of_pos self] at only
  have : (t.detector d).openEpisode.toList.length ≤ 1 := by cases (t.detector d).openEpisode <;> simp
  simp at only
  exact List.eq_nil_of_length_eq_zero (by omega)

/-- A change that keeps a record's source and opens none keeps the table's order sound. -/
theorem pairwise_changed {d : DetectorId} {pre post l : List Episode} {e e' : Episode} (found : OpenRecordAt d pre e post l)
    (source : e'.source = e.source)
    (h : l.Pairwise (fun e q => e.ending = none → q.source ≠ e.source)) :
    (pre ++ e' :: post).Pairwise (fun e q => e.ending = none → q.source ≠ e.source) := by
  obtain ⟨rfl, -, opened, -⟩ := found
  rw [List.pairwise_append, List.pairwise_cons] at h ⊢
  obtain ⟨first, ⟨behind, rest⟩, across⟩ := h
  refine ⟨first, ⟨fun q mem _ => source ▸ behind q mem opened, rest⟩, fun p hp q hq open_p => ?_⟩
  obtain rfl | hq := List.mem_cons.mp hq
  · exact source ▸ across p hp e (by simp) open_p
  · exact across p hp q (by simp [hq]) open_p

/-- A sample of an open episode keeps the tracker sound (R66). -/
theorem Tracker.Sound.sampled {t : Tracker} (h : t.Sound) (d : DetectorId) (change : Episode → Episode)
    (keeps : ∀ e, (change e).source = e.source ∧ (change e).ending = e.ending ∧ (change e).number = e.number) :
    ({ t with table := updateRecord d change t.table } : Tracker).Sound := by
  obtain ⟨same, -⟩ | ⟨pre, e, post, found, changed⟩ := updateRecord_cases d change t.table
  · rw [same]
    exact h
  · have ⟨table, source, opened, _⟩ := found
    obtain ⟨source', ending', number'⟩ := keeps e
    obtain ⟨short, order, named⟩ := h
    refine ⟨by rw [table] at short; simpa [changed] using short, by simpa [changed] using pairwise_changed found source' order, ?_⟩
    intro d'
    have isOpen : ∀ k, (change e).isOpenOf k = e.isOpenOf k := fun k => by simp [Episode.isOpenOf, source', ending']
    have := named d'
    rw [table, List.filter_append] at this
    change List.map _ (List.filter _ (updateRecord d change t.table)) = (t.detector d').openEpisode.toList
    rw [changed, List.filter_append, ← this, List.filter_cons, List.filter_cons, isOpen]
    split <;> simp [number']

/-- A closing of the open episode keeps the tracker sound (R67, R68). -/
theorem Tracker.Sound.closed {t : Tracker} (h : t.Sound) (d : DetectorId) (r : DetectorRecord) (uptime : Nat)
    (cause : EndCause) (quiet : r.openEpisode = none) :
    ({ t.setDetector d r with table := updateRecord d (Episode.closed uptime cause) t.table } : Tracker).Sound := by
  have ⟨short, order, named⟩ := h
  have others : ∀ d', (t.setDetector d r).detector d' = if d' = d then r else t.detector d' := fun d' => detector_setDetector t d d' r
  obtain ⟨same, none⟩ | ⟨pre, e, post, found, changed⟩ := updateRecord_cases d (Episode.closed uptime cause) t.table
  · rw [same]
    refine ⟨short, order, fun d' => ?_⟩
    change List.map _ (List.filter _ t.table) = ((t.setDetector d r).detector d').openEpisode.toList
    rw [others]
    split
    next eq => simp [eq, none, quiet]
    next => exact named d'
  · have ⟨table, source, opened, _⟩ := found
    have order' := pairwise_changed (e' := Episode.closed uptime cause e) found rfl order
    refine ⟨by rw [table] at short; simpa [changed] using short, by simpa [changed] using order', ?_⟩
    intro d'
    have gone : ∀ k, (Episode.closed uptime cause e).isOpenOf k = false := fun k => by simp [Episode.isOpenOf, Episode.closed]
    change List.map _ (List.filter _ (updateRecord d _ t.table)) = ((t.setDetector d r).detector d').openEpisode.toList
    rw [others, changed, List.filter_append, List.filter_cons_of_neg (by simp [gone])]
    split
    next eq =>
      subst eq
      simp [found.filter_pre, h.filter_post found, quiet]
    next ne =>
      have := named d'
      rwa [table, List.filter_append, List.filter_cons_of_neg (by simp [source]; exact fun eq => absurd eq.symm ne)] at this

/-! ### A new record -/

/-- The eviction takes no OPEN record (R62). -/
theorem evict_filter (d : DetectorId) (l : List Episode) :
    (evictOldestClosed l).filter (Episode.isOpenOf d) = l.filter (Episode.isOpenOf d) := by
  induction l with
  | nil => rfl
  | cons e rest ih =>
    cases he : e.ending with
    | some _ => simp [evictOldestClosed, he, Episode.isOpenOf]
    | none => simp only [evictOldestClosed, he, Option.isSome_none, Bool.false_eq_true, if_false, List.filter_cons, ih]

theorem evict_sublist (l : List Episode) : (evictOldestClosed l).Sublist l := by
  induction l with
  | nil => exact .refl _
  | cons e rest ih =>
    rw [evictOldestClosed]
    split
    · exact .cons _ (.refl _)
    · exact .cons_cons _ ih

/-- Each OPEN record of a sound table is one of the two the detectors name. -/
theorem Tracker.Sound.opens_le {t : Tracker} (h : t.Sound) : (t.table.filter fun e => e.ending.isNone).length ≤ 2 := by
  obtain ⟨-, -, named⟩ := h
  have one : ∀ d, (t.table.filter (Episode.isOpenOf d)).length ≤ 1 := fun d => by
    rw [← List.length_map (f := (·.number)), named d]
    cases (t.detector d).openEpisode <;> simp
  have split : ∀ l : List Episode, (l.filter fun e => e.ending.isNone).length
      = (l.filter (Episode.isOpenOf .pm)).length + (l.filter (Episode.isOpenOf .gas)).length := by
    intro l
    induction l with
    | nil => rfl
    | cons e rest ih =>
      cases he : e.ending <;> cases hs : e.source <;> simp [Episode.isOpenOf, he, hs] at ih ⊢ <;> omega
  rw [split]
  have := one .pm
  have := one .gas
  omega

/-- A sound full table holds a CLOSED record. -/
theorem Tracker.Sound.closed_of_full {t : Tracker} (h : t.Sound) (full : 16 ≤ t.table.length) :
    ∃ e ∈ t.table, e.ending.isSome = true := by
  by_contra none
  have all : t.table.filter (fun e => e.ending.isNone) = t.table := List.filter_eq_self.mpr fun e mem => by
    cases he : e.ending with
    | none => rfl
    | some _ => exact absurd ⟨e, mem, by simp [he]⟩ none
  have := h.opens_le
  rw [all] at this
  omega

/-- The table with room made for one more record (R62). -/
theorem joinTable_eq (e : Episode) (l : List Episode) : ∃ kept, joinTable e l = kept ++ [e] ∧ kept.Sublist l
    ∧ (∀ d, kept.filter (Episode.isOpenOf d) = l.filter (Episode.isOpenOf d))
    ∧ (l.length ≤ 16 → (16 ≤ l.length → ∃ x ∈ l, x.ending.isSome = true) → kept.length < 16) := by
  refine ⟨_, rfl, ?_⟩
  split
  next room => exact ⟨.refl _, fun _ => rfl, fun _ _ => room⟩
  next full =>
    refine ⟨evict_sublist l, fun d => evict_filter d l, fun short closed => ?_⟩
    have := evict_length (closed (by omega))
    omega

/-- An opening of a QUIET detector keeps the tracker sound (R65). -/
theorem Tracker.Sound.opened {t : Tracker} (h : t.Sound) {d : DetectorId} {r : DetectorRecord} {e : Episode} (next : Nat)
    (quiet : (t.detector d).openEpisode = none) (source : e.source = d) (opened : e.ending = none)
    (names : r.openEpisode = some e.number) :
    ({ t.setDetector d r with table := joinTable e t.table, nextNumber := next } : Tracker).Sound := by
  have ⟨short, order, named⟩ := h
  obtain ⟨kept, joined, sub, same, room⟩ := joinTable_eq e t.table
  have noneOpen : kept.filter (Episode.isOpenOf d) = [] := by simpa [quiet, ← same] using named d
  refine ⟨?_, ?_, fun d' => ?_⟩
  · have := room short h.closed_of_full
    simp [joined]
    omega
  · simp only [joined, List.pairwise_append, List.pairwise_singleton, true_and]
    refine ⟨order.sublist sub, fun p mem q hq open_p eq => ?_⟩
    obtain rfl := List.mem_singleton.mp hq
    have := List.filter_eq_nil_iff.mp noneOpen p mem
    exact this ((isOpenOf_iff d p).mpr ⟨eq.symm.trans source, open_p⟩)
  · rw [detector_withTable, detector_setDetector]
    change List.map _ (List.filter _ (joinTable e t.table)) = _
    rw [joined, List.filter_append, same]
    split
    next eq =>
      subst eq
      rw [← same, noneOpen]
      simp [source, opened, names, Episode.isOpenOf]
    next ne =>
      simp [named d', source, Episode.isOpenOf, Ne.symm ne]

end Sys2Proof.Machine
end

section
/-! The checkpoint journal (R153 to R168): each of its operations keeps the newest record readable and the write in flight away
from it. -/

namespace Sys2Proof.Machine

/-! ### What the journal and the flash keep, write in flight or not -/

/-- The flash in its form, its records' sequences and the next one in range, and the newest record VALID (R153 to R155). -/
def Journal.Settled (j : Journal) (flash : Flash) : Prop :=
  flash.wf = true ∧ SequencesInRange flash ∧ (∀ a, j.activeSector = some a → a < 8)
    ∧ (0 < j.nextSequence ∧ j.nextSequence ≤ 4294967295) ∧ NewestReadable j flash

/-- A write is in flight in READY alone, it spares what stands, and nothing waits without one (R155 to R158, R160, R167). -/
def Journal.WritesSound (j : Journal) (flash : Flash) : Prop :=
  (j.state ≠ .ready → j.write = none) ∧ (∀ w, j.write = some w → w.phase.Sound j flash) ∧ JournalQuiet j

theorem journalSound_iff (s : State) :
    JournalSound s ↔ s.journal.Settled s.flash ∧ s.journal.WritesSound s.flash := by
  unfold JournalSound Journal.Settled Journal.WritesSound
  tauto

theorem JournalSound.settled {s : State} (h : JournalSound s) : s.journal.Settled s.flash :=
  ((journalSound_iff s).mp h).1

theorem JournalSound.writes {s : State} (h : JournalSound s) : s.journal.WritesSound s.flash :=
  ((journalSound_iff s).mp h).2

/-- What is kept of a journal reads the active sector, the next sequence and the newest record alone. -/
theorem Journal.Settled.congr {j k : Journal} {flash : Flash} (active : k.activeSector = j.activeSector)
    (next : k.nextSequence = j.nextSequence) (newest : k.newest = j.newest) (h : j.Settled flash) : k.Settled flash := by
  simpa [Journal.Settled, NewestReadable, active, next, newest] using h

/-- A journal with no write in flight and nothing waiting. -/
theorem Journal.WritesSound.idle {j : Journal} (flash : Flash) (write : j.write = none) (pending : j.pendingWrite = none)
    (restart : j.restartWaiting = false) : j.WritesSound flash :=
  ⟨fun _ => write, fun w hw => by simp [write] at hw, fun _ => ⟨pending, restart⟩⟩

/-- A journal in READY with a sound write in flight. -/
theorem Journal.WritesSound.busy {j : Journal} {flash : Flash} {w : WriteInFlight} (ready : j.state = .ready)
    (write : j.write = some w) (phase : w.phase.Sound j flash) : j.WritesSound flash :=
  ⟨fun h => absurd ready h, fun w' hw => by rw [write] at hw; cases hw; exact phase,
    fun none => by simp [write] at none⟩

theorem JournalSound.of_parts {s : State} (settled : s.journal.Settled s.flash) (writes : s.journal.WritesSound s.flash) :
    JournalSound s := (journalSound_iff s).mpr ⟨settled, writes⟩

/-- The newest record lies outside a sector whose slots change, so it stays VALID. -/
theorem NewestReadable.spared {j : Journal} {f g : Flash} {c : Nat} (h : NewestReadable j f)
    (spared : ∀ n, j.newest = some n → n.sector ≠ c) (same : ∀ a, a / 16 ≠ c → g.read a = f.read a) :
    NewestReadable j g := by
  intro n hn
  obtain ⟨i, r, hi, valid, rest⟩ := h n hn
  refine ⟨i, r, hi, ?_, rest⟩
  rw [same _ (by have := spared n hn; omega)]
  exact valid

/-- The newest record does not stand in a slot that reads ERASED, so it stays VALID when that slot alone changes. -/
theorem NewestReadable.spared_slot {j : Journal} {f g : Flash} {a : Nat} (h : NewestReadable j f)
    (erased : f.read a = .erased) (same : ∀ b, b ≠ a → g.read b = f.read b) : NewestReadable j g := by
  intro n hn
  obtain ⟨i, r, hi, valid, rest⟩ := h n hn
  refine ⟨i, r, hi, ?_, rest⟩
  rw [same]
  · exact valid
  · rintro rfl
    simp [erased, Slot.valid?] at valid

/-! ### The target of a write (R157, R158) -/

@[simp] theorem releasePark_journal (s : State) : (releasePark s).journal = s.journal := by simp

/-- The entry to FAILED drops the writes and what waits for them (R163). -/
theorem enterFailed_journal (s : State) : (enterFailed s).journal
    = { s.journal with state := .failed, write := none, pendingWrite := none, restartWaiting := false } := by
  unfold enterFailed
  dsimp only
  split <;> split <;> simp

theorem enterFailed_sound {s : State} (h : s.journal.Settled s.flash) : JournalSound (enterFailed s) := by
  refine .of_parts ?_ ?_ <;> rw [enterFailed_journal]
  · rw [show (enterFailed s).flash = s.flash by simp]
    exact h.congr rfl rfl rfl
  · exact .idle _ rfl rfl rfl

theorem beginProgram_sound {s : State} {w : WriteInFlight} {sector slot : Nat} (h : s.journal.Settled s.flash)
    (ready : s.journal.state = .ready) (active : s.journal.activeSector = some sector) (hs : sector < 8) (hi : slot < 16)
    (erased : s.flash.read (16 * sector + slot) = .erased) : JournalSound (beginProgram w sector slot s) := by
  unfold beginProgram
  dsimp only
  split
  next => exact enterFailed_sound (h.congr rfl rfl rfl)
  next more =>
    obtain ⟨wf, seqs, act, ⟨pos, le⟩, newest⟩ := h
    have below : s.journal.nextSequence < 4294967295 := lt_of_le_of_ne le more
    refine .of_parts ⟨by simpa using wf, by simpa using seqs, by simpa using act, by simp; omega, newest⟩ ?_
    exact .busy (by simpa using ready) rfl ⟨hs, hi, by simpa using active, by simpa using erased, pos, below⟩

theorem chooseSector_sound {s : State} {w : WriteInFlight} {order : List Nat} (h : s.journal.Settled s.flash)
    (ready : s.journal.state = .ready) (ring : ∀ c ∈ order, c < 8) : JournalSound (chooseSector w order s) := by
  unfold chooseSector
  split
  next c found =>
    have allowed : s.journal.mayErase c = true := List.find?_some found
    have inRing := ring c (List.mem_of_find?_eq_some found)
    simp only [Journal.mayErase, Bool.and_eq_true, Bool.not_eq_true', decide_eq_false_iff_not] at allowed
    obtain ⟨⟨notRetired, notActive⟩, notNewest⟩ := allowed
    refine .of_parts (h.congr rfl rfl rfl) (.busy (by simpa using ready) rfl ⟨inRing, ?_⟩)
    refine ⟨by simpa using notRetired, by simpa using notActive, fun n hn eq => notNewest ?_⟩
    simp at hn
    simp [hn, eq]
  next => exact enterFailed_sound (h.congr rfl rfl rfl)

/-- A retirement changes the retired list alone (R155). -/
theorem retire_eq (j : Journal) (sector : Nat) : ∃ r, j.retire sector = { j with retired := r } := by
  unfold Journal.retire
  split
  · exact ⟨_, rfl⟩
  · exact ⟨_, rfl⟩

theorem retireActive_eq (j : Journal) : ∃ r, j.retireActive = { j with retired := r } := by
  unfold Journal.retireActive
  split
  next a _ =>
    split
    · exact retire_eq j a
    · exact ⟨_, rfl⟩
  next => exact ⟨_, rfl⟩

theorem ringAfter_lt {a c : Nat} (h : c ∈ ringAfter a) : c < 8 := by
  obtain ⟨i, -, rfl⟩ := List.mem_map.mp h
  exact Nat.mod_lt _ (by decide)

theorem searchOrder_lt {j : Journal} {c : Nat} (h : c ∈ j.searchOrder) : c < 8 := by
  unfold Journal.searchOrder at h
  split at h
  · exact ringAfter_lt h
  · simp only [allSectors, List.mem_cons, List.not_mem_nil, or_false] at h
    omega

theorem switchSector_sound {s : State} {w : WriteInFlight} (h : s.journal.Settled s.flash)
    (ready : s.journal.state = .ready) : JournalSound (switchSector w s) := by
  obtain ⟨r, retired⟩ := retireActive_eq s.journal
  unfold switchSector
  dsimp only
  split
  next => exact enterFailed_sound (h.congr (by simp [retired]) (by simp [retired]) (by simp [retired]))
  next =>
    exact chooseSector_sound (h.congr (by simp [retired]) (by simp [retired]) (by simp [retired])) (by simpa [retired] using ready)
      fun c hc => searchOrder_lt hc

theorem erasedSlot_some {s : State} {a i : Nat} (h : s.erasedSlot a = some i) :
    i < 16 ∧ s.flash.read (16 * a + i) = .erased := by
  have found := List.find?_some h
  simp only [Bool.and_eq_true, decide_eq_true_eq, slotNumber] at found
  exact ⟨mem_sectorSlots.mp (List.mem_of_find?_eq_some h), of_decide_eq_true found.2⟩

theorem seekTarget_sound {s : State} {w : WriteInFlight} (h : s.journal.Settled s.flash)
    (ready : s.journal.state = .ready) : JournalSound (seekTarget w s) := by
  unfold seekTarget
  split
  next => exact switchSector_sound h ready
  next a active =>
    split
    next i found =>
      obtain ⟨hi, erased⟩ := erasedSlot_some found
      have ⟨_, _, act, _⟩ := h
      exact beginProgram_sound h ready active (act a active) hi erased
    next => exact switchSector_sound h ready

theorem startWrite_sound {s : State} (kind : RecordKind) (parkOwed : Bool) (h : s.journal.Settled s.flash)
    (ready : s.journal.state = .ready) : JournalSound (startWrite kind parkOwed s) := seekTarget_sound h ready

/-! ### Triggers and completions -/

/-- A state with the journal and the flash of a sound one is sound. -/
theorem JournalSound.congr {s t : State} (journal : t.journal = s.journal) (flash : t.flash = s.flash) (h : JournalSound s) :
    JournalSound t := by
  simpa [JournalSound, journal, flash] using h

theorem trigger_sound {s : State} (kind : RecordKind) (parkOwed : Bool) (h : JournalSound s) :
    JournalSound (trigger kind parkOwed s) := by
  unfold trigger
  split
  next => exact h
  next =>
    split
    next => exact h
    next =>
      split
      next => exact JournalSound.congr (s := s) (by simp) (by simp) h
      next => exact h
    next ready =>
      split
      next => exact startWrite_sound kind parkOwed h.settled ready
      next w writing =>
        obtain ⟨-, phase, -⟩ := h.writes
        refine .of_parts (h.settled.congr rfl rfl rfl) (.busy (by simpa using ready) (by simpa using writing) ?_)
        cases hp : w.phase <;> simpa [hp, WritePhase.Sound] using phase w writing

theorem SequencesInRange.eraseSector {f : Flash} {c : Nat} (hc : c < 8) (wf : f.wf = true) (h : SequencesInRange f) :
    SequencesInRange (f.eraseSector c) := by
  intro a r hr
  by_cases inside : a / 16 = c
  · have erased := Flash.eraseSector_inside (i := a % 16) hc (Nat.mod_lt _ (by decide)) wf
    rw [show 16 * c + a % 16 = a by omega, hr] at erased
    cases erased
  · rw [(Flash.eraseSector_outside hc wf).2 a inside] at hr
    exact h a r hr

theorem SequencesInRange.spoilSector {f : Flash} {c : Nat} (left : List SlotOutcome) (hc : c < 8) (wf : f.wf = true)
    (h : SequencesInRange f) : SequencesInRange (f.spoilSector c left) := by
  intro a r hr
  obtain ⟨outside, inside⟩ := Flash.spoilSector_left left hc wf
  by_cases same : a / 16 = c
  · obtain ⟨damaged, erased, stands⟩ := inside (a % 16) (Nat.mod_lt _ (by decide))
    rw [show 16 * c + a % 16 = a by omega] at damaged erased stands
    rcases hl : left[a % 16]? with _ | x
    · exact h a r (stands (.inr hl) ▸ hr)
    · cases x with
      | untouched => exact h a r (stands (.inl hl) ▸ hr)
      | damaged => simp [damaged hl] at hr
      | complete => simp [erased hl] at hr
  · rw [outside a same] at hr
    exact h a r hr

theorem SequencesInRange.spoilSlot {f : Flash} {w : WriteInFlight} {k i n : Nat} (left : SlotOutcome)
    (wf : f.wf = true) (pos : 0 < n) (below : n < 4294967295) (h : SequencesInRange f) :
    SequencesInRange (f.spoilSlot k i (w.record n) left) := by
  cases left with
  | untouched => exact h
  | damaged => exact h.write wf (by simp)
  | complete => exact h.write wf (by rintro r hr; cases hr; exact ⟨pos, below⟩)

theorem erasePassed_sound {s : State} (h : JournalSound s) : JournalSound (erasePassed s) := by
  unfold erasePassed
  split
  next w writing =>
    split
    next c erasing =>
      obtain ⟨onlyReady, phase, -⟩ := h.writes
      have ready : s.journal.state = .ready := by_contra fun n => by simp [onlyReady n] at writing
      have sound := phase w writing
      rw [erasing] at sound
      obtain ⟨hc, -, -, notNewest⟩ := sound
      obtain ⟨wf, seqs, -, next, newest⟩ := h.settled
      obtain ⟨wf', outside⟩ := Flash.eraseSector_outside hc wf
      refine beginProgram_sound ⟨by simpa using wf', by simpa using seqs.eraseSector hc wf, ?_, by simpa using next, ?_⟩
        (by simpa using ready) (by simp) hc (by decide) (by simpa using Flash.eraseSector_inside (i := 0) hc (by decide) wf)
      · simpa using hc
      · simpa [NewestReadable] using newest.spared notNewest outside
    next => exact h
  next => exact h

theorem eraseFailed_sound {s : State} (left : List SlotOutcome) (h : JournalSound s) : JournalSound (eraseFailed left s) := by
  unfold eraseFailed
  split
  next w writing =>
    split
    next c erasing =>
      obtain ⟨onlyReady, phase, -⟩ := h.writes
      have ready : s.journal.state = .ready := by_contra fun n => by simp [onlyReady n] at writing
      have sound := phase w writing
      rw [erasing] at sound
      obtain ⟨hc, -, -, notNewest⟩ := sound
      obtain ⟨wf, seqs, act, next, newest⟩ := h.settled
      obtain ⟨wf', outside⟩ := Flash.spoilSector_outside left hc wf
      obtain ⟨r, retired⟩ := retire_eq s.journal c
      have settled : (s.journal.retire c).Settled (s.flash.spoilSector c left) := by
        rw [retired]
        exact ⟨wf', seqs.spoilSector left hc wf, act, next, newest.spared notNewest outside⟩
      dsimp only
      split
      · exact enterFailed_sound (by simpa using settled)
      · exact chooseSector_sound (by simpa using settled) (by simpa [retired] using ready) fun _ => ringAfter_lt
    next => exact h
  next => exact h

/-- A pending write that starts leaves nothing waiting but a RESTART, and a released RESTART nothing at all (R160). -/
theorem releaseWaiting_startPending_sound {s : State} (h : s.journal.Settled s.flash) (ready : s.journal.state = .ready)
    (ended : s.journal.write = none) : JournalSound (releaseWaiting (startPending s)) := by
  have released : ∀ u : State, u.journal.Settled u.flash → (u.journal.restartWaiting = false → u.journal.WritesSound u.flash) →
      (u.journal.write.isSome = true → u.journal.WritesSound u.flash) →
      (u.journal.write = none → u.journal.pendingWrite = none) → JournalSound (releaseWaiting u) := by
    intro u settled calm writing pending
    unfold releaseWaiting
    split
    next waits =>
      have none : u.journal.write = none := by simpa using waits.2
      exact .of_parts (settled.congr rfl rfl rfl)
        (by simpa [releaseRestart] using Journal.WritesSound.idle _ (by simpa using none) (by simpa using pending none) rfl)
    next stays =>
      refine .of_parts settled ?_
      cases restart : u.journal.restartWaiting with
      | false => exact calm restart
      | true => exact writing (by simpa [restart, Option.isSome_iff_ne_none] using stays)
  unfold startPending
  split
  next p _ =>
    have sound : JournalSound (startWrite p.kind p.parkOwed (s.withJournal { s.journal with pendingWrite := none })) :=
      startWrite_sound p.kind p.parkOwed (h.congr rfl rfl rfl) (by simpa using ready)
    have writes := sound.writes
    exact released _ sound.settled (fun _ => writes) (fun _ => writes) fun none => (writes.2.2 none).1
  next nothing =>
    exact released s h (fun calm => .idle _ ended nothing calm) (fun busy => by simp [ended] at busy) fun _ => nothing

theorem programPassed_sound {s : State} (h : JournalSound s) : JournalSound (programPassed s) := by
  unfold programPassed
  split
  next w writing =>
    split
    next k i n programming =>
      obtain ⟨onlyReady, phase, -⟩ := h.writes
      have ready : s.journal.state = .ready := by_contra fun n => by simp [onlyReady n] at writing
      have sound := phase w writing
      rw [programming] at sound
      obtain ⟨hk, hi, -, erased, pos, below⟩ := sound
      obtain ⟨wf, seqs, act, next, -⟩ := h.settled
      have slot : slotNumber k i < 128 := by unfold slotNumber; omega
      have settled : ({ s.journal with
          newest := some { sector := k, sequence := n, kind := w.kind }, writePosition := i + 1, write := none } : Journal).Settled (s.flash.write (slotNumber k i) (.record (w.record n))) := by
        refine ⟨Flash.wf_write _ slot wf, seqs.write wf (by rintro r hr; cases hr; exact ⟨pos, below⟩), act, next, ?_⟩
        rintro m hm
        cases hm
        refine ⟨i, w.record n, hi, ?_, rfl, rfl⟩
        have reads := Flash.read_write_same (slotNumber k i) (.record (w.record n)) wf
        simp only [slotNumber] at reads
        simp only [slotNumber, reads]
        exact Slot.valid?_of_programmed w (by omega) (by simp only [max32]; omega)
      dsimp only
      refine releaseWaiting_startPending_sound ?_ ?_ ?_
      · split <;> simpa using settled
      · split <;> simpa using ready
      · split <;> simp
    next => exact h
  next => exact h

theorem programFailed_sound {s : State} (left : SlotOutcome) (h : JournalSound s) : JournalSound (programFailed left s) := by
  unfold programFailed
  split
  next w writing =>
    split
    next k i n programming =>
      obtain ⟨onlyReady, phase, -⟩ := h.writes
      have ready : s.journal.state = .ready := by_contra fun n => by simp [onlyReady n] at writing
      have sound := phase w writing
      rw [programming] at sound
      obtain ⟨hk, hi, -, erased, pos, below⟩ := sound
      obtain ⟨wf, seqs, act, next, newest⟩ := h.settled
      obtain ⟨wf', outside⟩ := Flash.spoilSlot_outside (w.record n) left hk hi wf
      refine seekTarget_sound ⟨by simpa using wf', by simpa using seqs.spoilSlot left wf pos below, by simpa using act,
        by simpa using next, ?_⟩ (by simpa using ready)
      simpa [NewestReadable] using newest.spared_slot erased outside
    next => exact h
  next => exact h

/-! ### The scan and the reset -/

/-- What the scan finds is a VALID record of a slot of the flash (R165). -/
theorem newestValid_valid {f : Flash} {x : Found} (h : f.newestValid = some x) :
    ∃ slot, (x.number, slot) ∈ f ∧ slot.valid? = some x.stored := by
  have key : ∀ (l : Flash) (best : Option Found),
      (∀ b, best = some b → ∃ slot, (b.number, slot) ∈ f ∧ slot.valid? = some b.stored) → (∀ e ∈ l, e ∈ f) →
      ∀ b, l.foldl (fun b kx => newer b kx.1 kx.2) best = some b → ∃ slot, (b.number, slot) ∈ f ∧ slot.valid? = some b.stored := by
    intro l
    induction l with
    | nil => exact fun best hb _ b h => hb b h
    | cons e rest ih =>
      intro best hb hl
      refine ih _ (fun b hn => ?_) (fun e' he => hl e' (by simp [he]))
      simp only [newer] at hn
      split at hn
      · exact hb b hn
      · next r valid =>
        have here : ∃ slot, (e.1, slot) ∈ f ∧ slot.valid? = some r := ⟨e.2, hl e (by simp), valid⟩
        split at hn
        · cases hn
          exact here
        · split at hn
          · cases hn
            exact here
          · exact hb b hn
  exact key f none (by simp) (fun _ he => he) x h

/-- A listed slot of a flash in its form reads what is listed, and its number is below 128 (R153). -/
theorem read_of_mem {f : Flash} {low : Option Nat} (wf : Flash.wfAbove low f = true) {a : Nat} {x : Slot} (h : (a, x) ∈ f) :
    f.read a = x ∧ a < 128 ∧ ∀ b, low = some b → b < a := by
  induction f generalizing low with
  | nil => cases h
  | cons e rest ih =>
    obtain ⟨k, y⟩ := e
    simp only [Flash.wfAbove, Bool.and_eq_true, decide_eq_true_eq] at wf
    obtain ⟨⟨⟨above, short⟩, -⟩, rising⟩ := wf
    have low_lt : ∀ b, low = some b → b < k := fun b hb => by simpa [hb] using above
    obtain eq | mem := List.mem_cons.mp h
    · cases eq
      exact ⟨by simp [Flash.read], short, low_lt⟩
    · obtain ⟨reads, lt, behind⟩ := ih rising mem
      have later := behind k rfl
      exact ⟨by rw [Flash.read, if_neg (by omega), reads], lt, fun b hb => (low_lt b hb).trans later⟩

/-- The end of the scan keeps the journal sound: what it adopts is a VALID record of the flash (R165). -/
theorem endScan_sound {s : State} (h : JournalSound s) (scanning : s.journal.state = .scanning) :
    JournalSound (endScan s) := by
  obtain ⟨onlyReady, -, quiet⟩ := h.writes
  have ended : s.journal.write = none := onlyReady (by simp [scanning])
  obtain ⟨nothing, calm⟩ := quiet ended
  unfold endScan
  split
  next x found =>
    obtain ⟨slot, mem, valid⟩ := newestValid_valid found
    obtain ⟨wf, seqs, -, -, -⟩ := h.settled
    obtain ⟨reads, short, -⟩ := read_of_mem wf mem
    have validHere : (s.flash.read x.number).valid? = some x.stored := by rw [reads, valid]
    obtain ⟨pos, below⟩ := seqs.valid validHere
    refine .of_parts ⟨by simpa using wf, by simpa using seqs, ?_, ?_, ?_⟩ ?_
    · simp [adoptFound]
      omega
    · simp [adoptFound]
      omega
    · intro n hn
      simp [adoptFound] at hn
      subst hn
      refine ⟨x.number % 16, x.stored, Nat.mod_lt _ (by decide), ?_, rfl, rfl⟩
      simpa [show 16 * (x.number / 16) + x.number % 16 = x.number by omega] using validHere
    · exact .idle _ (by simpa [adoptFound] using ended) (by simpa [adoptFound] using nothing) (by simpa [adoptFound] using calm)
  next => exact .of_parts (h.settled.congr rfl rfl rfl) (.idle _ ended nothing calm)

/-- What a power-on reset leaves of the flash keeps its form and its records' sequences (R168). -/
theorem flashAfterCut_sound {s : State} (cut : List SlotOutcome) (h : JournalSound s) :
    (s.flashAfterCut cut).wf = true ∧ SequencesInRange (s.flashAfterCut cut) := by
  obtain ⟨wf, seqs, -⟩ := h.settled
  obtain ⟨-, phase, -⟩ := h.writes
  unfold State.flashAfterCut
  split
  next => exact ⟨wf, seqs⟩
  next w writing =>
    have sound := phase w writing
    split
    next c erasing =>
      rw [erasing] at sound
      exact ⟨(Flash.spoilSector_outside cut sound.1 wf).1, seqs.spoilSector cut sound.1 wf⟩
    next k i n programming =>
      rw [programming] at sound
      obtain ⟨hk, hi, -, -, pos, below⟩ := sound
      exact ⟨(Flash.spoilSlot_outside _ _ hk hi wf).1, seqs.spoilSlot _ wf pos below⟩

end Sys2Proof.Machine
end

section
/-! The flap channel (R112 to R131): each of its operations keeps its lines and counts sound, its positions in 0..1000, and a
flap that rests under INHIBIT resting. -/

namespace Sys2Proof.Machine

/-! ### What the operations keep -/

/-- FlapSound, of the flap channel itself (R112, R117, R123, R128). -/
def Flap.Sound (f : Flap) : Prop :=
  ¬(f.towardFresh = true ∧ f.towardRecirc = true)
    ∧ (f.towardFresh = true ∨ f.towardRecirc = true →
        f.mode = .timed ∧ (f.state = .moving ∨ f.state = .homing) ∧ f.driveInFlight.isSome = true)
    ∧ (f.state = .idle ∨ f.state = .fault ∨ f.state = .disabled → f.moveTimer = none)
    ∧ (f.state = .disabled → f.failCount = 3) ∧ (f.state ≠ .disabled → f.failCount < 3)

theorem flapSound_iff (s : State) : FlapSound s ↔ s.flap.Sound := Iff.rfl

/-- Every position the actual one is worked out from lies in 0..1000 (R113). -/
def Flap.InRange (f : Flap) : Prop :=
  IsPosition f.target ∧ IsPosition f.setPoint ∧ IsPosition f.demand ∧ IsPosition f.heldPosition
    ∧ ∀ d, f.driveInFlight = some d → d.Sound

/-- The flap is in none of the states in which it is under way: IDLE, FAULT and DISABLED. -/
def Flap.Rests (f : Flap) : Prop := f.state = .idle ∨ f.state = .fault ∨ f.state = .disabled

/-- From f to g INHIBIT stands, a flap that rests under it goes on resting, and DISABLED is not left (R115, R126, R128). -/
def Flap.Stands (f g : Flap) : Prop :=
  g.inhibit = f.inhibit ∧ (f.inhibit = true → f.Rests → g.Rests) ∧ (f.state = .disabled → g.state = .disabled)

theorem Flap.Stands.refl (f : Flap) : f.Stands f := ⟨rfl, fun _ h => h, fun h => h⟩

theorem Flap.Stands.trans {f g h : Flap} (first : f.Stands g) (second : g.Stands h) : f.Stands h := by
  obtain ⟨inhibit, rests, disabled⟩ := first
  obtain ⟨inhibit', rests', disabled'⟩ := second
  exact ⟨inhibit'.trans inhibit, fun on resting => rests' (inhibit.trans on) (rests on resting),
    fun h => disabled' (disabled h)⟩

/-- A flap that is not DISABLED and does not rest stands whatever it goes on to. -/
theorem Flap.Stands.of_moving {f g : Flap} (inhibit : g.inhibit = f.inhibit)
    (state : f.state = .waitReady ∨ f.state = .moving ∨ f.state = .homing) : f.Stands g := by
  refine ⟨inhibit, fun _ rests => ?_, fun disabled => ?_⟩
  · unfold Flap.Rests at rests
    rcases state with h | h | h <;> simp [h] at rests
  · rcases state with h | h | h <;> simp [h] at disabled

/-- A flap whose state and INHIBIT stand. -/
theorem Flap.Stands.of_state {f g : Flap} (inhibit : g.inhibit = f.inhibit) (state : g.state = f.state) : f.Stands g :=
  ⟨inhibit, fun _ rests => by simpa [Flap.Rests, state] using rests, fun h => state.trans h⟩

/-! ### The start and the end of a move -/

theorem isPosition_thousand : IsPosition 1000 := by unfold IsPosition; omega

/-- A position moved toward another by at most the whole distance lies between the two (R113). -/
theorem movedToward_position {p t : Int} {e d : Nat} (hp : IsPosition p) (ht : IsPosition t) (le : e ≤ d) :
    IsPosition (movedToward p t e d) := by
  have share : ∀ x : Int, 0 ≤ x → 0 ≤ x * e / d ∧ x * e / d ≤ x := by
    intro x hx
    rcases Nat.eq_zero_or_pos d with rfl | pos
    · simp [hx]
    · have hd : (0 : Int) < d := by exact_mod_cast pos
      refine ⟨Int.ediv_nonneg (by positivity) hd.le, ?_⟩
      exact Int.ediv_le_of_le_mul hd (mul_le_mul_of_nonneg_left (by exact_mod_cast le) hx)
  unfold IsPosition at *
  unfold movedToward
  split
  · have := share (t - p) (by omega)
    omega
  · have := share (p - t) (by omega)
    omega

/-- The position of a TIMED flap lies in range (R113). -/
theorem timedPosition_inRange {f : Flap} (h : f.InRange) : IsPosition f.timedPosition := by
  obtain ⟨-, setPoint, -, -, drive⟩ := h
  unfold Flap.timedPosition
  split
  next => exact setPoint
  next d flying =>
    obtain ⟨start, destination, within⟩ := drive d flying
    split
    next =>
      have share : (0 : Int) ≤ 1000 * d.elapsed / f.travelTime := by positivity
      unfold IsPosition at *
      omega
    next => exact movedToward_position start destination within

/-- The actual position lies in range (R113). -/
theorem position_inRange {f : Flap} {fpos : Int} (h : f.InRange) (feedback : IsPosition fpos) : IsPosition (f.position fpos) := by
  have timed := timedPosition_inRange h
  obtain ⟨-, -, demand, held, -⟩ := h
  unfold Flap.position
  split
  · exact held
  · exact held
  · split <;> assumption

theorem startMove_sound {f : Flap} (h : f.Sound) (idle : f.state = .idle) : f.startMove.Sound := by
  obtain ⟨-, line, timer, -, failures⟩ := h
  have fresh : f.towardFresh = false := by simpa [idle] using fun on => line (.inl on)
  have recirc : f.towardRecirc = false := by simpa [idle] using fun on => line (.inr on)
  have below := failures (by simp [idle])
  have stopped := timer (.inl idle)
  unfold Flap.startMove
  split
  next => split <;> simp [Flap.Sound, Flap.issue, fresh, recirc, below]
  next => simp [Flap.Sound, Flap.issue, fresh, recirc, below]
  next timed =>
    refine ⟨?_, ?_, ?_⟩ <;> simp [Flap.startDrive, timed, below]
    omega
  next => simp [Flap.Sound, idle, fresh, recirc, below, stopped]

theorem testDue_sound {f : Flap} (h : f.Sound) : f.testDue.Sound := by
  unfold Flap.testDue
  split
  next due =>
    simp only [Flap.moveDue, Bool.and_eq_true, decide_eq_true_eq] at due
    exact startMove_sound h due.1.1
  next => exact h

theorem startDrive_inRange {f : Flap} {p t : Int} (h : f.InRange) (hp : IsPosition p) (ht : IsPosition t) :
    (f.startDrive p t).InRange := by
  obtain ⟨target, setPoint, demand, held, -⟩ := h
  refine ⟨target, setPoint, demand, held, ?_⟩
  rintro d hd
  cases hd
  exact ⟨hp, ht, Nat.zero_le _⟩

theorem startMove_inRange {f : Flap} (h : f.InRange) : f.startMove.InRange := by
  have ⟨target, setPoint, demand, held, drive⟩ := h
  unfold Flap.startMove
  split
  next => split
          · exact ⟨target, target, target, held, drive⟩
          · exact ⟨target, setPoint, demand, held, drive⟩
  next => exact ⟨target, target, target, held, drive⟩
  next => exact startDrive_inRange h setPoint target
  next => exact ⟨target, target, target, held, drive⟩

theorem testDue_inRange {f : Flap} (h : f.InRange) : f.testDue.InRange := by
  unfold Flap.testDue
  split
  · exact startMove_inRange h
  · exact h

/-- A due move starts from IDLE alone and leaves INHIBIT as it was (R115). -/
theorem testDue_inhibit (f : Flap) : f.testDue.inhibit = f.inhibit := by
  unfold Flap.testDue Flap.startMove
  split
  · split
    · split <;> rfl
    · rfl
    · rfl
    · rfl
  · rfl

theorem testDue_stands (f : Flap) : f.Stands f.testDue := by
  refine ⟨testDue_inhibit f, fun on rests => ?_, fun disabled => ?_⟩
  · simpa [Flap.testDue, Flap.moveDue, on] using rests
  · simp [Flap.testDue, Flap.moveDue, disabled]

/-- A completion leaves the flap as the test for a due move does (R117). -/
theorem completeMove_flap (f : Flap) (s : State) : (completeMove f s).flap = f.toIdle.testDue := by
  simp [completeMove]

theorem toIdle_sound {f : Flap} (fresh : f.towardFresh = false) (recirc : f.towardRecirc = false) (below : f.failCount < 3) :
    f.toIdle.Sound := by
  simp [Flap.Sound, Flap.toIdle, fresh, recirc, below]

theorem toIdle_inRange {f : Flap} (h : f.InRange) : f.toIdle.InRange := h

theorem completeMove_sound {f : Flap} (s : State) (fresh : f.towardFresh = false) (recirc : f.towardRecirc = false)
    (below : f.failCount < 3) : (completeMove f s).flap.Sound := by
  rw [completeMove_flap]
  exact testDue_sound (toIdle_sound fresh recirc below)

theorem completeMove_inRange {f : Flap} (s : State) (h : f.InRange) : (completeMove f s).flap.InRange := by
  rw [completeMove_flap]
  exact testDue_inRange (toIdle_inRange h)

theorem completeMove_inhibit (f : Flap) (s : State) : (completeMove f s).flap.inhibit = f.inhibit := by
  rw [completeMove_flap, testDue_inhibit]
  rfl

/-- A position reached ends the drive there, its lines off (R120). -/
theorem driveEnded_inRange {f : Flap} {p : Int} (h : f.InRange) (hp : IsPosition p) : (f.driveEnded p).InRange := by
  obtain ⟨target, -, demand, held, -⟩ := h
  exact ⟨target, hp, demand, held, fun d hd => by simp [Flap.driveEnded, Flap.linesOff] at hd⟩

theorem Flap.Sound.below {f : Flap} (h : f.Sound) (state : f.state ≠ .disabled) : f.failCount < 3 := by
  obtain ⟨-, -, -, -, failures⟩ := h
  exact failures state

/-- A line is on in TIMED alone (R112). -/
theorem Flap.Sound.lines {f : Flap} (h : f.Sound) (mode : f.mode ≠ .timed) :
    f.towardFresh = false ∧ f.towardRecirc = false := by
  obtain ⟨-, line, -⟩ := h
  exact ⟨by simpa [mode] using fun on => line (.inl on), by simpa [mode] using fun on => line (.inr on)⟩

/-- A line is on in MOVING and HOMING alone (R112). -/
theorem Flap.Sound.lines_of_state {f : Flap} (h : f.Sound) (still : f.state ≠ .moving) (still' : f.state ≠ .homing) :
    f.towardFresh = false ∧ f.towardRecirc = false := by
  obtain ⟨-, line, -⟩ := h
  exact ⟨by simpa [still, still'] using fun on => line (.inl on), by simpa [still, still'] using fun on => line (.inr on)⟩

/-! ### A new target -/

section
variable {s : State} {t : Int}

/-- A new target alone (R115, R118). -/
theorem Flap.Sound.withTarget {f : Flap} (h : f.Sound) (t : Int) : ({ f with target := t } : Flap).Sound := h

theorem Flap.InRange.withTarget {f : Flap} (h : f.InRange) (ht : IsPosition t) : ({ f with target := t } : Flap).InRange := by
  obtain ⟨-, rest⟩ := h
  exact ⟨ht, rest⟩

theorem retargetTimed_sound {f : Flap} (t : Int) (s : State) (h : f.Sound) (moving : f.state = .moving)
    (timed : f.mode = .timed) : (retargetTimed f t s).flap.Sound := by
  have below := h.below (by simp [moving])
  unfold retargetTimed
  dsimp only
  split
  · exact completeMove_sound s rfl rfl below
  · refine ⟨?_, ?_, ?_⟩ <;> simp [Flap.startDrive, Flap.driveEnded, Flap.linesOff, timed, below]
    omega

theorem retargetTimed_inRange {f : Flap} (s : State) (h : f.InRange) (ht : IsPosition t) :
    (retargetTimed f t s).flap.InRange := by
  have reached := timedPosition_inRange h
  have ended := driveEnded_inRange h reached
  unfold retargetTimed
  dsimp only
  split
  · exact completeMove_inRange s ended
  · exact startDrive_inRange ended reached ht

theorem retargetTimed_inhibit (f : Flap) (t : Int) (s : State) : (retargetTimed f t s).flap.inhibit = f.inhibit := by
  unfold retargetTimed
  dsimp only
  split
  · rw [completeMove_inhibit]
    rfl
  · rfl

theorem flapTarget_sound (t : Int) (h : s.flap.Sound) : (flapTarget t s).flap.Sound := by
  have stored := h.withTarget t
  unfold flapTarget
  dsimp only
  split
  next => exact testDue_sound stored
  next waiting =>
    obtain ⟨fresh, recirc⟩ := h.lines_of_state (by simp [waiting]) (by simp [waiting])
    simp only [State.withFlap_flap]
    split
    · exact toIdle_sound fresh recirc (h.below (by simp [waiting]))
    · exact stored
  next moving =>
    split
    next => exact stored
    next =>
      split
      next edge =>
        obtain ⟨fresh, recirc⟩ := h.lines (by simp [edge])
        simp [Flap.Sound, Flap.issue, fresh, recirc, moving, h.below (by simp [moving])]
      next timed => exact retargetTimed_sound t s stored moving timed
      next => exact stored
      next => exact stored
  next => exact stored
  next => exact stored
  next => exact stored

theorem flapTarget_inRange (h : s.flap.InRange) (ht : IsPosition t) : (flapTarget t s).flap.InRange := by
  have stored := h.withTarget ht
  have ⟨target, setPoint, demand, held, drive⟩ := stored
  unfold flapTarget
  dsimp only
  split
  next => exact testDue_inRange stored
  next =>
    simp only [State.withFlap_flap]
    split
    · exact toIdle_inRange stored
    · exact stored
  next =>
    split
    next => exact stored
    next =>
      split
      next => exact ⟨target, target, target, held, drive⟩
      next => exact retargetTimed_inRange s stored ht
      next => exact stored
      next => exact stored
  next => exact stored
  next => exact stored
  next => exact stored

theorem flapTarget_stands (t : Int) (s : State) : s.flap.Stands (flapTarget t s).flap := by
  unfold flapTarget
  dsimp only
  split
  next => exact Flap.Stands.trans (.of_state rfl rfl) (testDue_stands _)
  next waiting =>
    refine .of_moving ?_ (.inl waiting)
    simp only [State.withFlap_flap]
    split <;> rfl
  next moving =>
    refine .of_moving ?_ (.inr (.inl moving))
    split
    next => rfl
    next => split <;> first | rfl | exact retargetTimed_inhibit _ t s
  next => exact .of_state rfl rfl
  next => exact .of_state rfl rfl
  next => exact .of_state rfl rfl

end

/-! ### Faults and homings -/

section
variable {s : State}

/-- A flap stopped at a position in range (R123, R128). -/
theorem stopAt_inRange {f : Flap} {p : Int} (h : f.InRange) (hp : IsPosition p) : (f.stopAt p).InRange := by
  obtain ⟨target, setPoint, demand, -, -⟩ := h
  refine ⟨target, ?_, demand, hp, fun d hd => by simp [Flap.stopAt, Flap.linesOff] at hd⟩
  simp only [Flap.stopAt]
  split <;> assumption

theorem enterFlapFault_sound (cause : FlapCause) (h : s.flap.Sound) (state : s.flap.state ≠ .disabled) :
    (enterFlapFault cause s).flap.Sound := by
  simp [enterFlapFault, Flap.Sound, Flap.stopAt, Flap.linesOff, h.below state]

theorem enterFlapFault_inRange (cause : FlapCause) (h : s.flap.InRange) (here : IsPosition s.flapPosition) :
    (enterFlapFault cause s).flap.InRange := by
  simp only [enterFlapFault, raise_keeps, State.withFlap_flap]
  exact stopAt_inRange h here

theorem enterFlapFault_inhibit (cause : FlapCause) (s : State) : (enterFlapFault cause s).flap.inhibit = s.flap.inhibit := by
  simp [enterFlapFault, Flap.stopAt, Flap.linesOff]

/-- A failed homing leaves FAULT, at the third failure DISABLED (R128). -/
theorem homingFail_flap (cause : FlapCause) (s : State) : (homingFail cause s).flap =
    { s.flap.stopAt s.flapPosition with
      failCount := s.flap.failCount + 1, state := if s.flap.failCount + 1 < 3 then .fault else .disabled } := by
  unfold homingFail
  dsimp only
  split <;> simp

theorem homingFail_sound (cause : FlapCause) (h : s.flap.failCount < 3) : (homingFail cause s).flap.Sound := by
  rw [homingFail_flap]
  by_cases again : s.flap.failCount + 1 < 3
  · simp [Flap.Sound, Flap.stopAt, Flap.linesOff, again]
  · simp [Flap.Sound, Flap.stopAt, Flap.linesOff, again]
    omega

theorem homingFail_inRange (cause : FlapCause) (h : s.flap.InRange) (here : IsPosition s.flapPosition) :
    (homingFail cause s).flap.InRange := by
  rw [homingFail_flap]
  exact stopAt_inRange h here

theorem homingSuccess_sound (s : State) : (homingSuccess s).flap.Sound :=
  completeMove_sound s rfl rfl (by simp)

theorem homingSuccess_inRange (h : s.flap.InRange) : (homingSuccess s).flap.InRange := by
  obtain ⟨target, -, demand, held, -⟩ := h
  exact completeMove_inRange s
    ⟨target, isPosition_thousand, demand, held, fun d hd => by simp [Flap.linesOff] at hd⟩

theorem homingSuccess_inhibit (s : State) : (homingSuccess s).flap.inhibit = s.flap.inhibit := by
  simp [homingSuccess, completeMove_inhibit, Flap.linesOff]

theorem homingFail_inhibit (cause : FlapCause) (s : State) : (homingFail cause s).flap.inhibit = s.flap.inhibit := by
  simp [homingFail_flap, Flap.stopAt, Flap.linesOff]

/-! ### The lines, the timers and the requests -/

theorem faultLineActs_sound (h : s.flap.Sound) : (faultLineActs s).flap.Sound := by
  unfold faultLineActs
  split
  next state => exact enterFlapFault_sound .line h (by simp [state])
  next state => exact enterFlapFault_sound .line h (by simp [state])
  next state => exact enterFlapFault_sound .line h (by simp [state])
  next state => exact homingFail_sound .line (h.below (by simp [state]))
  next => exact h
  next => exact h

theorem faultLineActs_inRange (h : s.flap.InRange) (here : IsPosition s.flapPosition) : (faultLineActs s).flap.InRange := by
  unfold faultLineActs
  split
  next => exact enterFlapFault_inRange .line h here
  next => exact enterFlapFault_inRange .line h here
  next => exact enterFlapFault_inRange .line h here
  next => exact homingFail_inRange .line h here
  next => exact h
  next => exact h

theorem faultLineActs_stands (s : State) : s.flap.Stands (faultLineActs s).flap := by
  unfold faultLineActs
  split
  next state =>
    refine ⟨enterFlapFault_inhibit .line s, fun _ _ => ?_, fun disabled => by simp [state] at disabled⟩
    exact .inr (.inl (by simp [enterFlapFault]))
  next state => exact .of_moving (enterFlapFault_inhibit .line s) (.inl state)
  next state => exact .of_moving (enterFlapFault_inhibit .line s) (.inr (.inl state))
  next state => exact .of_moving (homingFail_inhibit .line s) (.inr (.inr state))
  next => exact .refl _
  next => exact .refl _

theorem readyActs_sound (high : Bool) (h : s.flap.Sound) : (readyActs high s).flap.Sound := by
  unfold readyActs
  split
  next waiting =>
    obtain ⟨fresh, recirc⟩ := h.lines_of_state (by simp [waiting]) (by simp [waiting])
    split
    · simp [Flap.Sound, Flap.issue, fresh, recirc, h.below (by simp [waiting])]
    · exact h
  next moving mode =>
    obtain ⟨fresh, recirc⟩ := h.lines (by simp [mode])
    unfold trackedReady
    split
    · split
      · exact completeMove_sound s fresh recirc (h.below (by simp [moving]))
      · exact h
    · exact h
  next moving mode =>
    obtain ⟨fresh, recirc⟩ := h.lines (by simp [mode])
    exact completeMove_sound s fresh recirc (h.below (by simp [moving]))
  next homing mode =>
    obtain ⟨fresh, recirc⟩ := h.lines (by simp [mode])
    split
    · split
      · simp [Flap.Sound, Flap.issue, fresh, recirc, homing, h.below (by simp [homing])]
      · exact h
    · unfold trackedReady
      split
      · split
        · exact homingSuccess_sound s
        · exact h
      · exact h
  next => exact homingSuccess_sound s
  next => exact h

theorem readyActs_inRange (high : Bool) (h : s.flap.InRange) : (readyActs high s).flap.InRange := by
  have ⟨target, setPoint, demand, held, drive⟩ := h
  unfold readyActs trackedReady
  split
  next =>
    split
    · exact ⟨target, target, target, held, drive⟩
    · exact h
  next =>
    split
    · split
      · exact completeMove_inRange s h
      · exact h
    · exact h
  next => exact completeMove_inRange s h
  next =>
    split
    · split
      · exact ⟨target, isPosition_thousand, isPosition_thousand, held, drive⟩
      · exact h
    · split
      · split
        · exact homingSuccess_inRange h
        · exact h
      · exact h
  next => exact homingSuccess_inRange h
  next => exact h

theorem readyActs_stands (high : Bool) (s : State) : s.flap.Stands (readyActs high s).flap := by
  unfold readyActs trackedReady
  split
  next waiting => exact .of_moving (by split <;> rfl) (.inl waiting)
  next moving _ =>
    refine .of_moving ?_ (.inr (.inl moving))
    split
    · split
      · exact completeMove_inhibit _ s
      · rfl
    · rfl
  next moving _ => exact .of_moving (completeMove_inhibit _ s) (.inr (.inl moving))
  next homing _ =>
    refine .of_moving ?_ (.inr (.inr homing))
    split
    · split <;> rfl
    · split
      · split
        · exact homingSuccess_inhibit s
        · rfl
      · rfl
  next homing _ => exact .of_moving (homingSuccess_inhibit s) (.inr (.inr homing))
  next => exact .refl _

theorem moveTimedOut_sound (h : s.flap.Sound) : (moveTimedOut s).flap.Sound := by
  unfold moveTimedOut
  split
  next => exact h
  next =>
    split
    next state => exact enterFlapFault_sound .timeout h (by simp [state])
    next state => exact enterFlapFault_sound .timeout h (by simp [state])
    next state => exact homingFail_sound .timeout (h.below (by simp [state]))
    next => exact h
    next => exact h
    next => exact h

theorem moveTimedOut_inRange (h : s.flap.InRange) (here : IsPosition s.flapPosition) : (moveTimedOut s).flap.InRange := by
  unfold moveTimedOut
  split
  next => exact h
  next =>
    split
    next => exact enterFlapFault_inRange .timeout h here
    next => exact enterFlapFault_inRange .timeout h here
    next => exact homingFail_inRange .timeout h here
    next => exact h
    next => exact h
    next => exact h

theorem moveTimedOut_stands (s : State) : s.flap.Stands (moveTimedOut s).flap := by
  unfold moveTimedOut
  split
  next => exact .refl _
  next =>
    split
    next state => exact .of_moving (enterFlapFault_inhibit .timeout s) (.inl state)
    next state => exact .of_moving (enterFlapFault_inhibit .timeout s) (.inr (.inl state))
    next state => exact .of_moving (homingFail_inhibit .timeout s) (.inr (.inr state))
    next => exact .refl _
    next => exact .refl _
    next => exact .refl _

theorem timedDriveEnded_sound (h : s.flap.Sound) : (timedDriveEnded s).flap.Sound := by
  unfold timedDriveEnded
  split
  next moving _ => exact completeMove_sound s rfl rfl (h.below (by simp [moving]))
  next => exact h

theorem timedDriveEnded_inRange (h : s.flap.InRange) : (timedDriveEnded s).flap.InRange := by
  have ⟨_, _, _, _, drive⟩ := h
  unfold timedDriveEnded
  split
  next d _ flying =>
    obtain ⟨-, destination, -⟩ := drive d flying
    exact completeMove_inRange s (driveEnded_inRange h destination)
  next => exact h

theorem timedDriveEnded_stands (s : State) : s.flap.Stands (timedDriveEnded s).flap := by
  unfold timedDriveEnded
  split
  next moving _ => exact .of_moving (completeMove_inhibit _ s) (.inr (.inl moving))
  next => exact .refl _

theorem timedHomingEnded_sound (h : s.flap.Sound) : (timedHomingEnded s).flap.Sound := by
  unfold timedHomingEnded
  split
  next => exact homingSuccess_sound s
  next => exact h

theorem timedHomingEnded_inRange (h : s.flap.InRange) : (timedHomingEnded s).flap.InRange := by
  unfold timedHomingEnded
  split
  next => exact homingSuccess_inRange h
  next => exact h

theorem timedHomingEnded_stands (s : State) : s.flap.Stands (timedHomingEnded s).flap := by
  unfold timedHomingEnded
  split
  next homing _ => exact .of_moving (homingSuccess_inhibit s) (.inr (.inr homing))
  next => exact .refl _

theorem inhibitAsserted_sound (h : s.flap.Sound) : (inhibitAsserted s).flap.Sound := by
  unfold inhibitAsserted
  split
  next => exact h
  next =>
    dsimp only
    split
    next waiting =>
      obtain ⟨fresh, recirc⟩ := h.lines_of_state (by simp [waiting]) (by simp [waiting])
      exact toIdle_sound fresh recirc (h.below (by simp [waiting]))
    next => exact h

theorem inhibitAsserted_inRange (h : s.flap.InRange) : (inhibitAsserted s).flap.InRange := by
  unfold inhibitAsserted
  split
  next => exact h
  next =>
    dsimp only
    split
    next => exact toIdle_inRange h
    next => exact h

theorem inhibitReleased_sound (h : s.flap.Sound) : (inhibitReleased s).flap.Sound := by
  unfold inhibitReleased
  split
  next =>
    dsimp only
    split
    next =>
      simp only [State.withFlap_flap]
      split
      next => exact h
      next => exact testDue_sound h
    next => exact h
  next => exact h

theorem inhibitReleased_inRange (h : s.flap.InRange) : (inhibitReleased s).flap.InRange := by
  have ⟨target, _, _, held, drive⟩ := h
  unfold inhibitReleased
  split
  next =>
    dsimp only
    split
    next =>
      simp only [State.withFlap_flap]
      split
      next => exact ⟨target, target, target, held, drive⟩
      next => exact testDue_inRange h
    next => exact h
  next => exact h

/-- A taken ACTUATOR comes to a flap that is not under way (R114). -/
theorem storeActuator_sound (mode : DriveMode) (travelTime moveTimeout : Nat) (h : s.flap.Sound)
    (still : s.flap.state ≠ .moving) (still' : s.flap.state ≠ .homing) :
    (storeActuator mode travelTime moveTimeout s).flap.Sound := by
  obtain ⟨fresh, recirc⟩ := h.lines_of_state still still'
  have ⟨_, _, timer, disabled, failures⟩ := h
  have stored : ({ s.flap with mode := mode, travelTime := travelTime, moveTimeout := moveTimeout } : Flap).Sound := by
    refine ⟨?_, ?_, timer, disabled, failures⟩ <;> simp [fresh, recirc]
  have entered : ∀ f : Flap, f.Sound → f.enterMode.Sound := fun f hf => by
    unfold Flap.enterMode
    split
    · exact hf
    · exact hf
  unfold storeActuator
  dsimp only
  split
  next =>
    simp only [State.withFlap_flap]
    split
    · exact testDue_sound (entered _ stored)
    · exact testDue_sound stored
  next waiting =>
    simp only [State.withFlap_flap]
    split
    · exact testDue_sound (entered _ (toIdle_sound fresh recirc (h.below (by simp [waiting]))))
    · exact stored
  next => exact stored
  next => exact stored
  next => exact stored
  next => exact stored

theorem enterMode_inRange {f : Flap} (h : f.InRange) : f.enterMode.InRange := by
  have ⟨target, setPoint, _, held, drive⟩ := h
  unfold Flap.enterMode
  split
  · exact ⟨target, setPoint, setPoint, held, drive⟩
  · exact h

theorem storeActuator_inRange (mode : DriveMode) (travelTime moveTimeout : Nat) (h : s.flap.InRange) :
    (storeActuator mode travelTime moveTimeout s).flap.InRange := by
  have stored : ({ s.flap with mode := mode, travelTime := travelTime, moveTimeout := moveTimeout } : Flap).InRange := h
  unfold storeActuator
  dsimp only
  split
  next =>
    simp only [State.withFlap_flap]
    split
    · exact testDue_inRange (enterMode_inRange stored)
    · exact testDue_inRange stored
  next =>
    simp only [State.withFlap_flap]
    split
    · exact testDue_inRange (enterMode_inRange (toIdle_inRange stored))
    · exact stored
  next => exact stored
  next => exact stored
  next => exact stored
  next => exact stored

theorem enterMode_stands (f : Flap) : f.Stands f.enterMode := by
  unfold Flap.enterMode
  split
  · exact .of_state rfl rfl
  · exact .refl _

theorem storeActuator_stands (mode : DriveMode) (travelTime moveTimeout : Nat) (s : State) :
    s.flap.Stands (storeActuator mode travelTime moveTimeout s).flap := by
  have stored : s.flap.Stands { s.flap with mode := mode, travelTime := travelTime, moveTimeout := moveTimeout } :=
    .of_state rfl rfl
  unfold storeActuator
  dsimp only
  split
  next =>
    simp only [State.withFlap_flap]
    split
    · exact stored.trans ((enterMode_stands _).trans (testDue_stands _))
    · exact stored.trans (testDue_stands _)
  next waiting =>
    refine .of_moving ?_ (.inl waiting)
    simp only [State.withFlap_flap]
    split
    · exact (testDue_inhibit _).trans (enterMode_stands _).1
    · rfl
  next => exact .of_state rfl rfl
  next => exact .of_state rfl rfl
  next => exact .of_state rfl rfl
  next => exact .of_state rfl rfl

/-- A homing starts from FAULT, which a FAULT line ends at once (R126, R127). -/
theorem startHoming_sound (h : s.flap.Sound) (fault : s.flap.state = .fault) : (startHoming s).flap.Sound := by
  obtain ⟨fresh, recirc⟩ := h.lines_of_state (by simp [fault]) (by simp [fault])
  have below := h.below (by simp [fault])
  unfold startHoming
  dsimp only
  split
  next mode =>
    split
    · exact homingFail_sound .line below
    · split
      · simp [Flap.Sound, Flap.issue, fresh, recirc, below]
      · simp [Flap.Sound, fresh, recirc, below]
  next mode =>
    split
    · exact homingFail_sound .line below
    · simp [Flap.Sound, Flap.issue, fresh, recirc, below]
  next mode =>
    split
    · exact homingFail_sound .line below
    · simp [Flap.Sound, recirc, below, show s.flap.mode = .timed from mode]
  next mode =>
    split
    · exact homingFail_sound .line below
    · exact homingSuccess_sound _

theorem homingDrive_sound {f : Flap} (held : IsPosition f.heldPosition) : f.homingDrive.Sound :=
  ⟨held, isPosition_thousand, Nat.zero_le _⟩

theorem startHoming_inRange (h : s.flap.InRange) (feedback : IsPosition (s.usable .fpos)) : (startHoming s).flap.InRange := by
  have ⟨target, setPoint, demand, held, drive⟩ := h
  have failed : ∀ f : Flap, f.InRange → (homingFail .line (s.withFlap f)).flap.InRange := fun f hf =>
    homingFail_inRange (s := s.withFlap f) .line hf (position_inRange (f := f) hf feedback)
  have homing : ∀ f : Flap, f.heldPosition = s.flap.heldPosition → f.InRange →
      ({ f with driveInFlight := some f.homingDrive } : Flap).InRange := by
    rintro f same ⟨t, p, o, k, -⟩
    refine ⟨t, p, o, k, ?_⟩
    rintro d hd
    cases hd
    exact homingDrive_sound k
  unfold startHoming
  dsimp only
  split
  next =>
    split
    · exact failed _ h
    · split
      · exact ⟨target, isPosition_thousand, isPosition_thousand, held, drive⟩
      · exact h
  next =>
    split
    · exact failed _ h
    · exact ⟨target, isPosition_thousand, isPosition_thousand, held, drive⟩
  next =>
    split
    · exact failed _ (homing { s.flap with state := .homing, homingWaiting := false } rfl h)
    · exact homing { s.flap with state := .homing, homingWaiting := false } rfl h
  next =>
    split
    · exact failed _ h
    · exact homingSuccess_inRange ⟨target, setPoint, isPosition_thousand, held, drive⟩

theorem startHoming_inhibit (s : State) : (startHoming s).flap.inhibit = s.flap.inhibit := by
  unfold startHoming
  dsimp only
  split
  · split
    · simp [homingFail_inhibit]
    · split <;> rfl
  · split
    · simp [homingFail_inhibit]
    · rfl
  · split
    · simp [homingFail_inhibit]
    · rfl
  · split
    · simp [homingFail_inhibit]
    · simp [homingSuccess_inhibit]

/-- A homing starts with INHIBIT released alone (R126). -/
theorem startHoming_stands (fault : s.flap.state = .fault) (released : s.flap.inhibit = false) :
    s.flap.Stands (startHoming s).flap :=
  ⟨startHoming_inhibit s, fun on => by simp [released] at on, fun disabled => by simp [fault] at disabled⟩

end

/-! ### The clocks -/

theorem Flap.Sound.aged {f : Flap} (h : f.Sound) : f.aged.Sound := by
  simpa [Flap.Sound, Flap.aged] using h

theorem Flap.InRange.aged {f : Flap} (h : f.InRange) : f.aged.InRange := by
  obtain ⟨target, setPoint, demand, held, drive⟩ := h
  refine ⟨target, setPoint, demand, held, ?_⟩
  intro d hd
  obtain ⟨d', flying, rfl⟩ := Option.map_eq_some_iff.mp hd
  obtain ⟨start, destination, -⟩ := drive d' flying
  exact ⟨start, destination, Nat.min_le_left _ _⟩

end Sys2Proof.Machine
end

section
/-! What the operations of the air policy leave in the policy record: an equation for each that records a target or a basis, and for
the decision by mode and the override what every branch has in common. -/

namespace Sys2Proof.Machine

/-! ### Target, basis and held flag -/

section
variable (s : State)

/-- What the recording of a target leaves: a change is dated (R30). -/
@[simp] theorem setTarget_policy (t : Int) :
    (setTarget t s).policy = { s.policy with
      target := t, lastChange := if t = s.policy.target then s.policy.lastChange else some s.uptime } := by
  unfold setTarget
  split
  next same => simp [same]
  next => simp

@[simp] theorem recordBasis_policy (b : Basis) : (recordBasis b s).policy = { s.policy with basis := b } := by
  simp only [recordBasis]
  split <;> simp

@[simp] theorem setHeld_policy (h : Bool) : (setHeld h s).policy = { s.policy with held := h } := rfl

@[simp] theorem applyNow_policy (t : Int) (b : Basis) :
    (applyNow t b s).policy = { s.policy with
      target := t, basis := b, held := false
      lastChange := if t = s.policy.target then s.policy.lastChange else some s.uptime } := by
  simp [applyNow]

/-- A target subject to the change dwell is applied, or the held flag is set (R43). -/
theorem applyDwelled_policy (t : Int) (b : Basis) :
    (applyDwelled t b s).policy = (applyNow t b s).policy
      ∨ (applyDwelled t b s).policy = { s.policy with basis := b, held := true } := by
  unfold applyDwelled
  split
  · exact .inl rfl
  · exact .inr (by simp)

@[simp] theorem fogTest_policy : (fogTest s).policy = { s.policy with fogFlag := s.fogHolds } := by
  simp only [fogTest]
  split <;> simp

@[simp] theorem ceilingTest_policy : (ceilingTest s).policy = { s.policy with ceilingFlag := s.ceilingHolds } := by
  simp only [ceilingTest]
  split <;> simp

end

/-! ### The decision by mode and the override -/

/-- t is one of the six candidates (R30). -/
def Candidate (t : Int) : Prop := t ∈ ([0, 125, 250, 500, 750, 1000] : List Int)

/-- A target that RECIRC may hold (R32, R33, R45). -/
def RecircCandidate (t : Int) : Prop := t = 0 ∨ t = 500 ∨ t = 1000

theorem RecircCandidate.candidate {t : Int} (h : RecircCandidate t) : Candidate t := by
  obtain rfl | rfl | rfl := h <;> simp [Candidate]

theorem ceilingTarget_candidate (w : WorkingValues) (l : Limits) : Candidate (ceilingTarget w l) := by
  unfold ceilingTarget Candidate
  split
  · simp
  · split <;> simp

theorem lowestCandidate_candidate {w : WorkingValues} {l : Limits} {eco eah f : Int}
    (h : lowestCandidate w l eco eah = some f) : Candidate f := by
  unfold lowestCandidate at h
  unfold Candidate
  repeat' split at h
  all_goals simp_all

/-- A decision has recorded a basis, and a target that was a candidate: in RECIRC one of RECIRC's own (R30, R32, R42). -/
structure Policy.Decides (p q : Policy) : Prop where
  fields : q = { p with target := q.target, basis := q.basis, held := q.held, lastChange := q.lastChange }
  target : q.target = p.target ∨ Candidate q.target
  recirc : p.mode = .recirc → q.target = p.target ∨ RecircCandidate q.target

theorem Policy.Decides.refl (p : Policy) : p.Decides p := ⟨rfl, .inl rfl, fun _ => .inl rfl⟩

section
variable {s : State} {t : Int}

theorem applyNow_decides (b : Basis) (h : Candidate t) (recirc : s.policy.mode = .recirc → RecircCandidate t) :
    s.policy.Decides (applyNow t b s).policy := by
  refine ⟨by simp, .inr ?_, fun m => .inr ?_⟩
  · simpa using h
  · simpa using recirc m

theorem applyDwelled_decides (b : Basis) (h : Candidate t) (auto : s.policy.mode = .auto) :
    s.policy.Decides (applyDwelled t b s).policy := by
  obtain applied | held := applyDwelled_policy s t b
  · exact applied ▸ applyNow_decides b h (by simp [auto])
  · exact held ▸ ⟨by simp, .inl (by simp), by simp⟩

theorem autoBelowFog_decides (auto : s.policy.mode = .auto) : s.policy.Decides (autoBelowFog s).policy := by
  have notRecirc : ∀ {t}, s.policy.mode = .recirc → RecircCandidate t := by simp [auto]
  unfold autoBelowFog
  dsimp only
  split
  next => exact applyNow_decides _ (ceilingTarget_candidate _ _) notRecirc
  next =>
    split
    next => exact applyNow_decides _ (by simp [Candidate]) notRecirc
    next =>
      split
      next => exact applyDwelled_decides _ (by simp [Candidate]) auto
      next =>
        split
        next found => exact applyDwelled_decides _ (lowestCandidate_candidate found) auto
        next => exact applyDwelled_decides _ (by simp [Candidate]) auto

/-- A decision by mode records what R32 and R42 allow. -/
theorem decideByMode_decides (s : State) : s.policy.Decides (decideByMode s).policy := by
  have start : Candidate 1000 := by simp [Candidate]
  unfold decideByMode
  split
  next auto =>
    split
    · exact applyNow_decides _ start (by simp [auto])
    · have policy : (noteWorkingLookups s).policy = s.policy := by simp
      exact policy ▸ autoBelowFog_decides (policy ▸ auto)
  next fresh => exact applyNow_decides _ start (by simp [fresh])
  next =>
    split
    · exact applyNow_decides _ (by simp [Candidate]) fun _ => .inr (.inl rfl)
    · exact applyNow_decides _ (by simp [Candidate]) fun _ => .inl rfl
  next defrost => exact applyNow_decides _ start (by simp [defrost])

/-- In RECIRC a decision gives RECIRC's own target, whatever stood before (R32, R45). -/
theorem decideByMode_recirc (mode : s.policy.mode = .recirc) : RecircCandidate (decideByMode s).policy.target := by
  unfold decideByMode
  simp only [mode]
  split
  · exact .inr (.inl (by simp))
  · exact .inl (by simp)

theorem applyOverride_decides (s : State) : s.policy.Decides (applyOverride s).policy := by
  unfold applyOverride
  split
  next auto =>
    split
    · exact applyNow_decides _ (by simp [Candidate]) (by simp [auto])
    · split
      · have policy : (noteWorkingLookups s).policy = s.policy := by simp
        have recorded := applyNow_decides (s := noteWorkingLookups s) .ceiling
          (ceilingTarget_candidate (s.workingValues s.est.lastFlow) s.policy.limits) (by simp [auto])
        rwa [policy] at recorded
      · exact .refl _
  next =>
    split
    · exact applyNow_decides _ (by simp [Candidate]) fun _ => .inr (.inl rfl)
    · exact .refl _
  next => exact .refl _
  next => exact .refl _

end

/-! ### What a decision leaves of the policy -/

section
variable (s : State)

/-- A decision by mode leaves the mode, the machines, the settings and the flags (R32, R42). -/
@[simp] theorem decideByMode_policyKeeps :
    (decideByMode s).policy.mode = s.policy.mode ∧ (decideByMode s).policy.hold = s.policy.hold ∧
    (decideByMode s).policy.purging = s.policy.purging ∧ (decideByMode s).policy.openSince = s.policy.openSince ∧
    (decideByMode s).policy.comfort = s.policy.comfort ∧ (decideByMode s).policy.limits = s.policy.limits ∧
    (decideByMode s).policy.fogFlag = s.policy.fogFlag ∧ (decideByMode s).policy.ceilingFlag = s.policy.ceilingFlag ∧
    (decideByMode s).policy.demand = s.policy.demand := by
  rw [(decideByMode_decides s).fields]
  simp

@[simp] theorem applyOverride_policyKeeps :
    (applyOverride s).policy.mode = s.policy.mode ∧ (applyOverride s).policy.hold = s.policy.hold ∧
    (applyOverride s).policy.purging = s.policy.purging ∧ (applyOverride s).policy.openSince = s.policy.openSince ∧
    (applyOverride s).policy.comfort = s.policy.comfort ∧ (applyOverride s).policy.limits = s.policy.limits ∧
    (applyOverride s).policy.fogFlag = s.policy.fogFlag ∧ (applyOverride s).policy.ceilingFlag = s.policy.ceilingFlag ∧
    (applyOverride s).policy.demand = s.policy.demand := by
  rw [(applyOverride_decides s).fields]
  simp

/-- A full decision leaves the mode, the machines, the settings and the ceiling flag (R39). -/
@[simp] theorem fullDecision_policyKeeps :
    (fullDecision s).policy.mode = s.policy.mode ∧ (fullDecision s).policy.hold = s.policy.hold ∧
    (fullDecision s).policy.purging = s.policy.purging ∧ (fullDecision s).policy.openSince = s.policy.openSince ∧
    (fullDecision s).policy.comfort = s.policy.comfort ∧ (fullDecision s).policy.limits = s.policy.limits ∧
    (fullDecision s).policy.ceilingFlag = s.policy.ceilingFlag := by
  unfold fullDecision
  split <;> simp

@[simp] theorem overrideCheck_policyKeeps :
    (overrideCheck s).policy.mode = s.policy.mode ∧ (overrideCheck s).policy.hold = s.policy.hold ∧
    (overrideCheck s).policy.purging = s.policy.purging ∧ (overrideCheck s).policy.openSince = s.policy.openSince ∧
    (overrideCheck s).policy.comfort = s.policy.comfort ∧ (overrideCheck s).policy.limits = s.policy.limits := by
  unfold overrideCheck
  simp

theorem fullDecision_of_parked {s : State} (parked : s.drive.vehicle = .parked) : fullDecision s = s := by
  simp [fullDecision, State.isParked, parked]

theorem fullDecision_of_not_parked {s : State} (driving : s.drive.vehicle ≠ .parked) :
    fullDecision s = recomputeDemand (decideByMode (fogTest s)) := by
  simp [fullDecision, State.isParked, driving]

end
end Sys2Proof.Machine
end

section
/-! What every operation keeps: the invariants of the blocks and of the policy as one preorder on states, and the operations of
each block in it. -/

namespace Sys2Proof.Machine

/-! ### The invariants read their own parts alone -/

section
variable {s t : State}

/-- The applied level is the demand, and the comfort level is 0..7 (R35, R132). -/
def Applied (s : State) : Prop := s.blower.level = s.policy.demand ∧ s.policy.comfort ≤ 7

/-- The demand is the one R53 gives. -/
def DemandDue (s : State) : Prop := s.policy.demand = s.demandDue

theorem demandIsDue_iff (s : State) : DemandIsDue s ↔ DemandDue s ∧ Applied s := by
  unfold DemandIsDue DemandDue Applied
  rw [demandDue_eq]

/-- FPOS holds a position and has no substitute (R75, R86). -/
def Channels.FposInRange (c : Channels) : Prop := IsPosition c.fpos.lastValue ∧ c.fpos.substitute = none

theorem fposUsable_inRange (h : s.channels.FposInRange) : IsPosition (s.usable .fpos) := by
  obtain ⟨last, none⟩ := h
  simp only [State.usable, Channels.get, ChannelRecord.usable, none]
  split <;> exact last

theorem positions_iff (s : State) :
    PositionsInRange s ↔ s.flap.InRange ∧ s.channels.FposInRange ∧ TargetIsCandidate s := by
  constructor
  · rintro ⟨target, setPoint, demand, held, drive, last, none, candidate, -⟩
    exact ⟨⟨target, setPoint, demand, held, drive⟩, ⟨last, none⟩, candidate⟩
  · rintro ⟨flap, fpos, candidate⟩
    have here := position_inRange flap (fposUsable_inRange fpos)
    obtain ⟨target, setPoint, demand, held, drive⟩ := flap
    exact ⟨target, setPoint, demand, held, drive, fpos.1, fpos.2, candidate, here⟩

theorem EstimatesInRange.congr (est : t.est = s.est) (h : EstimatesInRange s) : EstimatesInRange t := by
  simpa [EstimatesInRange, est] using h

theorem TargetIsCandidate.congr (target : t.policy.target = s.policy.target) (h : TargetIsCandidate s) :
    TargetIsCandidate t := by
  simpa [TargetIsCandidate, target] using h

theorem ChannelsSound.congr (channels : t.channels = s.channels) (h : ChannelsSound s) : ChannelsSound t := by
  simpa [ChannelsSound, channels] using h

theorem PositionsInRange.congr (flap : t.flap = s.flap) (channels : t.channels = s.channels)
    (target : t.policy.target = s.policy.target) (h : PositionsInRange s) : PositionsInRange t := by
  rw [positions_iff] at h ⊢
  rw [flap, channels]
  exact ⟨h.1, h.2.1, h.2.2.congr target⟩

theorem EpisodesSound.congr (tracker : t.tracker = s.tracker) (h : EpisodesSound s) : EpisodesSound t := by
  simpa [EpisodesSound, tracker] using h

theorem NoticesSound.congr (notices : t.notices = s.notices) (h : NoticesSound s) : NoticesSound t := by
  simpa [NoticesSound, notices] using h

theorem ReplyFramed.congr (sending : t.link.sending = s.link.sending) (h : ReplyFramed s) : ReplyFramed t := by
  simpa [ReplyFramed, sending] using h

theorem FlapSound.congr (flap : t.flap = s.flap) (h : FlapSound s) : FlapSound t := by
  simpa [FlapSound, flap] using h

theorem Applied.congr (blower : t.blower = s.blower) (demand : t.policy.demand = s.policy.demand)
    (comfort : t.policy.comfort = s.policy.comfort) (h : Applied s) : Applied t := by
  simpa [Applied, blower, demand, comfort] using h

theorem DemandDue.congr (policy : t.policy = s.policy)
    (parked : t.drive.vehicle = .parked ↔ s.drive.vehicle = .parked) (h : DemandDue s) : DemandDue t := by
  simpa only [DemandDue, demandDue_eq, policy, parked] using h

theorem TimersFollow.congr (timers : t.timers = s.timers) (parked : t.drive.vehicle = .parked ↔ s.drive.vehicle = .parked)
    (hold : t.policy.hold = s.policy.hold) (purging : t.policy.purging = s.policy.purging) (h : TimersFollow s) :
    TimersFollow t := by
  simpa only [TimersFollow, timers, ne_eq, parked, hold, purging] using h

theorem RecircTarget.congr (mode : t.policy.mode = s.policy.mode) (target : t.policy.target = s.policy.target)
    (parked : t.drive.vehicle = .parked ↔ s.drive.vehicle = .parked) (h : RecircTarget s) : RecircTarget t := by
  simpa only [RecircTarget, mode, target, parked] using h

/-! ### The preorder -/

/-- From s to t the invariants of the blocks are kept. A field left out is of a part that has not changed. -/
structure BlocksKept (s t : State) : Prop where
  estimates : EstimatesInRange s → EstimatesInRange t := by exact EstimatesInRange.congr (by simp)
  target : TargetIsCandidate s → TargetIsCandidate t := by exact TargetIsCandidate.congr (by simp)
  channels : ChannelsSound s → ChannelsSound t := by exact ChannelsSound.congr (by simp)
  positions : PositionsInRange s → PositionsInRange t := by exact PositionsInRange.congr (by simp) (by simp) (by simp)
  episodes : EpisodesSound s → EpisodesSound t := by exact EpisodesSound.congr (by simp)
  notices : NoticesSound s → NoticesSound t := by exact NoticesSound.congr (by simp)
  queue : s.link.queue.length ≤ 2 → t.link.queue.length ≤ 2 := by exact fun h => by simpa using h
  framed : ReplyFramed s → ReplyFramed t := by exact ReplyFramed.congr (by simp)
  flap : FlapSound s → FlapSound t := by exact FlapSound.congr (by simp)
  journal : JournalSound s → JournalSound t := by exact JournalSound.congr (by simp) (by simp)
  applied : Applied s → Applied t := by exact Applied.congr (by simp) (by simp) (by simp)

/-- From s to t the invariants that join the policy with its demand, its timers and the vehicle state are kept. -/
structure PolicyKept (s t : State) : Prop where
  demand : DemandDue s → DemandDue t := by exact DemandDue.congr (by simp) (by simp)
  timers : TimersFollow s → TimersFollow t := by exact TimersFollow.congr (by simp) (by simp) (by simp) (by simp)
  recirc : TimersFollow s → RecircTarget s → RecircTarget t := by
    exact fun _ => RecircTarget.congr (by simp) (by simp) (by simp)

/-- What an operation inside an event keeps, where the policy is not yet in step with its demand and its timers. -/
structure Inner (s t : State) : Prop extends BlocksKept s t where
  stands : s.flap.Stands t.flap := by exact Flap.Stands.of_state (by simp) (by simp)

/-- What an event keeps that moves neither INHIBIT nor resets. -/
structure Kept (s t : State) : Prop extends Inner s t, PolicyKept s t

/-- What every event keeps. -/
structure Preserved (s t : State) : Prop extends BlocksKept s t, PolicyKept s t

theorem Kept.preserved (h : Kept s t) : Preserved s t := { h with }

theorem BlocksKept.trans {u : State} (first : BlocksKept s t) (second : BlocksKept t u) : BlocksKept s u where
  estimates := second.estimates ∘ first.estimates
  target := second.target ∘ first.target
  channels := second.channels ∘ first.channels
  positions := second.positions ∘ first.positions
  episodes := second.episodes ∘ first.episodes
  notices := second.notices ∘ first.notices
  queue := second.queue ∘ first.queue
  framed := second.framed ∘ first.framed
  flap := second.flap ∘ first.flap
  journal := second.journal ∘ first.journal
  applied := second.applied ∘ first.applied

theorem PolicyKept.trans {u : State} (first : PolicyKept s t) (second : PolicyKept t u) : PolicyKept s u where
  demand := second.demand ∘ first.demand
  timers := second.timers ∘ first.timers
  recirc timers recirc := second.recirc (first.timers timers) (first.recirc timers recirc)

theorem Inner.trans {u : State} (first : Inner s t) (second : Inner t u) : Inner s u where
  toBlocksKept := first.toBlocksKept.trans second.toBlocksKept
  stands := first.stands.trans second.stands

theorem Kept.trans {u : State} (first : Kept s t) (second : Kept t u) : Kept s u where
  toInner := first.toInner.trans second.toInner
  toPolicyKept := first.toPolicyKept.trans second.toPolicyKept

theorem Preserved.trans {u : State} (first : Preserved s t) (second : Preserved t u) : Preserved s u where
  toBlocksKept := first.toBlocksKept.trans second.toBlocksKept
  toPolicyKept := first.toPolicyKept.trans second.toPolicyKept

theorem Kept.refl (s : State) : Kept s s := {}

theorem Preserved.refl (s : State) : Preserved s s := {}

end

/-! ### Notices and watch slots -/

section
variable (s : State)

theorem raise_kept (n : Notice) : Kept s (raise n s) := { notices := raise_sound n }

/-- What occurrences of conditions do to the notice unit leaves its pending notices as they stood, but for CONDITION (R187). -/
theorem recordCondition_kept (k : ConditionKind) (q : Option Quantity) (uptime : Nat) (v : Int) :
    Kept s (s.withNotices (s.notices.recordCondition k q uptime v)) :=
  { notices := fun h => by simpa [NoticesSound, Notices.recordCondition] using h }

theorem occur_kept (k : ConditionKind) (q : Option Quantity) (v : Int) : Kept s (occur k q v s) := by
  unfold occur
  dsimp only
  split
  · exact recordCondition_kept s k q _ v
  · exact (recordCondition_kept s k q _ v).trans (raise_kept _ _)

theorem noteLookup_kept (c : Channel) (t : Int) : Kept s (noteLookup c t s) := by
  unfold noteLookup
  split
  · exact occur_kept s _ _ _
  · exact .refl s

theorem withWatch_kept (x : WatchUnit) : Kept s (s.withWatch x) := {}

theorem evaluateSlot_kept (n : SlotNumber) (v : Int) : Kept s (evaluateSlot n v s) := by
  unfold evaluateSlot
  dsimp only
  split
  · exact .refl s
  · split
    · exact (withWatch_kept s _).trans (raise_kept _ _)
    · exact withWatch_kept s _

theorem deliverTo_kept (q : Quantity) (v : Int) (n : SlotNumber) : Kept s (deliverTo q v n s) := by
  unfold deliverTo
  split
  · exact evaluateSlot_kept s n v
  · exact .refl s

theorem deliver_kept (q : Quantity) (v : Int) : Kept s (deliver q v s) :=
  (deliverTo_kept s q v .one).trans ((deliverTo_kept _ q v .two).trans ((deliverTo_kept _ q v .three).trans
    (deliverTo_kept _ q v .four)))

theorem clearSlot_kept (n : SlotNumber) : Kept s (clearSlot n s) :=
  (withWatch_kept s _).trans (evaluateSlot_kept _ n _)

theorem writeSlot_kept (n : SlotNumber) (w : WatchSlot) : Kept s (writeSlot n w s) :=
  (withWatch_kept s _).trans (evaluateSlot_kept _ n _)

theorem watchStopEnd_kept : Kept s (watchStopEnd s) := withWatch_kept s _

end

/-! ### The flap and the blower -/

section
variable {s t : State}

/-- An operation that works on the flap and raises notices alone keeps what it keeps of the flap. -/
theorem Inner.of_flap (sound : s.flap.Sound → t.flap.Sound)
    (range : s.flap.InRange → IsPosition (s.usable .fpos) → t.flap.InRange) (stands : s.flap.Stands t.flap)
    (notices : NoticesSound s → NoticesSound t)
    (same : t.est = s.est ∧ t.policy = s.policy ∧ t.tracker = s.tracker ∧ t.channels = s.channels ∧ t.blower = s.blower
      ∧ t.journal = s.journal ∧ t.flash = s.flash ∧ t.link = s.link) : Inner s t := by
  obtain ⟨est, policy, tracker, channels, blower, journal, flash, link⟩ := same
  refine {
    estimates := .congr est, target := .congr (by rw [policy]), channels := .congr channels, positions := fun h => ?_,
    episodes := .congr tracker, notices := notices, queue := by rw [link]; exact id, framed := .congr (by rw [link]),
    flap := sound, journal := .congr journal flash, applied := .congr blower (by rw [policy]) (by rw [policy]), stands := stands }
  rw [positions_iff] at h ⊢
  obtain ⟨flap, fpos, candidate⟩ := h
  exact ⟨range flap (fposUsable_inRange fpos), channels ▸ fpos, candidate.congr (by rw [policy])⟩

/-- The same, of an operation that is an event by itself. -/
theorem Kept.of_flap (sound : s.flap.Sound → t.flap.Sound)
    (range : s.flap.InRange → IsPosition (s.usable .fpos) → t.flap.InRange) (stands : s.flap.Stands t.flap)
    (notices : NoticesSound s → NoticesSound t)
    (same : t.est = s.est ∧ t.policy = s.policy ∧ t.tracker = s.tracker ∧ t.channels = s.channels ∧ t.blower = s.blower
      ∧ t.journal = s.journal ∧ t.flash = s.flash ∧ t.link = s.link) (drive : t.drive = s.drive) (timers : t.timers = s.timers) :
    Kept s t := by
  have ⟨_, policy, _⟩ := same
  exact {
    toInner := .of_flap sound range stands notices same
    demand := .congr policy (by rw [drive])
    timers := .congr timers (by rw [drive]) (by rw [policy]) (by rw [policy])
    recirc := fun _ => .congr (by rw [policy]) (by rw [policy]) (by rw [drive]) }

theorem completeMove_notices (f : Flap) (h : NoticesSound s) : NoticesSound (completeMove f s) :=
  NoticesSound.congr (s := raise _ (s.withFlap f.toIdle)) rfl (raise_sound _ h)

theorem homingSuccess_notices (h : NoticesSound s) : NoticesSound (homingSuccess s) := completeMove_notices _ h

theorem homingFail_notices (cause : FlapCause) (h : NoticesSound s) : NoticesSound (homingFail cause s) := by
  unfold homingFail
  dsimp only
  split
  · exact raise_sound _ h
  · exact raise_sound _ h

theorem flapTarget_notices (x : Int) (h : NoticesSound s) : NoticesSound (flapTarget x s) := by
  unfold flapTarget
  dsimp only
  split
  next => exact h
  next => exact h
  next =>
    split
    next => exact h
    next =>
      split
      next => exact h
      next =>
        unfold retargetTimed
        dsimp only
        split
        · exact completeMove_notices _ h
        · exact h
      next => exact h
      next => exact h
  next => exact h
  next => exact h
  next => exact h

theorem faultLineActs_notices (h : NoticesSound s) : NoticesSound (faultLineActs s) := by
  unfold faultLineActs
  split
  next => exact raise_sound _ h
  next => exact raise_sound _ h
  next => exact raise_sound _ h
  next => exact homingFail_notices .line h
  next => exact h
  next => exact h

theorem readyActs_notices (high : Bool) (h : NoticesSound s) : NoticesSound (readyActs high s) := by
  unfold readyActs trackedReady
  split
  next =>
    split
    · exact h
    · exact h
  next =>
    split
    · split
      · exact completeMove_notices _ h
      · exact h
    · exact h
  next => exact completeMove_notices _ h
  next =>
    split
    · split
      · exact h
      · exact h
    · split
      · split
        · exact homingSuccess_notices h
        · exact h
      · exact h
  next => exact homingSuccess_notices h
  next => exact h

theorem moveTimedOut_notices (h : NoticesSound s) : NoticesSound (moveTimedOut s) := by
  unfold moveTimedOut
  split
  next => exact h
  next =>
    split
    next => exact raise_sound _ h
    next => exact raise_sound _ h
    next => exact homingFail_notices .timeout h
    next => exact h
    next => exact h
    next => exact h

theorem timedDriveEnded_notices (h : NoticesSound s) : NoticesSound (timedDriveEnded s) := by
  unfold timedDriveEnded
  split
  · exact completeMove_notices _ h
  · exact h

theorem timedHomingEnded_notices (h : NoticesSound s) : NoticesSound (timedHomingEnded s) := by
  unfold timedHomingEnded
  split
  · exact homingSuccess_notices h
  · exact h

theorem startHoming_notices (h : NoticesSound s) : NoticesSound (startHoming s) := by
  have failed : ∀ f, NoticesSound (homingFail .line (s.withFlap f)) := fun f => homingFail_notices .line h
  unfold startHoming
  dsimp only
  split
  · split
    · exact failed _
    · split
      · exact h
      · exact h
  · split
    · exact failed _
    · exact h
  · split
    · exact failed _
    · exact h
  · split
    · exact failed _
    · exact homingSuccess_notices h

theorem storeActuator_notices (mode : DriveMode) (travelTime moveTimeout : Nat) (h : NoticesSound s) :
    NoticesSound (storeActuator mode travelTime moveTimeout s) := by
  unfold storeActuator
  dsimp only
  split <;> exact h

/-- A flap record that keeps its state and its positions, in anything but the levels of its lines. -/
theorem withFlap_kept {f : Flap} (sound : s.flap.Sound → f.Sound) (range : s.flap.InRange → f.InRange)
    (stands : s.flap.Stands f) : Kept s (s.withFlap f) :=
  .of_flap sound (fun h _ => range h) stands id (by simp) rfl rfl

theorem flapTarget_inner {x : Int} (hx : IsPosition x) (s : State) : Inner s (flapTarget x s) :=
  .of_flap (flapTarget_sound x) (fun h _ => flapTarget_inRange h hx) (flapTarget_stands x s) (flapTarget_notices x) (by simp)

theorem faultLineActs_kept (s : State) : Kept s (faultLineActs s) :=
  .of_flap faultLineActs_sound (fun h p => faultLineActs_inRange h (position_inRange h p)) (faultLineActs_stands s) faultLineActs_notices (by simp) (by simp) (by simp)

theorem faultLineAsserted_kept (s : State) : Kept s (faultLineAsserted s) := by
  unfold faultLineAsserted
  split
  · exact .refl s
  · exact (withFlap_kept (f := { s.flap with faultLine := true }) id id (.of_state rfl rfl)).trans (faultLineActs_kept _)

theorem faultLineReleased_kept (s : State) : Kept s (faultLineReleased s) := withFlap_kept id id (.of_state rfl rfl)

theorem readyActs_kept (high : Bool) (s : State) : Kept s (readyActs high s) :=
  .of_flap (readyActs_sound high) (fun h _ => readyActs_inRange high h) (readyActs_stands high s) (readyActs_notices high)
    (by simp) (by simp) (by simp)

theorem readyChanged_kept (high : Bool) (s : State) : Kept s (readyChanged high s) := by
  unfold readyChanged
  split
  · exact .refl s
  · exact (withFlap_kept (f := { s.flap with ready := high }) id id (.of_state rfl rfl)).trans (readyActs_kept high _)

theorem moveTimedOut_kept (s : State) : Kept s (moveTimedOut s) :=
  .of_flap moveTimedOut_sound (fun h p => moveTimedOut_inRange h (position_inRange h p)) (moveTimedOut_stands s) moveTimedOut_notices (by simp) (by simp) (by simp)

theorem timedDriveEnded_kept (s : State) : Kept s (timedDriveEnded s) :=
  .of_flap timedDriveEnded_sound (fun h _ => timedDriveEnded_inRange h) (timedDriveEnded_stands s) timedDriveEnded_notices
    (by simp) (by simp) (by simp)

theorem timedHomingEnded_kept (s : State) : Kept s (timedHomingEnded s) :=
  .of_flap timedHomingEnded_sound (fun h _ => timedHomingEnded_inRange h) (timedHomingEnded_stands s) timedHomingEnded_notices
    (by simp) (by simp) (by simp)

theorem storeActuator_kept (mode : DriveMode) (travelTime moveTimeout : Nat) {s : State} (still : s.flap.state ≠ .moving)
    (still' : s.flap.state ≠ .homing) : Kept s (storeActuator mode travelTime moveTimeout s) :=
  .of_flap (fun h => storeActuator_sound mode travelTime moveTimeout h still still')
    (fun h _ => storeActuator_inRange mode travelTime moveTimeout h) (storeActuator_stands mode travelTime moveTimeout s)
    (storeActuator_notices mode travelTime moveTimeout) (by simp) (by simp) (by simp)

theorem startHoming_kept {s : State} (fault : s.flap.state = .fault) (released : s.flap.inhibit = false) :
    Kept s (startHoming s) :=
  .of_flap (fun h => startHoming_sound h fault) startHoming_inRange (startHoming_stands fault released)
    startHoming_notices (by simp) (by simp) (by simp)

end
end Sys2Proof.Machine
end

section
/-! What the decision, the hold machine, the purge machine and the blower keep (chapter 2, sections 5.5 and 6.10). -/

namespace Sys2Proof.Machine

/-! ### The blower and its demand -/

section
variable {s t : State}

theorem demandDue_congr (parked : t.drive.vehicle = .parked ↔ s.drive.vehicle = .parked)
    (purging : t.policy.purging = s.policy.purging) (mode : t.policy.mode = s.policy.mode)
    (basis : t.policy.basis = s.policy.basis) (comfort : t.policy.comfort = s.policy.comfort) : t.demandDue = s.demandDue := by
  simp only [demandDue_eq, parked, purging, mode, basis, comfort]

/-- A recomputation leaves the demand that is due, whatever the demand was before (R54). -/
theorem recomputeDemand_due (s : State) : DemandDue (recomputeDemand s) := by
  have due : (recomputeDemand s).demandDue = s.demandDue := demandDue_congr (by simp) (by simp) (by simp) (by simp) (by simp)
  rw [DemandDue, due]
  simp

theorem recomputeDemand_notices (h : NoticesSound s) : NoticesSound (recomputeDemand s) := by
  unfold recomputeDemand blowerDemand
  dsimp only
  split
  · exact h
  · split
    · exact raise_sound .blowerFault h
    · exact h

theorem recomputeDemand_applied (h : Applied s) : Applied (recomputeDemand s) :=
  ⟨by rw [recomputeDemand_level h.1]; simp, by simpa using h.2⟩

theorem recomputeDemand_inner (s : State) : Inner s (recomputeDemand s) :=
  { target := .congr (by simp), positions := .congr (by simp) (by simp) (by simp), notices := recomputeDemand_notices,
    applied := recomputeDemand_applied }

theorem withBlower_kept {b : Blower} (level : b.level = s.blower.level) : Kept s (s.withBlower b) :=
  { applied := fun h => by simpa [Applied, level] using h }

theorem stallActs_kept (s : State) : Kept s (stallActs s) := by
  unfold stallActs
  split
  · exact (withBlower_kept (s := s) (b := { s.blower with fault := true }) rfl).trans (raise_kept _ _)
  · exact .refl s

theorem stallAsserted_kept (s : State) : Kept s (stallAsserted s) := by
  unfold stallAsserted
  split
  · exact .refl s
  · exact (withBlower_kept (s := s) (b := { s.blower with stall := true }) rfl).trans (stallActs_kept _)

theorem stallReleased_kept (s : State) : Kept s (stallReleased s) := withBlower_kept rfl

/-! ### The decision -/

/-- A record of the policy that keeps the target a candidate, the applied demand and the comfort level. -/
theorem withPolicy_inner {p : Policy} (target : p.target = s.policy.target) (demand : p.demand = s.policy.demand)
    (comfort : p.comfort = s.policy.comfort) : Inner s (s.withPolicy p) :=
  { target := .congr target, positions := .congr rfl rfl target, applied := .congr rfl demand comfort }

theorem Candidate.isPosition {x : Int} (h : Candidate x) : IsPosition x := by
  simp only [Candidate, List.mem_cons, List.not_mem_nil, or_false] at h
  unfold IsPosition
  omega

/-- A candidate recorded as the target, before the flap is told of it (R30). -/
theorem withTarget_inner {x : Int} {lastChange : Option Nat} (hx : Candidate x) :
    Inner s (s.withPolicy { s.policy with target := x, lastChange := lastChange }) :=
  { target := fun _ => hx, positions := fun h => by
      rw [positions_iff] at h ⊢
      exact ⟨h.1, h.2.1, hx⟩ }

theorem setTarget_inner {x : Int} (hx : Candidate x) (s : State) : Inner s (setTarget x s) := by
  unfold setTarget
  split
  · exact (Kept.refl s).toInner
  · exact (withTarget_inner hx).trans (flapTarget_inner hx.isPosition _)

theorem recordBasis_inner (b : Basis) (s : State) : Inner s (recordBasis b s) := by
  have stored : Inner s (s.withPolicy { s.policy with basis := b }) := withPolicy_inner rfl rfl rfl
  simp only [recordBasis]
  split
  · exact stored.trans (raise_kept _ _).toInner
  · exact stored

theorem setHeld_inner (held : Bool) (s : State) : Inner s (setHeld held s) := withPolicy_inner rfl rfl rfl

theorem applyNow_inner {x : Int} (b : Basis) (hx : Candidate x) (s : State) : Inner s (applyNow x b s) :=
  (recordBasis_inner b s).trans ((setHeld_inner false _).trans (setTarget_inner hx _))

theorem applyDwelled_inner {x : Int} (b : Basis) (hx : Candidate x) (s : State) : Inner s (applyDwelled x b s) := by
  unfold applyDwelled
  split
  · exact applyNow_inner b hx s
  · exact (recordBasis_inner b s).trans (setHeld_inner true _)

theorem fogTest_inner (s : State) : Inner s (fogTest s) := by
  have stored : Inner s (s.withPolicy { s.policy with fogFlag := s.fogHolds }) := withPolicy_inner rfl rfl rfl
  simp only [fogTest]
  split
  · exact stored.trans (raise_kept _ _).toInner
  · exact stored

theorem ceilingTest_inner (s : State) : Inner s (ceilingTest s) := by
  have stored : Inner s (s.withPolicy { s.policy with ceilingFlag := s.ceilingHolds }) := withPolicy_inner rfl rfl rfl
  simp only [ceilingTest]
  split
  · exact stored.trans (raise_kept _ _).toInner
  · exact stored

theorem noteWorkingLookups_kept (s : State) : Kept s (noteWorkingLookups s) :=
  (noteLookup_kept s _ _).trans (noteLookup_kept _ _ _)

theorem autoBelowFog_inner (s : State) : Inner s (autoBelowFog s) := by
  unfold autoBelowFog
  dsimp only
  split
  next => exact applyNow_inner _ (ceilingTarget_candidate _ _) s
  next =>
    split
    next => exact applyNow_inner _ (by simp [Candidate]) s
    next =>
      split
      next => exact applyDwelled_inner _ (by simp [Candidate]) s
      next =>
        split
        next found => exact applyDwelled_inner _ (lowestCandidate_candidate found) s
        next => exact applyDwelled_inner _ (by simp [Candidate]) s

theorem decideByMode_inner (s : State) : Inner s (decideByMode s) := by
  have start : Candidate 1000 := by simp [Candidate]
  unfold decideByMode
  split
  next =>
    split
    · exact applyNow_inner _ start s
    · exact (noteWorkingLookups_kept s).toInner.trans (autoBelowFog_inner _)
  next => exact applyNow_inner _ start s
  next =>
    split
    · exact applyNow_inner _ (by simp [Candidate]) s
    · exact applyNow_inner _ (by simp [Candidate]) s
  next => exact applyNow_inner _ start s

theorem fullDecision_inner (s : State) : Inner s (fullDecision s) := by
  unfold fullDecision
  split
  · exact (Kept.refl s).toInner
  · exact (fogTest_inner s).trans ((decideByMode_inner _).trans (recomputeDemand_inner _))

/-- A full decision that runs leaves the demand due and RECIRC's target one of its own, whatever stood before (R32, R39, R54). -/
theorem fullDecision_due (driving : s.drive.vehicle ≠ .parked) : DemandDue (fullDecision s) := by
  rw [fullDecision_of_not_parked driving]
  exact recomputeDemand_due _

theorem fullDecision_recirc (driving : s.drive.vehicle ≠ .parked) : RecircTarget (fullDecision s) := by
  refine ⟨fun mode => ?_, fun parked => absurd (by simpa using parked) driving⟩
  rw [fullDecision_of_not_parked driving] at mode ⊢
  have target := decideByMode_recirc (s := fogTest s) (by simpa using mode)
  rw [recomputeDemand_policy]
  exact target

theorem fullDecision_kept (s : State) : Kept s (fullDecision s) := by
  by_cases parked : s.drive.vehicle = .parked
  · rw [fullDecision_of_parked parked]
    exact .refl s
  · exact { toInner := fullDecision_inner s, demand := fun _ => fullDecision_due parked,
            recirc := fun _ _ => fullDecision_recirc parked }

theorem applyOverride_inner (s : State) : Inner s (applyOverride s) := by
  have none : Inner s s := (Kept.refl s).toInner
  unfold applyOverride
  split
  next =>
    split
    next => exact applyNow_inner _ (by simp [Candidate]) s
    next =>
      split
      next => exact (noteWorkingLookups_kept s).toInner.trans (applyNow_inner _ (ceilingTarget_candidate _ _) _)
      next => exact none
  next =>
    split
    next => exact applyNow_inner _ (by simp [Candidate]) s
    next => exact none
  next => exact none
  next => exact none

/-- The override check of a driving module; a parked one runs no update (R26, R45). -/
theorem overrideCheck_kept (driving : TimersFollow s → s.drive.vehicle ≠ .parked) : Kept s (overrideCheck s) := by
  have inner : Inner s (overrideCheck s) := (fogTest_inner s).trans ((ceilingTest_inner _).trans
    ((applyOverride_inner _).trans (recomputeDemand_inner _)))
  refine { toInner := inner, demand := fun _ => recomputeDemand_due _, recirc := fun follow held => ?_ }
  refine ⟨fun mode => ?_, fun parked => absurd (by simpa using parked) (driving follow)⟩
  have decides := applyOverride_decides (ceilingTest (fogTest s))
  have target := decides.recirc (by simpa using mode)
  simp only [overrideCheck, recomputeDemand_policy, ceilingTest_policy, fogTest_policy] at target ⊢
  obtain same | candidate := target
  · rw [same]
    exact held.1 (by simpa using mode)
  · exact candidate

/-! ### The hold machine -/

theorem withTimers_inner (x : Timers) : Inner s (s.withTimers x) := {}

/-- The hold machine's move with the timer of its new state (R47, R48). -/
theorem holdMove_kept {h : HoldState} {timer : Option Nat}
    (runs : TimersFollow s → (timer.isSome = true ↔ h = .holding ∨ h = .trailing)) : Kept s (holdMove h timer s) := by
  refine Kept.trans ?_ (fullDecision_kept _)
  exact {
    toInner := (withTimers_inner { s.timers with hold := timer }).trans (withPolicy_inner rfl rfl rfl)
    demand := fun due => due
    timers := fun follow => by
      have ⟨est, dec, ckpt, _, purge, driving⟩ := follow
      exact ⟨est, dec, ckpt, runs follow, purge, driving⟩
    recirc := fun _ h => h }

theorem holdEpisodeOpens_kept (s : State) : Kept s (holdEpisodeOpens s) := by
  unfold holdEpisodeOpens
  split
  · exact holdMove_kept (by simp)
  · exact holdMove_kept (by simp)
  · exact .refl s
  · exact .refl s

theorem holdEpisodeCloses_kept (s : State) : Kept s (holdEpisodeCloses s) := by
  unfold holdEpisodeCloses
  split
  next => exact .refl s
  next =>
    split
    next =>
      split
      · exact holdMove_kept (by simp)
      · exact holdMove_kept (by simp)
    next lapsed =>
      refine holdMove_kept fun ⟨_, _, _, hold, _⟩ => ?_
      simpa [lapsed] using hold
    next => exact .refl s
    next => exact .refl s

theorem holdExpired_kept (s : State) : Kept s (holdExpired s) := by
  have stopped : s.policy.hold = .idle ∨ s.policy.hold = .lapsed → Kept s (s.withTimers { s.timers with hold := none }) :=
    fun off => {
      toInner := withTimers_inner _
      timers := fun ⟨est, dec, ckpt, _, purge, driving⟩ =>
        ⟨est, dec, ckpt, by obtain off | off := off <;> simp [off], purge, driving⟩ }
  unfold holdExpired
  split
  next => exact .refl s
  next =>
    split
    next => exact (raise_kept s _).trans (holdMove_kept (by simp))
    next => exact holdMove_kept (by simp)
    next idle => exact stopped (.inl idle)
    next lapsed => exact stopped (.inr lapsed)

/-! ### The purge machine -/

/-- The purge machine moves with PURGE, and the demand follows (R50 to R52). -/
theorem purgeMove_kept {purging : Bool} {timer : Option Nat} (runs : timer.isSome = true ↔ purging = true)
    (driving : purging = true → s.drive.vehicle ≠ .parked) :
    Kept s (recomputeDemand ((s.withTimers { s.timers with purge := timer }).withPolicy
      { s.policy with purging := purging })) where
  toInner := (withTimers_inner { s.timers with purge := timer }).trans
    ((withPolicy_inner (s := s.withTimers { s.timers with purge := timer }) (p := { s.policy with purging := purging })
      rfl rfl rfl).trans (recomputeDemand_inner _))
  demand := fun _ => recomputeDemand_due _
  timers := fun ⟨est, dec, ckpt, hold, _, _⟩ => by
    refine ⟨by simpa using est, by simpa using dec, by simpa using ckpt, by simpa using hold, ?_, ?_⟩
    · simpa using runs
    · simpa using driving
  recirc := fun _ => .congr (by simp) (by simp) (by simp)

theorem endPurge_kept (s : State) : Kept s (endPurge s) := purgeMove_kept (by simp) (by simp)

theorem startPurge_kept (driving : s.drive.vehicle ≠ .parked) : Kept s (startPurge s) :=
  purgeMove_kept (by simp) fun _ => driving

theorem withOpenSince_kept (x : Option Nat) (s : State) : Kept s (s.withPolicy { s.policy with openSince := x }) :=
  { toInner := withPolicy_inner rfl rfl rfl, demand := id, timers := id, recirc := fun _ => id }

theorem purgeDoorOpened_kept (s : State) : Kept s (purgeDoorOpened s) := by
  have ended : Kept s (if s.policy.purging then endPurge s else s) := by
    split
    · exact endPurge_kept s
    · exact .refl s
  unfold purgeDoorOpened
  dsimp only
  split
  · exact ended
  · exact ended.trans (withOpenSince_kept _ _)

theorem purgeDoorClosed_kept (s : State) : Kept s (purgeDoorClosed s) := by
  unfold purgeDoorClosed
  split
  · exact .refl s
  · refine Kept.trans ?_ (withOpenSince_kept _ _)
    split
    next due =>
      refine startPurge_kept fun parked => ?_
      unfold State.purgeDue at due
      split at due <;> simp [State.isParked, parked] at due
    next => exact .refl s

theorem purgeExpired_kept (s : State) : Kept s (purgeExpired s) := by
  unfold purgeExpired
  split
  · exact .refl s
  · exact endPurge_kept s

theorem purgeCleaning_kept (s : State) : Kept s (purgeCleaning s) := by
  unfold purgeCleaning
  split
  · exact endPurge_kept s
  · exact .refl s

end
end Sys2Proof.Machine
end

section
/-! What the tracker, the sensor channels, the filter account, the doors, the vehicle state and the estimator update keep
(chapters 1, 3, 4, 5 and 7). -/

namespace Sys2Proof.Machine

/-! ### The tracker -/

section
variable {s : State}

theorem withTracker_kept {x : Tracker} (sound : s.tracker.Sound → x.Sound) : Kept s (s.withTracker x) :=
  { episodes := sound }

theorem withTally_kept (x : Tally) (s : State) : Kept s (s.withTally x) := {}

theorem withFilter_kept (x : FilterRecord) (s : State) : Kept s (s.withFilter x) := {}

theorem tallyEpisode_kept (s : State) : Kept s (tallyEpisode s) := by
  unfold tallyEpisode
  split
  · exact withTally_kept _ s
  · exact .refl s

theorem tallyStop_kept (s : State) : Kept s (tallyStop s) := by
  unfold tallyStop
  split
  · exact withTally_kept _ s
  · exact .refl s

theorem tallyUpdate_kept (s : State) : Kept s (tallyUpdate s) := by
  unfold tallyUpdate
  split
  · exact withTally_kept _ s
  · exact .refl s

theorem openEpisode_kept {d : DetectorId} (value v b : Int) (quiet : (s.tracker.detector d).openEpisode = none) :
    Kept s (openEpisode d value v b s) :=
  (withTracker_kept fun h => h.opened _ quiet rfl rfl rfl).trans ((raise_kept _ _).trans ((holdEpisodeOpens_kept _).trans
    (tallyEpisode_kept _)))

theorem closeEpisode_kept (d : DetectorId) (cause : EndCause) (s : State) : Kept s (closeEpisode d cause s) :=
  (withTracker_kept fun h => h.closed d _ s.uptime cause rfl).trans (holdEpisodeCloses_kept _)

theorem setDetector_kept {d : DetectorId} {r : DetectorRecord} (same : r.openEpisode = (s.tracker.detector d).openEpisode) :
    Kept s (s.withTracker (s.tracker.setDetector d r)) := withTracker_kept (.setDetector same)

theorem sampleOpen_kept (d : DetectorId) (value v b : Int) (s : State) : Kept s (sampleOpen d value v b s) := by
  have sampled : ∀ r : DetectorRecord, r.openEpisode = (s.tracker.detector d).openEpisode →
      Kept s (s.withTracker { s.tracker.setDetector d r with
        table := updateRecord d (Episode.sampled value v b) s.tracker.table }) := fun r same =>
    withTracker_kept fun h => by
      simpa using (h.setDetector same).sampled d (Episode.sampled value v b) fun e => ⟨rfl, rfl, rfl⟩
  unfold sampleOpen
  dsimp only
  split
  · refine Kept.trans ?_ (closeEpisode_kept d _ _)
    exact sampled _ rfl
  · exact sampled _ rfl

theorem sampleQuiet_kept {d : DetectorId} (value v b : Int) (quiet : (s.tracker.detector d).openEpisode = none) :
    Kept s (sampleQuiet d value v b s) := by
  unfold sampleQuiet
  dsimp only
  split
  · exact openEpisode_kept value v b quiet
  · exact setDetector_kept rfl

theorem detectorSample_kept (d : DetectorId) (value : Int) (s : State) : Kept s (detectorSample d value s) := by
  unfold detectorSample
  dsimp only
  split
  next => exact setDetector_kept rfl
  next =>
    split
    next quiet => exact sampleQuiet_kept _ _ _ quiet
    next => exact sampleOpen_kept d _ _ _ s

theorem detectorLost_kept (d : DetectorId) (s : State) : Kept s (detectorLost d s) := by
  have unset : Kept s (s.withTracker (s.tracker.setDetector d { s.tracker.detector d with baseline := none })) :=
    setDetector_kept rfl
  unfold detectorLost
  dsimp only
  split
  · exact unset.trans (closeEpisode_kept d _ _)
  · exact unset

/-! ### The channels -/

theorem channels_get_set (cs : Channels) (c c' : Channel) (r : ChannelRecord) :
    (cs.set c r).get c' = if c' = c then r else cs.get c' := by
  cases c <;> cases c' <;> rfl

/-- A channel record that keeps what a sound record has, and what FPOS keeps of it. -/
structure ChannelRecord.Follows (c : Channel) (r r' : ChannelRecord) : Prop where
  sound : r.Sound c → r'.Sound c
  last : r'.lastValue = r.lastValue ∨ (c.range.1 ≤ r'.lastValue ∧ r'.lastValue ≤ c.range.2)
  substitute : c = .fpos → r.substitute = none → r'.substitute = none

theorem setChannel_kept {c : Channel} {r : ChannelRecord} (follows : (s.channels.get c).Follows c r) :
    Kept s (s.setChannel c r) where
  channels h c' := by
    simp only [State.setChannel, State.withChannels_channels, channels_get_set]
    split
    next same => exact same ▸ follows.sound (h c)
    next => exact h c'
  positions h := by
    rw [positions_iff] at h ⊢
    obtain ⟨flap, ⟨last, none⟩, target⟩ := h
    refine ⟨by simpa using flap, ?_, target.congr (by simp)⟩
    have fpos : (s.setChannel c r).channels.fpos = if Channel.fpos = c then r else s.channels.fpos :=
      channels_get_set s.channels c .fpos r
    rw [Channels.FposInRange, fpos]
    split
    next same =>
      subst same
      refine ⟨?_, follows.substitute rfl none⟩
      obtain same | range := follows.last
      · exact same ▸ last
      · exact range
    next => exact ⟨last, none⟩

theorem clamp_range (c : Channel) (x : Int) : c.range.1 ≤ c.clamp x ∧ c.clamp x ≤ c.range.2 :=
  clampInt_le x (by cases c <;> decide)

/-- The record keeps its values and its times; its age runs exactly where its state is not NONE. -/
theorem ChannelRecord.Follows.of_age {c : Channel} {r r' : ChannelRecord} (last : r'.lastValue = r.lastValue)
    (substitute : r'.substitute = r.substitute) (stale : r'.staleTime = r.staleTime) (lost : r'.lostTime = r.lostTime)
    (age : (r.ageMs = none ↔ r.state = .none) → (r'.ageMs = none ↔ r'.state = .none)) : r.Follows c r' where
  sound := fun ⟨range, sub, fpos, times1, times2, times3, times4, running⟩ => by
    refine ⟨last ▸ range, substitute ▸ sub, substitute ▸ fpos, ?_⟩
    rw [stale, lost]
    exact ⟨times1, times2, times3, times4, age running⟩
  last := .inl last
  substitute := fun _ none => substitute.trans none

theorem accepted_follows (c : Channel) (r : ChannelRecord) (x : Int) : r.Follows c (r.accepted (c.clamp x)) where
  sound := fun ⟨_, sub, fpos, times1, times2, times3, times4, _⟩ =>
    ⟨clamp_range c x, sub, fpos, times1, times2, times3, times4, by simp [ChannelRecord.accepted]⟩
  last := .inr (clamp_range c x)
  substitute := fun _ => id

/-! ### The estimator -/

theorem withEst_kept {e : Estimator} (range : EstimatesInRange s → EstimatesInRange (s.withEst e)) : Kept s (s.withEst e) :=
  { estimates := range }

theorem recomputeMargin_kept (s : State) : Kept s (recomputeMargin s) :=
  (noteLookup_kept s _ _).trans ((noteLookup_kept _ _ _).trans
    (Kept.trans (withEst_kept (e := { (noteLookup .stm (s.usable .stm) (noteLookup .ctm (s.usable .ctm) s)).est with
      fogMargin := marginOf (s.usable .stm) (s.usable .ctm) (s.usable .crh) }) id) (deliver_kept _ _ _)))

/-- The gas snap of a sample in OGS's range (R20). -/
theorem gasSnap_kept {v : Int} (low : 0 ≤ v) (high : v ≤ 2000) (s : State) : Kept s (gasSnap v s) := by
  unfold gasSnap
  split
  · refine Kept.trans (withEst_kept fun ⟨epm, _, eco, eah⟩ => ?_) (deliver_kept _ _ _)
    refine ⟨epm, ⟨?_, ?_⟩, eco, eah⟩ <;> simp only [State.withEst_est] <;> omega
  · exact .refl s

theorem consumeSample_kept (c : Channel) (x : Int) (s : State) : Kept s (consumeSample c (c.clamp x) s) := by
  unfold consumeSample
  split
  · exact detectorSample_kept _ _ s
  · have range : (0 : Int) ≤ Channel.ogs.clamp x ∧ Channel.ogs.clamp x ≤ 2000 := clamp_range .ogs x
    exact (detectorSample_kept _ _ s).trans (gasSnap_kept range.1 range.2 _)
  · exact withEst_kept id
  · exact withEst_kept id
  · refine Kept.trans ?_ (recomputeMargin_kept _)
    exact withEst_kept id
  · exact recomputeMargin_kept s
  · exact recomputeMargin_kept s
  all_goals exact .refl s

theorem acceptSample_kept (c : Channel) (raw : Int) (s : State) : Kept s (acceptSample c raw s) := by
  unfold acceptSample
  dsimp only
  refine Kept.trans ?_ ((setChannel_kept (accepted_follows c _ raw)).trans ((consumeSample_kept c raw _).trans (deliver_kept _ _ _)))
  split
  · exact .refl s
  · exact occur_kept s _ _ _

theorem takeSample_kept (c : Channel) (raw : Int) (q : Quality) (s : State) : Kept s (takeSample c raw q s) := by
  unfold takeSample
  dsimp only
  split
  · exact acceptSample_kept c raw s
  · exact setChannel_kept (.of_age rfl rfl rfl rfl id)
  · exact setChannel_kept (.of_age rfl rfl rfl rfl id)

theorem sampleArrives_kept (code : Nat) (raw : Int) (quality : Nat) (s : State) : Kept s (sampleArrives code raw quality s) := by
  unfold sampleArrives
  split
  · exact takeSample_kept _ _ _ s
  · exact .refl s

theorem fposRead_kept (reading : Option Int) (s : State) : Kept s (fposRead reading s) := by
  unfold fposRead
  split
  · exact takeSample_kept _ _ _ s
  · exact takeSample_kept _ _ _ s

/-! ### Ageing -/

theorem consumeLoss_kept (c : Channel) (s : State) : Kept s (consumeLoss c s) := by
  unfold consumeLoss
  split
  · exact detectorLost_kept _ s
  · exact detectorLost_kept _ s
  · exact recomputeMargin_kept s
  · exact recomputeMargin_kept s
  · exact recomputeMargin_kept s
  all_goals exact .refl s

theorem enterLost_kept {c : Channel} (running : (s.channels.get c).ageMs.isSome = true ∨ (s.channels.get c).state ≠ .none) :
    Kept s (enterLost c s) := by
  have lost : Kept s (s.setChannel c { s.channels.get c with state := .lost }) := by
    refine setChannel_kept (.of_age rfl rfl rfl rfl fun ages => iff_of_false ?_ (by simp))
    obtain some | state := running
    · exact Option.isSome_iff_ne_none.mp some
    · exact fun none => state (ages.mp none)
  unfold enterLost
  dsimp only
  exact (lost.trans (raise_kept _ _)).trans ((consumeLoss_kept c _).trans (deliver_kept _ _ _))

theorem lostExpired_kept (c : Channel) (s : State) : Kept s (lostExpired c s) := by
  have lost : (s.channels.get c).state ≠ .none →
      Kept s (enterLost c (s.setChannel c { s.channels.get c with
        ageMs := some ((s.channels.get c).lostTime * 1000) })) := fun state => by
    have aged : Kept s (s.setChannel c { s.channels.get c with ageMs := some ((s.channels.get c).lostTime * 1000) }) :=
      setChannel_kept (.of_age rfl rfl rfl rfl fun _ => iff_of_false (by simp) state)
    refine aged.trans (enterLost_kept (.inl ?_))
    simp [State.setChannel, channels_get_set]
  unfold lostExpired
  dsimp only
  split
  next live => exact lost (by simp [live])
  next stale => exact lost (by simp [stale])
  next => exact .refl s
  next => exact .refl s

theorem staleExpired_kept (c : Channel) (s : State) : Kept s (staleExpired c s) := by
  unfold staleExpired
  dsimp only
  split
  next =>
    split
    · exact lostExpired_kept c s
    · exact setChannel_kept (.of_age rfl rfl rfl rfl fun _ => by simp)
  all_goals exact .refl s

theorem recheckAge_kept (c : Channel) (s : State) : Kept s (recheckAge c s) := by
  have moved : (s.channels.get c).state ≠ .none → ∀ x : ChannelState, x ≠ .none →
      Kept s (s.setChannel c { s.channels.get c with state := x }) := fun state x hx =>
    setChannel_kept (.of_age rfl rfl rfl rfl fun ages => by simpa [hx, state] using ages)
  have rechecked : (s.channels.get c).state ≠ .none →
      Kept s (match (s.channels.get c).stateOfAge with
        | .lost => enterLost c s
        | x => s.setChannel c { s.channels.get c with state := x }) := fun state => by
    split
    · exact enterLost_kept (.inr state)
    · refine moved state _ ?_
      unfold ChannelRecord.stateOfAge
      dsimp only
      split
      · simp
      · split <;> simp
  unfold recheckAge
  dsimp only
  split
  next live => exact rechecked (by simp [live])
  next stale => exact rechecked (by simp [stale])
  all_goals exact .refl s

theorem substituteChanged_kept (c : Channel) (s : State) : Kept s (substituteChanged c s) := by
  unfold substituteChanged
  dsimp only
  refine Kept.trans ?_ (deliver_kept _ _ _)
  split
  · exact recomputeMargin_kept s
  · exact recomputeMargin_kept s
  · exact recomputeMargin_kept s
  all_goals exact .refl s

/-- CHANNEL's store, of a clamped substitute and clamped times (R86, R89). -/
theorem storeChannel_kept {c : Channel} {substitute : Option Int} {stale lost : Nat}
    (sub : ∀ x, substitute = some x → c.range.1 ≤ x ∧ x ≤ c.range.2) (fpos : substitute = none ↔ c = .fpos)
    (times : 1 ≤ stale ∧ stale ≤ 60 ∧ stale ≤ lost ∧ lost ≤ 600) (s : State) : Kept s (storeChannel c substitute stale lost s) := by
  obtain ⟨times1, times2, times3, times4⟩ := times
  have stored : Kept s (s.setChannel c { s.channels.get c with substitute := substitute, staleTime := stale, lostTime := lost }) :=
    setChannel_kept {
      sound := fun ⟨range, _, _, _, _, _, _, ages⟩ => ⟨range, sub, fpos, times1, times2, times3, times4, ages⟩
      last := .inl rfl
      substitute := fun isFpos _ => fpos.mpr isFpos }
  unfold storeChannel
  dsimp only
  split
  · split
    · exact stored
    · exact stored.trans (substituteChanged_kept c _)
  · split
    · exact stored
    · exact stored.trans (recheckAge_kept c _)

/-! ### The filter account -/

theorem raiseFilterState_kept (x : FilterState) (s : State) : Kept s (raiseFilterState x s) := by
  unfold raiseFilterState
  split
  · exact raise_kept s _
  · exact raise_kept s _
  all_goals exact .refl s

theorem captureLoad_kept (s : State) : Kept s (captureLoad s) := by
  unfold captureLoad
  dsimp only
  split
  · exact .refl s
  · split
    · exact withFilter_kept _ s
    · exact (withFilter_kept _ s).trans (raiseFilterState_kept _ _)

theorem setSuspect_kept (s : State) : Kept s (setSuspect s) := (withFilter_kept _ s).trans (raise_kept _ _)

theorem adopt_kept (stored : Snapshot) (s : State) : Kept s (adopt stored s) := by
  have taken := ((withFilter_kept stored.filter s).trans (withTally_kept stored.tally _)).trans
    (raiseFilterState_kept stored.filter.state _)
  unfold adopt
  dsimp only
  split
  · exact taken.trans (raise_kept _ _)
  · exact taken

/-! ### Doors and vehicle state -/

theorem withDrive_inner (d : Drive) (s : State) : Inner s (s.withDrive d) := {}

theorem withDrive_kept {d : Drive} (parked : d.vehicle = .parked ↔ s.drive.vehicle = .parked) : Kept s (s.withDrive d) :=
  { demand := .congr rfl parked, timers := .congr rfl parked rfl rfl, recirc := fun _ => .congr rfl rfl parked }

theorem enterMoving_inner (s : State) : Inner s (enterMoving s) := by
  unfold enterMoving
  dsimp only
  split
  · exact (withDrive_inner _ s).trans (watchStopEnd_kept _).toInner
  · exact withDrive_inner _ s

@[simp] theorem enterMoving_vehicle (s : State) : (enterMoving s).drive.vehicle = .moving := by
  simp only [enterMoving]
  split <;> simp

theorem enterAtStop_inner (s : State) : Inner s (enterAtStop s) := by
  unfold enterAtStop
  dsimp only
  split
  · exact withDrive_inner _ s
  · exact (withDrive_inner _ s).trans (tallyStop_kept _).toInner

@[simp] theorem enterAtStop_vehicle (s : State) : (enterAtStop s).drive.vehicle = .atStop := by
  simp only [enterAtStop]
  split <;> simp

theorem enterStanding_inner (s : State) : Inner s (enterStanding s) := by
  unfold enterStanding setVehicle
  split
  · exact enterAtStop_inner s
  · exact withDrive_inner _ s

theorem enterStanding_driving (s : State) : (enterStanding s).drive.vehicle ≠ .parked := by
  unfold enterStanding setVehicle
  split <;> simp

/-- An entry that leaves the policy and the timers is an event of its own where the truck drives before and after. -/
theorem Inner.kept_of_driving {t : State} (inner : Inner s t) (policy : t.policy = s.policy) (timers : t.timers = s.timers)
    (before : s.drive.vehicle ≠ .parked) (after : t.drive.vehicle ≠ .parked) : Kept s t :=
  have parked : t.drive.vehicle = .parked ↔ s.drive.vehicle = .parked := iff_of_false after before
  { toInner := inner, demand := .congr policy parked, timers := .congr timers parked (by rw [policy]) (by rw [policy])
    recirc := fun _ => .congr (by rw [policy]) (by rw [policy]) parked }

theorem vehicleSpeed_kept (s : State) : Kept s (vehicleSpeed s) := by
  have moving : s.drive.vehicle ≠ .parked → Kept s (enterMoving s) := fun driving =>
    (enterMoving_inner s).kept_of_driving (by simp) (by simp) driving (by simp)
  unfold vehicleSpeed
  split
  next => exact .refl s
  next v =>
    split
    · exact .refl s
    · exact (enterStanding_inner s).kept_of_driving (by simp) (by simp) (by simp [v]) (enterStanding_driving s)
  next v =>
    split
    · exact moving (by simp [v])
    · exact .refl s
  next v =>
    split
    · exact moving (by simp [v])
    · exact .refl s

theorem speedDelivered_kept (old : Nat) (s : State) : Kept s (speedDelivered old s) := by
  unfold speedDelivered
  split
  · exact .refl s
  · exact (vehicleSpeed_kept s).trans (deliver_kept _ _ _)

theorem vehicleDoorOpened_kept (s : State) : Kept s (vehicleDoorOpened s) := by
  unfold vehicleDoorOpened
  split
  next v => exact (enterAtStop_inner s).kept_of_driving (by simp) (by simp) (by simp [v]) (by simp)
  all_goals exact .refl s

@[simp] theorem setDoor_vehicle (d : Drive) (which : Door) (r : DoorRecord) : (d.setDoor which r).vehicle = d.vehicle := by
  cases which <;> rfl

theorem reworkDoor_kept (which : Door) (s : State) : Kept s (reworkDoor which s) := by
  unfold reworkDoor
  dsimp only
  split
  · exact .refl s
  · have turned : Kept s (s.withDrive (s.drive.setDoor which
        { s.drive.door which with isOpen := (s.drive.door which).opens })) := withDrive_kept (by simp)
    split
    · exact turned.trans ((vehicleDoorOpened_kept _).trans (purgeDoorOpened_kept _))
    · exact turned.trans (purgeDoorClosed_kept _)

theorem contactChanged_kept (which : Door) (closed : Bool) (s : State) : Kept s (contactChanged which closed s) := by
  unfold contactChanged
  dsimp only
  split
  · exact .refl s
  · exact withDrive_kept (by simp)

theorem debounceAccepted_kept (which : Door) (s : State) : Kept s (debounceAccepted which s) := by
  unfold debounceAccepted
  dsimp only
  split
  · exact .refl s
  · exact Kept.trans (withDrive_kept (by simp)) (reworkDoor_kept which _)

theorem driveStale_kept (s : State) : Kept s (driveStale s) := by
  unfold driveStale
  split
  · exact withDrive_kept .rfl
  all_goals exact .refl s

theorem driveSilent_kept (s : State) : Kept s (driveSilent s) := by
  have silent : Kept s (speedDelivered s.drive.reportedSpeed (s.withDrive { s.drive with freshness := .silent, ageMs := 30000 })) := by
    refine Kept.trans ?_ (speedDelivered_kept _ _)
    exact withDrive_kept .rfl
  unfold driveSilent
  split
  · exact silent
  · exact silent
  all_goals exact .refl s

/-! ### The leaving of PARKED -/

theorem leaveStanding_inner (s : State) : Inner s (leaveStanding s) := by
  unfold leaveStanding
  dsimp only
  split
  · exact (enterStanding_inner s).trans (enterMoving_inner _)
  · exact enterStanding_inner s

theorem leaveStanding_driving (s : State) : (leaveStanding s).drive.vehicle ≠ .parked := by
  unfold leaveStanding
  dsimp only
  split
  · simp
  · exact enterStanding_driving s

theorem leaveParked_kept (s : State) : Kept s (leaveParked s) := by
  have woken : (estimatorWake (loadPaced (leaveStanding s))).drive.vehicle ≠ .parked := by simpa using leaveStanding_driving s
  have paced : Inner s (loadPaced (leaveStanding s)) := (leaveStanding_inner s).trans (withTimers_inner _)
  have inner : Inner s (estimatorWake (loadPaced (leaveStanding s))) := paced.trans (Kept.toInner (withEst_kept id))
  have driving : (recomputeDemand (estimatorWake (loadPaced (leaveStanding s)))).drive.vehicle ≠ .parked := by simpa using woken
  unfold leaveParked policyWake
  exact {
    toInner := inner.trans ((recomputeDemand_inner _).trans (fullDecision_inner _))
    demand := fun _ => fullDecision_due driving
    timers := fun ⟨_, _, _, hold, purge, _⟩ => (fullDecision_kept _).timers (by
      refine ⟨iff_of_false ?_ driving, iff_of_false ?_ driving, iff_of_false ?_ driving, ?_, ?_, fun _ => driving⟩
      · simp [estimatorWake, loadPaced]
      · simp [estimatorWake, loadPaced]
      · simp [estimatorWake, loadPaced]
      · simpa [estimatorWake, loadPaced] using hold
      · simpa [estimatorWake, loadPaced] using purge)
    recirc := fun _ _ => fullDecision_recirc driving }

theorem takeDrive_kept (speed : Nat) (engine : Engine) (s : State) : Kept s (takeDrive speed engine s) := by
  have stored : Kept s (s.withDrive { s.drive with lastSpeed := speed, engine := some engine, ageMs := 0, freshness := .fresh }) :=
    withDrive_kept .rfl
  unfold takeDrive
  dsimp only
  refine Kept.trans ?_ (speedDelivered_kept _ _)
  split
  · exact stored.trans (leaveParked_kept _)
  · exact stored

end
end Sys2Proof.Machine
end

section
/-! The frame of every reply (R191) and the lengths of their bodies, and what the journal's operations keep. -/

namespace Sys2Proof.Machine

/-! ### The bodies of the replies (section 11.6) -/

section
variable (s : State)

@[simp] theorem bytes16_length (x : Word16) : (bytes16 x).length = 2 := rfl

@[simp] theorem bytes32_length (x : Word32) : (bytes32 x).length = 4 := rfl

@[simp] theorem identBody_length : (identBody s).length = 10 := by simp [identBody]

@[simp] theorem watchSlot_out_length (w : WatchSlot) : w.out.length = 15 := by
  unfold WatchSlot.out
  cases w.firstHit <;> simp

@[simp] theorem watchBody_length : (watchBody s).length = 61 := by simp [watchBody]

@[simp] theorem detail_length (n : Notice) : n.detail.length = 4 := by cases n <;> simp [Notice.detail]

@[simp] theorem noticeBody_length (p : PendingNotice) : (noticeBody p).length = 6 := by simp [noticeBody]

@[simp] theorem conditionRecordBody_length (r : Option ConditionRecord) : (conditionRecordBody r).length = 11 := by
  cases r <;> simp [conditionRecordBody]

@[simp] theorem conditionsBody_length : (conditionsBody s).length = 13 := by simp [conditionsBody]

@[simp] theorem lastChangeBytes_length (x : Option Nat) : (lastChangeBytes x).length = 4 := by
  cases x <;> simp [lastChangeBytes]

@[simp] theorem stateBodyHead_length : (stateBodyHead s).length = 30 := by simp [stateBodyHead]

@[simp] theorem stateBodyTail_length : (stateBodyTail s).length = 32 := by simp [stateBodyTail]

@[simp] theorem stateBody_length : (stateBody s).length = 62 := by simp [stateBody]

@[simp] theorem channelRecord_out_length (r : ChannelRecord) : r.out.length = 6 := by
  simp [ChannelRecord.out, packed14]

@[simp] theorem channelsBody_length : (channelsBody s).length = 62 := by simp [channelsBody, Channel.all]

@[simp] theorem episode_out_length (e : Episode) : e.out.length = 19 := by simp [Episode.out]

theorem episodesBody_length_le (found : List Episode) : (episodesBody found).length ≤ 58 := by
  have three : (found.take 3).length ≤ 3 := List.length_take_le 3 found
  simp [episodesBody, List.length_flatMap]
  omega

@[simp] theorem shiftBody_length (t : Tally) : (shiftBody t).length = 21 := by simp [shiftBody]

end

/-! ### What reports alone may change: notices and replies -/

section
variable {s t u : State}

/-- The notices stay sound, the queue stands and a reply goes out in its frame. -/
structure Reported (s t : State) : Prop where
  notices : NoticesSound s → NoticesSound t := by exact NoticesSound.congr (by simp)
  queue : t.link.queue = s.link.queue := by simp
  framed : ReplyFramed s → ReplyFramed t := by exact ReplyFramed.congr (by simp)

theorem Reported.refl (s : State) : Reported s s := {}

theorem Reported.trans (first : Reported s t) (second : Reported t u) : Reported s u where
  notices := second.notices ∘ first.notices
  queue := second.queue.trans first.queue
  framed := second.framed ∘ first.framed

theorem raise_reported (n : Notice) (s : State) : Reported s (raise n s) := { notices := raise_sound n }

/-- A reply of at most 62 bytes behind its head goes out as R191 frames it. -/
theorem replyFramed_of {kind : Byte} {payload : List Byte} (short : payload.length ≤ 64)
    (sending : s.link.sending = some (.of kind payload)) : ReplyFramed s := by
  intro r going
  obtain rfl : Reply.of kind payload = r := Option.some.inj (sending.symm.trans going)
  refine ⟨short, ?_, rfl, by simp [Reply.frame, bytes16]⟩
  have : (lenByte payload).toNat = payload.length := by simp [lenByte]; omega
  exact this

theorem sendReply_framed (code : Byte) (result : ResultCode) {body : List Byte} (short : body.length ≤ 62) (s : State) :
    ReplyFramed (sendReply code result body s) :=
  replyFramed_of (kind := replyKind code) (payload := result.code :: s.linkStatus :: body)
    (by simp only [List.length_cons]; omega) rfl

theorem sendReply_reported (code : Byte) (result : ResultCode) {body : List Byte} (short : body.length ≤ 62) (s : State) :
    Reported s (sendReply code result body s) :=
  { queue := by rw [sendReply_link], framed := fun _ => sendReply_framed code result short s }

theorem sendReply_kept (code : Byte) (result : ResultCode) {body : List Byte} (short : body.length ≤ 62) (s : State) :
    Kept s (sendReply code result body s) :=
  { queue := fun h => by rwa [sendReply_link], framed := fun _ => sendReply_framed code result short s }

theorem releasePark_reported (s : State) : Reported s (releasePark s) := sendReply_reported _ _ (by simp) s

theorem releaseRestart_reported (s : State) : Reported s (releaseRestart s) := sendReply_reported _ _ (by simp) s

/-! ### What the journal reports -/

theorem withJournal_reported (j : Journal) (s : State) : Reported s (s.withJournal j) := {}

theorem withFlash_reported (f : Flash) (s : State) : Reported s (s.withFlash f) := {}

theorem enterFailed_reported (s : State) : Reported s (enterFailed s) := by
  have failed := (withJournal_reported { s.journal with
    state := .failed, write := none, pendingWrite := none, restartWaiting := false } s).trans (raise_reported .journalFail _)
  unfold enterFailed
  dsimp only
  split
  · split
    · exact failed.trans ((releasePark_reported _).trans (releaseRestart_reported _))
    · exact failed.trans (releaseRestart_reported _)
  · split
    · exact failed.trans (releasePark_reported _)
    · exact failed

theorem beginProgram_reported (w : WriteInFlight) (sector slot : Nat) (s : State) :
    Reported s (beginProgram w sector slot s) := by
  unfold beginProgram
  dsimp only
  split
  · exact (withJournal_reported _ s).trans (enterFailed_reported _)
  · exact withJournal_reported _ s

theorem chooseSector_reported (w : WriteInFlight) (order : List Nat) (s : State) : Reported s (chooseSector w order s) := by
  unfold chooseSector
  split
  · exact withJournal_reported _ s
  · exact (withJournal_reported _ s).trans (enterFailed_reported _)

theorem switchSector_reported (w : WriteInFlight) (s : State) : Reported s (switchSector w s) := by
  unfold switchSector
  dsimp only
  split
  · exact (withJournal_reported _ s).trans (enterFailed_reported _)
  · exact (withJournal_reported _ s).trans (chooseSector_reported _ _ _)

theorem seekTarget_reported (w : WriteInFlight) (s : State) : Reported s (seekTarget w s) := by
  unfold seekTarget
  split
  · exact switchSector_reported w s
  · split
    · exact beginProgram_reported w _ _ s
    · exact switchSector_reported w s

theorem trigger_reported (kind : RecordKind) (parkOwed : Bool) (s : State) : Reported s (trigger kind parkOwed s) := by
  unfold trigger startWrite
  split
  next => exact .refl s
  next =>
    split
    next => exact .refl s
    next =>
      split
      · exact releasePark_reported s
      · exact .refl s
    next =>
      split
      · exact seekTarget_reported _ s
      · exact withJournal_reported _ s

theorem erasePassed_reported (s : State) : Reported s (erasePassed s) := by
  unfold erasePassed
  split
  next =>
    split
    · exact ((withFlash_reported _ s).trans (withJournal_reported _ _)).trans (beginProgram_reported _ _ _ _)
    · exact .refl s
  next => exact .refl s

theorem eraseFailed_reported (left : List SlotOutcome) (s : State) : Reported s (eraseFailed left s) := by
  unfold eraseFailed
  split
  next =>
    split
    next =>
      dsimp only
      split
      · exact ((withFlash_reported _ s).trans (withJournal_reported _ _)).trans (enterFailed_reported _)
      · exact ((withFlash_reported _ s).trans (withJournal_reported _ _)).trans (chooseSector_reported _ _ _)
    next => exact .refl s
  next => exact .refl s

theorem startPending_reported (s : State) : Reported s (startPending s) := by
  unfold startPending startWrite
  split
  · exact (withJournal_reported _ s).trans (seekTarget_reported _ _)
  · exact .refl s

theorem releaseWaiting_reported (s : State) : Reported s (releaseWaiting s) := by
  unfold releaseWaiting
  split
  · exact (withJournal_reported _ s).trans (releaseRestart_reported _)
  · exact .refl s

theorem programPassed_reported (s : State) : Reported s (programPassed s) := by
  unfold programPassed
  split
  next =>
    split
    next =>
      dsimp only
      refine Reported.trans ?_ ((startPending_reported _).trans (releaseWaiting_reported _))
      split
      · exact ((withFlash_reported _ s).trans (withJournal_reported _ _)).trans (releasePark_reported _)
      · exact (withFlash_reported _ s).trans (withJournal_reported _ _)
    next => exact .refl s
  next => exact .refl s

theorem programFailed_reported (left : SlotOutcome) (s : State) : Reported s (programFailed left s) := by
  unfold programFailed
  split
  next =>
    split
    · exact ((withFlash_reported _ s).trans (withJournal_reported _ _)).trans (seekTarget_reported _ _)
    · exact .refl s
  next => exact .refl s

/-! ### What the journal's events keep -/

/-- An event that works on the journal, the flash and the filter account, and reports. -/
theorem Kept.of_journal (journal : JournalSound s → JournalSound t) (reported : Reported s t)
    (same : t.est = s.est ∧ t.policy = s.policy ∧ t.tracker = s.tracker ∧ t.channels = s.channels ∧ t.drive = s.drive
      ∧ t.timers = s.timers ∧ t.flap = s.flap ∧ t.blower = s.blower) : Kept s t := by
  obtain ⟨est, policy, tracker, channels, drive, timers, flap, blower⟩ := same
  have parked : t.drive.vehicle = .parked ↔ s.drive.vehicle = .parked := by rw [drive]
  exact {
    estimates := .congr est, target := .congr (by rw [policy]), channels := .congr channels
    positions := .congr flap channels (by rw [policy]), episodes := .congr tracker, notices := reported.notices
    queue := by rw [reported.queue]; exact id
    framed := reported.framed, flap := .congr flap, journal := journal, applied := .congr blower (by rw [policy]) (by rw [policy])
    stands := .of_state (by rw [flap]) (by rw [flap])
    demand := .congr policy parked, timers := .congr timers parked (by rw [policy]) (by rw [policy])
    recirc := fun _ => .congr (by rw [policy]) (by rw [policy]) parked }

theorem trigger_kept (kind : RecordKind) (parkOwed : Bool) (s : State) : Kept s (trigger kind parkOwed s) :=
  .of_journal (trigger_sound kind parkOwed) (trigger_reported kind parkOwed s) (by simp)

theorem erasePassed_kept (s : State) : Kept s (erasePassed s) := .of_journal erasePassed_sound (erasePassed_reported s) (by simp)

theorem eraseFailed_kept (left : List SlotOutcome) (s : State) : Kept s (eraseFailed left s) :=
  .of_journal (eraseFailed_sound left) (eraseFailed_reported left s) (by simp)

theorem programPassed_kept (s : State) : Kept s (programPassed s) :=
  .of_journal programPassed_sound (programPassed_reported s) (by simp)

theorem programFailed_kept (left : SlotOutcome) (s : State) : Kept s (programFailed left s) :=
  .of_journal (programFailed_sound left) (programFailed_reported left s) (by simp)

/-- The scan's end: the adopted record comes with its notices (R151, R165). -/
theorem endScan_kept (scanning : s.journal.state = .scanning) : Kept s (endScan s) := by
  have adopted : ∀ x : Found, Reported s (adoptFound x s) := fun x =>
    { notices := fun h => (adopt_kept x.stored.content _).notices (withJournal_reported _ s |>.notices h)
      queue := by simp
      framed := .congr (by simp) }
  refine .of_journal (fun h => endScan_sound h scanning) ?_ (by simp)
  unfold endScan
  dsimp only
  split
  · exact (adopted _).trans (withJournal_reported _ _)
  · exact withJournal_reported _ s

end
end Sys2Proof.Machine
end

section
/-! What the estimator update, the requests, the link port, the resets and a millisecond keep, and with them every step. -/

namespace Sys2Proof.Machine

section
variable {s t : State}

/-! ### The estimator update -/

theorem noteZeroFlow_kept (s : State) : Kept s (noteZeroFlow s) := by
  unfold noteZeroFlow
  split
  · exact occur_kept s _ _ _
  · exact .refl s

theorem noteSubstituted_kept (c : Channel) (s : State) : Kept s (noteSubstituted c s) := by
  unfold noteSubstituted
  split
  · exact occur_kept s _ _ _
  · exact .refl s

theorem noteCtmLookup_kept (s : State) : Kept s (noteCtmLookup s) := by
  unfold noteCtmLookup
  split
  · exact noteLookup_kept s _ _
  · exact .refl s

theorem noteDiverged_kept (q : Quantity) (count : Nat) (diff : Int) (s : State) : Kept s (noteDiverged q count diff s) := by
  unfold noteDiverged
  split
  · exact occur_kept s _ _ _
  · exact .refl s

theorem noteSaturated_kept (q : Quantity) (lo hi v : Int) (s : State) : Kept s (noteSaturated q lo hi v s) := by
  unfold noteSaturated
  split
  · exact occur_kept s _ _ _
  · exact .refl s

theorem noteSuspect_kept (n : Counts) (s : State) : Kept s (noteSuspect n s) := by
  unfold noteSuspect
  split
  · exact setSuspect_kept s
  · exact .refl s

theorem noteInputs_kept (s : State) : Kept s (noteInputs s) := by
  refine Kept.trans ?_ ((noteLookup_kept _ .otm (s.usable .otm)).trans (noteCtmLookup_kept _))
  exact (noteZeroFlow_kept s).trans ((noteSubstituted_kept .opm _).trans ((noteSubstituted_kept .ogs _).trans
    ((noteSubstituted_kept .orh _).trans (noteSubstituted_kept .otm _))))

theorem noteDivergences_kept (s t : State) : Kept t (noteDivergences s t) :=
  (noteDiverged_kept _ _ _ t).trans ((noteSuspect_kept _ _).trans ((noteDiverged_kept _ _ _ _).trans (noteDiverged_kept _ _ _ _)))

theorem noteSaturations_kept (s t : State) : Kept t (noteSaturations s t) :=
  (noteSaturated_kept .epm _ _ _ t).trans ((noteSaturated_kept .egs _ _ _ _).trans ((noteSaturated_kept .eco _ _ _ _).trans
    (noteSaturated_kept .eah _ _ _ _)))

/-- An update publishes estimates within their ranges (R17). -/
theorem updated_inRange (s t : State) : EstimatesInRange (t.withEst s.updated) :=
  ⟨clampInt_le _ (by decide), clampInt_le _ (by decide), clampInt_le _ (by decide), clampInt_le _ (by decide)⟩

theorem runStages_kept (s : State) : Kept s (runStages s) := by
  refine Kept.trans ?_ (withEst_kept fun _ => updated_inRange s _)
  exact (noteInputs_kept s).trans ((noteDivergences_kept s _).trans (noteSaturations_kept s _))

theorem deliverEstimates_kept (s : State) : Kept s (deliverEstimates s) :=
  (deliver_kept s _ _).trans ((deliver_kept _ _ _).trans ((deliver_kept _ _ _).trans (deliver_kept _ _ _)))

/-- A timer that ran and runs on, in EST, DEC or CKPT. -/
theorem withTimers_kept {x : Timers} (est : x.est = none ↔ s.timers.est = none) (dec : x.dec = none ↔ s.timers.dec = none)
    (ckpt : x.ckpt = none ↔ s.timers.ckpt = none) (hold : x.hold = s.timers.hold) (purge : x.purge = s.timers.purge) :
    Kept s (s.withTimers x) :=
  { timers := fun h => by simpa [TimersFollow, est, dec, ckpt, hold, purge] using h }

theorem ckptFires_kept (running : s.timers.ckpt.isSome = true) : Kept s (ckptFires s) := by
  have loaded : Kept s (s.withTimers { s.timers with ckpt := some s.journal.checkpointInterval }) :=
    withTimers_kept .rfl .rfl (iff_of_false (by simp) (Option.isSome_iff_ne_none.mp running)) rfl rfl
  exact loaded.trans (trigger_kept _ _ _)

theorem ckptCounts_kept (s : State) : Kept s (ckptCounts s) := by
  unfold ckptCounts
  split
  next => exact .refl s
  next running =>
    split
    · exact ckptFires_kept (by simp [running])
    · exact withTimers_kept .rfl .rfl (by simp [running]) rfl rfl

theorem completeUpdate_kept (running : s.timers.est ≠ none) : Kept s (completeUpdate s) := by
  have counted : Kept s (tallyUpdate (captureLoad s)) := (captureLoad_kept s).trans (tallyUpdate_kept _)
  have checked : Kept (tallyUpdate (captureLoad s)) (overrideCheck (tallyUpdate (captureLoad s))) :=
    overrideCheck_kept fun ⟨est, _⟩ parked => running (by simpa using est.mpr parked)
  exact counted.trans (checked.trans ((purgeCleaning_kept _).trans ((deliverEstimates_kept _).trans (ckptCounts_kept _))))

theorem estExpired_kept (s : State) : Kept s (estExpired s) := by
  unfold estExpired
  split
  next => exact .refl s
  next running =>
    have loaded : Kept s (s.withTimers { s.timers with est := some 1000 }) :=
      withTimers_kept (iff_of_false (by simp) (by simpa using running)) .rfl .rfl rfl rfl
    exact loaded.trans ((runStages_kept _).trans (completeUpdate_kept (by simp)))

theorem decExpired_kept (s : State) : Kept s (decExpired s) := by
  unfold decExpired
  split
  next => exact .refl s
  next running =>
    have loaded : Kept s (s.withTimers { s.timers with dec := some (s.policy.limits.decisionPeriod * 1000) }) :=
      withTimers_kept .rfl (iff_of_false (by simp) (by simpa using running)) .rfl rfl rfl
    exact loaded.trans (fullDecision_kept _)

theorem ckptExpired_kept (s : State) : Kept s (ckptExpired s) := by
  unfold ckptExpired
  split
  next => exact .refl s
  next running => exact ckptFires_kept (by simpa [Option.isSome_iff_ne_none] using running)

/-! ### PARK -/

theorem withLink_kept {l : Link} (queue : l.queue.length ≤ s.link.queue.length ∨ l.queue.length ≤ 2)
    (sending : l.sending = s.link.sending ∨ l.sending = none) : Kept s (s.withLink l) where
  queue h := by
    rw [State.withLink_link]
    omega
  framed h := by
    obtain same | none := sending
    · exact ReplyFramed.congr same h
    · exact fun r going => by simp [none] at going

theorem policyPark_kept (parked : s.drive.vehicle = .parked)
    (paced : s.timers.est = none ∧ s.timers.dec = none ∧ s.timers.ckpt = none) :
    Inner s (policyPark s) ∧ DemandDue (policyPark s) ∧ RecircTarget (policyPark s)
      ∧ ((s.timers.hold.isSome = true ↔ s.policy.hold = .holding ∨ s.policy.hold = .trailing) → TimersFollow (policyPark s)) := by
  obtain ⟨est, dec, ckpt⟩ := paced
  have stopped : Inner (applyNow 1000 .parked s) ((applyNow 1000 .parked s).withPolicy
      { (applyNow 1000 .parked s).policy with fogFlag := false, purging := false }) := withPolicy_inner rfl rfl rfl
  unfold policyPark
  dsimp only
  refine ⟨?_, recomputeDemand_due _, ⟨fun _ => ?_, fun _ => ?_⟩, fun hold => ?_⟩
  · refine (applyNow_inner .parked (by simp [Candidate]) s).trans (stopped.trans ?_)
    exact (withTimers_inner _).trans (recomputeDemand_inner _)
  · simp
  · simp
  · simpa [TimersFollow, parked, est, dec, ckpt] using hold

theorem takePark_kept (s : State) : Kept s (takePark s) := by
  unfold takePark
  refine Kept.trans ?_ (trigger_kept _ _ _)
  have held : Kept s (s.withLink { s.link with holding := true }) := withLink_kept (.inl le_rfl) (.inl rfl)
  refine held.trans ?_
  obtain ⟨inner, due, recirc, follow⟩ := policyPark_kept
    (s := stopPaced (setVehicle .parked (s.withLink { s.link with holding := true })))
    (by simp [stopPaced, setVehicle]) (by simp [stopPaced])
  exact {
    toInner := ((withDrive_inner _ _).trans (withTimers_inner _)).trans inner
    demand := fun _ => due
    timers := fun ⟨_, _, _, hold, _⟩ => follow (by simpa [stopPaced, setVehicle] using hold)
    recirc := fun _ _ => recirc }

/-! ### The settings a request stores -/

theorem takeMode_kept (m : PolicyMode) (s : State) : Kept s (takeMode m s) := by
  have stored : Inner s (recomputeDemand (s.withPolicy { s.policy with mode := m })) := by
    refine Inner.trans ?_ (recomputeDemand_inner _)
    exact withPolicy_inner rfl rfl rfl
  unfold takeMode
  split
  · exact .refl s
  · by_cases parked : s.drive.vehicle = .parked
    · rw [fullDecision_of_parked (by simpa using parked)]
      exact {
        toInner := stored, demand := fun _ => recomputeDemand_due _
        timers := .congr (by simp) (by simp) (by simp) (by simp)
        recirc := fun _ held => by
          have target : s.policy.target = 1000 := held.2 parked
          simp [RecircTarget, target] }
    · exact {
        toInner := stored.trans (fullDecision_inner _), demand := fun _ => fullDecision_due (by simpa using parked)
        timers := .congr (by simp) (by simp) (by simp) (by simp)
        recirc := fun _ _ => fullDecision_recirc (by simpa using parked) }

theorem takeComfort_kept {level : Nat} (range : level ≤ 7) (s : State) : Kept s (takeComfort level s) where
  target := .congr (by simp [takeComfort])
  positions := .congr (by simp) (by simp) (by simp [takeComfort])
  notices := fun h => recomputeDemand_notices (s := s.withPolicy { s.policy with comfort := level }) h
  applied := fun ⟨same, _⟩ =>
    recomputeDemand_applied (s := s.withPolicy { s.policy with comfort := level }) ⟨same, range⟩
  demand := fun _ => recomputeDemand_due _
  timers := .congr (by simp) (by simp) (by simp [takeComfort]) (by simp [takeComfort])
  recirc := fun _ => .congr (by simp [takeComfort]) (by simp [takeComfort]) (by simp)

theorem storeLimits_kept (l : Limits) (s : State) : Kept s (storeLimits l s) := by
  have stored : Kept s (s.withPolicy { s.policy with limits := l }) :=
    { toInner := withPolicy_inner rfl rfl rfl, demand := id, timers := id, recirc := fun _ => id }
  unfold storeLimits
  dsimp only
  split
  next running =>
    refine stored.trans (withTimers_kept .rfl (iff_of_false (by simp) ?_) .rfl rfl rfl)
    simpa [Option.isSome_iff_ne_none] using running
  next => exact stored

theorem storeCabin_kept (c : CabinSettings) (drv krb : Polarity) (s : State) : Kept s (storeCabin c drv krb s) := by
  refine Kept.trans (t := s.withEst { s.est with cabin := c }) (withEst_kept id) (withDrive_kept ?_)
  simp

theorem cabinEffects_kept (order : Nat) (s : State) : Kept s (cabinEffects order s) := by
  unfold cabinEffects
  split
  · exact (reworkDoor_kept _ s).trans ((reworkDoor_kept _ _).trans (fullDecision_kept _))
  · exact (reworkDoor_kept _ s).trans ((reworkDoor_kept _ _).trans (fullDecision_kept _))
  · exact (reworkDoor_kept _ s).trans ((fullDecision_kept _).trans (reworkDoor_kept _ _))
  · exact (reworkDoor_kept _ s).trans ((fullDecision_kept _).trans (reworkDoor_kept _ _))
  · exact (fullDecision_kept s).trans ((reworkDoor_kept _ _).trans (reworkDoor_kept _ _))
  · exact (fullDecision_kept s).trans ((reworkDoor_kept _ _).trans (reworkDoor_kept _ _))

theorem withFreeCount_kept (n : Nat) (s : State) : Kept s (s.withFreeCount n) := {}

theorem takeCabin_kept (c : CabinSettings) (drv krb : Polarity) (s : State) : Kept s (takeCabin c drv krb s) :=
  (storeCabin_kept c drv krb s).trans ((withFreeCount_kept _ _).trans (cabinEffects_kept _ _))

theorem withNotices_kept {u : Notices} (sound : NoticesSound s → NoticesSound (s.withNotices u)) :
    Kept s (s.withNotices u) := { notices := sound }

/-- Masks or pending notices worked anew, the pending ones a part of those there were (R183, R185). -/
theorem update_kept (masked : List NoticeKind) {pending : List PendingNotice} (part : pending.Sublist s.notices.pending) :
    Kept s (s.withNotices (s.notices.update masked pending)) :=
  withNotices_kept fun ⟨sorted, _⟩ => ⟨sorted.sublist part, attentionDue_iff _ _⟩

theorem clearSlots_kept (l : List SlotNumber) (s : State) : Kept s (clearSlots l s) := by
  induction l generalizing s with
  | nil => exact .refl s
  | cons n l ih => exact (clearSlot_kept s n).trans (ih _)

/-- A journal record changed in none of what its soundness reads but the RESTART that waits. -/
theorem withJournal_kept {j : Journal} (same : j.activeSector = s.journal.activeSector ∧ j.nextSequence = s.journal.nextSequence
      ∧ j.newest = s.journal.newest ∧ j.state = s.journal.state ∧ j.write = s.journal.write ∧ j.retired = s.journal.retired
      ∧ j.pendingWrite = s.journal.pendingWrite)
    (waits : j.write = none → j.restartWaiting = s.journal.restartWaiting) : Kept s (s.withJournal j) := by
  obtain ⟨active, next, newest, state, write, retired, pending⟩ := same
  refine .of_journal (fun h => ?_) (withJournal_reported j s) (by simp)
  obtain ⟨onlyReady, phase, quiet⟩ := h.writes
  refine .of_parts (h.settled.congr active next newest) ⟨by simpa [state, write] using onlyReady, fun w hw => ?_, fun ended => ?_⟩
  · have sound := phase w (write ▸ hw)
    cases hp : w.phase <;> simpa [hp, WritePhase.Sound, retired, active, newest] using sound
  · obtain ⟨nothing, calm⟩ := quiet (write ▸ ended)
    exact ⟨pending.trans nothing, (waits ended).trans calm⟩

/-! ### The requests -/

theorem serveIdent_kept (interval : Option Word16) (s : State) : Kept s (serveIdent interval s) := by
  unfold serveIdent
  split
  · exact sendReply_kept _ _ (by simp) s
  · refine Kept.trans ?_ (sendReply_kept _ _ (by simp) _)
    exact withJournal_kept (by simp) (by simp)

theorem serveCabin_kept (f : CabinFields) (s : State) : Kept s (serveCabin f s) := by
  unfold serveCabin
  split
  · exact (takeCabin_kept _ _ _ s).trans (sendReply_kept _ _ (by simp) _)
  · exact sendReply_kept _ _ (by simp) s

theorem serveLimits_kept (f : LimitsFields) (s : State) : Kept s (serveLimits f s) := by
  unfold serveLimits takeLimits
  dsimp only
  split
  · exact sendReply_kept _ _ (by simp) s
  · exact ((storeLimits_kept _ s).trans (fullDecision_kept _)).trans (sendReply_kept _ _ (by simp) _)

theorem serveMode_kept (m : Byte) (s : State) : Kept s (serveMode m s) := by
  unfold serveMode
  split
  · exact (takeMode_kept _ s).trans (sendReply_kept _ _ (by simp) _)
  · exact sendReply_kept _ _ (by simp) s

theorem field_le {w lo hi : Nat} (x : BitVec w) (h : lo ≤ hi) : lo ≤ field lo hi x ∧ field lo hi x ≤ hi := by
  rw [field_eq x h]
  exact toRange_le _ h

theorem serveComfort_kept (level : Byte) (s : State) : Kept s (serveComfort level s) :=
  (takeComfort_kept (field_le level (by decide)).2 s).trans (sendReply_kept _ _ (by simp) _)

theorem serveDrive_kept (speed : Word16) (engine : Byte) (s : State) : Kept s (serveDrive speed engine s) := by
  unfold serveDrive
  split
  · exact (takeDrive_kept _ _ s).trans (sendReply_kept _ _ (by simp) _)
  · exact sendReply_kept _ _ (by simp) s

theorem substituteOf_range {c : Channel} {x : Word16} {v : Int} (h : substituteOf c x = some v) :
    c.range.1 ≤ v ∧ v ≤ c.range.2 := by
  have clamped : c.clamp x.toInt = v := by cases c <;> simp_all [substituteOf]
  exact clamped ▸ clamp_range c x.toInt

theorem substituteOf_none (c : Channel) (x : Word16) : substituteOf c x = none ↔ c = .fpos := by
  cases c <;> simp [substituteOf]

theorem serveChannel_kept (f : ChannelFields) (s : State) : Kept s (serveChannel f s) := by
  unfold serveChannel
  split
  next c _ =>
    obtain ⟨stale1, stale2⟩ := field_le (lo := 1) (hi := 60) f.staleTime (by decide)
    obtain ⟨lost1, lost2⟩ := field_le (lo := field 1 60 f.staleTime) (hi := 600) f.lostTime (by omega)
    refine Kept.trans ?_ (sendReply_kept _ _ (by simp) _)
    exact storeChannel_kept (fun v => substituteOf_range) (substituteOf_none c _) ⟨stale1, stale2, lost1, lost2⟩ s
  next => exact sendReply_kept _ _ (by simp) s

theorem serveDetector_kept (f : DetectorFields) (s : State) : Kept s (serveDetector f s) := by
  unfold serveDetector storeDetector
  split
  · refine Kept.trans ?_ (sendReply_kept _ _ (by simp) _)
    exact setDetector_kept rfl
  · exact sendReply_kept _ _ (by simp) s

theorem serveActuator_kept (f : ActuatorFields) (s : State) : Kept s (serveActuator f s) := by
  unfold serveActuator
  split
  next => exact sendReply_kept _ _ (by simp) s
  next =>
    split
    next => exact sendReply_kept _ _ (by simp) s
    next still =>
      obtain ⟨notMoving, notHoming⟩ := not_or.mp still
      exact (storeActuator_kept _ _ _ notMoving notHoming).trans (sendReply_kept _ _ (by simp) _)

theorem serveFlapRecover_kept (s : State) : Kept s (serveFlapRecover s) := by
  unfold serveFlapRecover
  split
  next taken => exact (startHoming_kept taken.1 taken.2).trans (sendReply_kept _ _ (by simp) _)
  next => exact sendReply_kept _ _ (by simp) s

theorem serveFilterFit_kept (f : FilterFitFields) (s : State) : Kept s (serveFilterFit f s) := by
  unfold serveFilterFit
  split
  · exact (withFilter_kept _ s).trans ((trigger_kept _ _ _).trans (sendReply_kept _ _ (by simp) _))
  · exact sendReply_kept _ _ (by simp) s

theorem serveWatchSet_kept (f : WatchSetFields) (s : State) : Kept s (serveWatchSet f s) := by
  unfold serveWatchSet
  split
  · exact (writeSlot_kept s _ _).trans (sendReply_kept _ _ (by simp) _)
  · exact sendReply_kept _ _ (by simp) s

theorem serveWatchClear_kept (slots : Byte) (s : State) : Kept s (serveWatchClear slots s) := by
  unfold serveWatchClear
  split
  · exact sendReply_kept _ _ (by simp) s
  · exact (clearSlots_kept _ s).trans (sendReply_kept _ _ (by simp) _)

theorem serveNoticeFetch_kept (includeMasked : Byte) (s : State) : Kept s (serveNoticeFetch includeMasked s) := by
  unfold serveNoticeFetch fetchNotice
  split
  next =>
    split
    · exact (update_kept _ List.filter_sublist).trans (sendReply_kept _ _ (by simp) _)
    · exact sendReply_kept _ _ (by simp) s
  next => exact sendReply_kept _ _ (by simp) s

theorem serveNoticeMask_kept (kinds : Word16) (s : State) : Kept s (serveNoticeMask kinds s) := by
  unfold serveNoticeMask
  split
  · exact sendReply_kept _ _ (by simp) s
  · exact (update_kept _ (.refl _)).trans (sendReply_kept _ _ (by simp) _)

theorem maskConditions_kept (masks : Option Byte) (s : State) : Kept s (maskConditions masks s) := by
  unfold maskConditions
  split
  · exact .refl s
  · exact withNotices_kept id

theorem clearConditions_kept (clear : Bool) (s : State) : Kept s (clearConditions clear s) := by
  unfold clearConditions
  split
  · exact withNotices_kept id
  · exact .refl s

theorem serveConditions_kept (clear : Byte) (masks : Option Byte) (s : State) : Kept s (serveConditions clear masks s) := by
  unfold serveConditions
  split
  · exact (maskConditions_kept masks s).trans ((clearConditions_kept _ _).trans (sendReply_kept _ _ (by simp) _))
  · exact sendReply_kept _ _ (by simp) s

theorem serveEpisodes_kept (fromNumber : Word16) (s : State) : Kept s (serveEpisodes fromNumber s) :=
  sendReply_kept _ _ ((episodesBody_length_le _).trans (by decide)) s

theorem shiftStart_kept (s : State) : Kept s (shiftStart s) := by
  unfold shiftStart
  split
  · exact sendReply_kept _ _ (by simp) s
  · exact (withTally_kept _ s).trans (sendReply_kept _ _ (by simp) _)

theorem shiftEnd_kept (s : State) : Kept s (shiftEnd s) := by
  unfold shiftEnd
  split
  · exact (withTally_kept _ s).trans (sendReply_kept _ _ (by simp) _)
  · exact sendReply_kept _ _ (by simp) s

theorem serveShift_kept (action : Byte) (s : State) : Kept s (serveShift action s) := by
  unfold serveShift
  split
  · exact shiftStart_kept s
  · exact shiftEnd_kept s
  · exact sendReply_kept _ _ (by simp) s
  · exact sendReply_kept _ _ (by simp) s

theorem servePark_kept (s : State) : Kept s (servePark s) := by
  unfold servePark
  split
  · exact sendReply_kept _ _ (by simp) s
  · exact takePark_kept s

theorem serveWake_kept (s : State) : Kept s (serveWake s) := by
  unfold serveWake
  split
  · exact (leaveParked_kept s).trans (sendReply_kept _ _ (by simp) _)
  · exact sendReply_kept _ _ (by simp) s

theorem serveRestart_kept (s : State) : Kept s (serveRestart s) := by
  unfold serveRestart
  split
  next => exact sendReply_kept _ _ (by simp) s
  next held =>
    have writing : s.journal.write ≠ none := fun ended => held (by simp [Journal.releasesRestart, ended])
    refine Kept.trans (t := s.withLink { s.link with holding := true }) (withLink_kept (.inl le_rfl) (.inl rfl)) ?_
    exact withJournal_kept (by simp) fun ended => absurd ended writing

theorem serveRequest_kept (r : Request) (s : State) : Kept s (serveRequest r s) := by
  cases r with
  | unknown k => exact sendReply_kept _ _ (by simp) s
  | badLength k => exact sendReply_kept _ _ (by simp) s
  | ident x => exact serveIdent_kept x s
  | cabin f => exact serveCabin_kept f s
  | limits f => exact serveLimits_kept f s
  | mode m => exact serveMode_kept m s
  | comfort c => exact serveComfort_kept c s
  | drive v e => exact serveDrive_kept v e s
  | channel f => exact serveChannel_kept f s
  | detector f => exact serveDetector_kept f s
  | actuator f => exact serveActuator_kept f s
  | flapRecover => exact serveFlapRecover_kept s
  | filterFit f => exact serveFilterFit_kept f s
  | filterRead => exact sendReply_kept _ _ (by rw [filterBody_length]; decide) s
  | watchSet f => exact serveWatchSet_kept f s
  | watchRead => exact sendReply_kept _ _ (by simp) s
  | watchClear n => exact serveWatchClear_kept n s
  | noticeFetch f => exact serveNoticeFetch_kept f s
  | noticeMask k => exact serveNoticeMask_kept k s
  | conditions c m => exact serveConditions_kept c m s
  | stateRead => exact sendReply_kept _ _ (by simp) s
  | channels => exact sendReply_kept _ _ (by simp) s
  | episodes g => exact serveEpisodes_kept g s
  | shift a => exact serveShift_kept a s
  | park => exact servePark_kept s
  | wake => exact serveWake_kept s
  | restart => exact serveRestart_kept s

/-! ### The link port -/

theorem serveHead_kept (s : State) : Kept s (serveHead s) := by
  unfold serveHead
  split
  · split
    · exact serveRequest_kept _ s
    · exact .refl s
  · exact .refl s

theorem joinQueue_kept (r : Request) (s : State) : Kept s (joinQueue r s) := by
  unfold joinQueue
  split
  next room =>
    refine Kept.trans ?_ (serveHead_kept _)
    exact withLink_kept (.inr (by simp; omega)) (.inl rfl)
  next => exact withLink_kept (.inl le_rfl) (.inl rfl)

theorem deliverFrame_kept (r : Request) (s : State) : Kept s (deliverFrame r s) :=
  Kept.trans (t := s.withLink { s.link with receiver := .hunt, gapMs := 0 }) (withLink_kept (.inl le_rfl) (.inl rfl))
    (joinQueue_kept r _)

theorem receiverTo_kept (x : Receiver) (s : State) : Kept s (receiverTo x s) := withLink_kept (.inl le_rfl) (.inl rfl)

theorem abandonFrame_kept (s : State) : Kept s (abandonFrame s) := withLink_kept (.inl le_rfl) (.inl rfl)

theorem receiveByte_kept (b : Byte) (s : State) : Kept s (receiveByte b s) := by
  unfold receiveByte
  split
  next =>
    split
    · exact receiverTo_kept _ s
    · exact .refl s
  next =>
    split
    · exact abandonFrame_kept s
    · exact receiverTo_kept _ s
  next => exact receiverTo_kept _ s
  next => exact receiverTo_kept _ s
  next => exact receiverTo_kept _ s
  next =>
    split
    · exact deliverFrame_kept _ s
    · exact abandonFrame_kept s

theorem takeLineByte_kept (b : LineByte) (s : State) : Kept s (takeLineByte s b) := by
  cases b with
  | framed b => exact receiveByte_kept b s
  | noStop b => exact .refl s

theorem receiveBytes_kept (bytes : List LineByte) (s : State) : Kept s (receiveBytes bytes s) := by
  induction bytes generalizing s with
  | nil => exact .refl s
  | cons b bytes ih => exact (takeLineByte_kept b s).trans (ih _)

theorem gapPassed_kept (s : State) : Kept s (gapPassed s) := by
  unfold gapPassed
  split
  · exact .refl s
  all_goals exact abandonFrame_kept s

theorem headLeaves_kept (s : State) : Kept s (headLeaves s) := by
  refine Kept.trans ?_ (serveHead_kept _)
  exact withLink_kept (.inl (by simp)) (.inr rfl)

theorem scanEnds_kept (s : State) : Kept s (scanEnds s) := by
  unfold scanEnds
  split
  next scanning => exact (endScan_kept scanning).trans (serveHead_kept _)
  next => exact .refl s

/-! ### The resets -/

theorem standingLines_kept (s : State) : Kept s (standingLines s) := by
  have faulted : Kept s (if s.flap.faultLine then faultLineActs s else s) := by
    split
    · exact faultLineActs_kept s
    · exact .refl s
  have stalled : ∀ t : State, Kept t (if t.blower.stall then stallActs t else t) := fun t => by
    split
    · exact stallActs_kept t
    · exact .refl t
  exact faulted.trans (stalled _)

/-- The properties a step keeps, all but that of the journal. -/
structure Sound (s : State) : Prop where
  estimates : EstimatesInRange s
  target : TargetIsCandidate s
  channels : ChannelsSound s
  positions : PositionsInRange s
  episodes : EpisodesSound s
  notices : NoticesSound s
  queue : s.link.queue.length ≤ 2
  framed : ReplyFramed s
  flap : FlapSound s
  applied : Applied s
  demand : DemandDue s
  timers : TimersFollow s
  recirc : RecircTarget s

/-- The start values of a reset have every property a step keeps. -/
theorem resetWith_sound (kind : ResetKind) (lines : ResetLines) (flash : Flash) (freeCount : Nat) (pending : List Instr) :
    Sound (State.resetWith kind lines flash freeCount pending) where
  estimates := by simp [EstimatesInRange, State.resetWith, Estimator.afterReset]
  target := by simp [TargetIsCandidate, State.resetWith, Policy.afterReset]
  channels c := by
    cases c <;> simp [State.resetWith, Channels.get, Channels.afterReset, ChannelRecord.afterReset, ChannelRecord.Sound,
      Channel.range]
  positions := by
    simp [PositionsInRange, IsPosition, TargetIsCandidate, State.resetWith, Flap.afterReset, Policy.afterReset,
      Channels.afterReset, ChannelRecord.afterReset, State.flapPosition, Flap.position, Flap.timedPosition]
  episodes := by
    refine ⟨by simp [State.resetWith, Tracker.afterReset], by simp [State.resetWith, Tracker.afterReset], fun d => ?_⟩
    cases d <;> rfl
  notices := by simp [NoticesSound, State.resetWith, Notices.afterReset]
  queue := by simp [State.resetWith, Link.afterReset]
  framed := by simp [ReplyFramed, State.resetWith, Link.afterReset]
  flap := by simp [FlapSound, State.resetWith, Flap.afterReset]
  applied := by simp [Applied, State.resetWith, Blower.afterReset, Policy.afterReset]
  demand := by simp [DemandDue, State.demandDue, State.isParked, State.resetWith, Policy.afterReset, Drive.afterReset]
  timers := by simp [TimersFollow, State.resetWith, Timers.afterReset, Policy.afterReset, Drive.afterReset]
  recirc := by simp [RecircTarget, State.resetWith, Policy.afterReset, Drive.afterReset]

/-- The start values of the journal, over a flash in its form (R155). -/
theorem resetWith_journalSound (kind : ResetKind) (lines : ResetLines) {flash : Flash} (freeCount : Nat) (pending : List Instr)
    (wf : flash.wf = true) (sequences : SequencesInRange flash) :
    JournalSound (State.resetWith kind lines flash freeCount pending) := by
  refine .of_parts ⟨wf, sequences, ?_, ?_, ?_⟩ (.idle _ rfl rfl rfl)
  · simp [State.resetWith, Journal.afterReset]
  · simp [State.resetWith, Journal.afterReset]
  · simp [NewestReadable, State.resetWith, Journal.afterReset]

theorem resetWith_preserved (kind : ResetKind) (lines : ResetLines) {flash : Flash} (freeCount : Nat) (pending : List Instr)
    (good : JournalSound s → flash.wf = true ∧ SequencesInRange flash) :
    Preserved s (State.resetWith kind lines flash freeCount pending) :=
  have start := resetWith_sound kind lines flash freeCount pending
  { estimates := fun _ => start.estimates, target := fun _ => start.target, channels := fun _ => start.channels
    positions := fun _ => start.positions, episodes := fun _ => start.episodes, notices := fun _ => start.notices
    queue := fun _ => start.queue, framed := fun _ => start.framed, flap := fun _ => start.flap
    applied := fun _ => start.applied, demand := fun _ => start.demand, timers := fun _ => start.timers
    recirc := fun _ _ => start.recirc
    journal := fun h =>
      have ⟨wf, sequences⟩ := good h
      resetWith_journalSound kind lines freeCount pending wf sequences }

theorem powerOn_preserved (lines : ResetLines) (cut : List SlotOutcome) (s : State) : Preserved s (powerOn lines cut s) :=
  (resetWith_preserved _ lines _ _ (flashAfterCut_sound cut)).trans (standingLines_kept _).preserved

theorem restartReset_preserved (s : State) : Preserved s (restartReset s) := by
  refine (resetWith_preserved _ s.lines _ _ fun h => ?_).trans (standingLines_kept _).preserved
  obtain ⟨wf, sequences, -⟩ := h.settled
  exact ⟨wf, sequences⟩

theorem replyLeaves_preserved (s : State) : Preserved s (replyLeaves s) := by
  unfold replyLeaves
  split
  · exact .refl s
  · split
    · exact restartReset_preserved s
    · exact (headLeaves_kept s).preserved

end
end Sys2Proof.Machine
end

section
/-! Every command and every millisecond keeps the invariants: the obligations O1, O2 and O52 to O59. -/

namespace Sys2Proof.Machine

section
variable {s t : State}

/-! ### INHIBIT -/

/-- INHIBIT works on the flap alone; what holds while it stands does not pass its change (R115, R116). -/
theorem withFlap_preserved {f : Flap} (sound : s.flap.Sound → f.Sound) (range : s.flap.InRange → f.InRange) :
    Preserved s (s.withFlap f) :=
  { flap := sound, positions := fun h => by
      rw [positions_iff] at h ⊢
      exact ⟨range h.1, h.2⟩ }

theorem inhibitAsserted_flapOnly (s : State) : inhibitAsserted s = s.withFlap (inhibitAsserted s).flap := by
  unfold inhibitAsserted
  dsimp only
  split
  · rfl
  · split <;> rfl

theorem inhibitReleased_flapOnly (s : State) : inhibitReleased s = s.withFlap (inhibitReleased s).flap := by
  unfold inhibitReleased
  dsimp only
  split
  · split <;> rfl
  · rfl

theorem inhibitAsserted_preserved (s : State) : Preserved s (inhibitAsserted s) := by
  rw [inhibitAsserted_flapOnly]
  exact withFlap_preserved inhibitAsserted_sound inhibitAsserted_inRange

theorem inhibitReleased_preserved (s : State) : Preserved s (inhibitReleased s) := by
  rw [inhibitReleased_flapOnly]
  exact withFlap_preserved inhibitReleased_sound inhibitReleased_inRange

/-! ### The commands -/

theorem secondPasses_kept (s : State) : Kept s (secondPasses s) := {}

/-- The commands that move INHIBIT or may reset the module. -/
def MovesInhibitOrResets (c : Instr) (s : State) : Prop :=
  (∃ lines cut, c = .powerOnReset lines cut) ∨ (c = .replySent ∧ s.link.queue.head? = some .restart)
    ∨ c = .inhibitAssert ∨ c = .inhibitRelease

/-- Every other command keeps everything (chapters 1 to 11). -/
theorem exec_kept {c : Instr} (h : exec c s = .next t) (plain : ¬MovesInhibitOrResets c s) : Kept s t := by
  cases request : requestOf c with
  | some r =>
    rw [exec_request s request] at h
    cases h
    exact deliverFrame_kept r s
  | none =>
    cases c
    case powerOnReset lines cut => exact absurd (.inl ⟨lines, cut, rfl⟩) plain
    case inhibitAssert => exact absurd (.inr (.inr (.inl rfl))) plain
    case inhibitRelease => exact absurd (.inr (.inr (.inr rfl))) plain
    case replySent =>
      have leaves : s.link.queue.head? ≠ some .restart := fun restart => plain (.inr (.inl ⟨rfl, restart⟩))
      cases h
      unfold replyLeaves
      split
      · exact .refl s
      · exact headLeaves_kept s
    case receiveFrame bytes => cases h; exact receiveBytes_kept bytes s
    case gapTimeout => cases h; exact gapPassed_kept s
    case sample code raw quality => cases h; exact sampleArrives_kept code raw quality s
    case fposRead reading => cases h; exact fposRead_kept reading s
    case staleExpiry ch => cases h; exact staleExpired_kept ch s
    case lostExpiry ch => cases h; exact lostExpired_kept ch s
    case estimatorUpdate => cases h; exact estExpired_kept s
    case decExpiry => cases h; exact decExpired_kept s
    case holdExpiry => cases h; exact holdExpired_kept s
    case purgeExpiry => cases h; exact purgeExpired_kept s
    case ckptExpiry => cases h; exact ckptExpired_kept s
    case erasePass => cases h; exact erasePassed_kept s
    case eraseFail left => cases h; exact eraseFailed_kept left s
    case programPass => cases h; exact programPassed_kept s
    case programFail left => cases h; exact programFailed_kept left s
    case scanEnd => cases h; exact scanEnds_kept s
    case contactChange door closed => cases h; exact contactChanged_kept door closed s
    case debounceAccept door => cases h; exact debounceAccepted_kept door s
    case driveAgeStale => cases h; exact driveStale_kept s
    case driveAgeSilent => cases h; exact driveSilent_kept s
    case uptimeTick => cases h; exact secondPasses_kept s
    case faultLineAssert => cases h; exact faultLineAsserted_kept s
    case faultLineRelease => cases h; exact faultLineReleased_kept s
    case readyChange high => cases h; exact readyChanged_kept high s
    case moveTimeout => cases h; exact moveTimedOut_kept s
    case timedDriveEnd => cases h; exact timedDriveEnded_kept s
    case timedHomingEnd => cases h; exact timedHomingEnded_kept s
    case stallAssert => cases h; exact stallAsserted_kept s
    case stallRelease => cases h; exact stallReleased_kept s
    all_goals simp [requestOf] at request

theorem exec_preserved {c : Instr} (h : exec c s = .next t) : Preserved s t := by
  by_cases special : MovesInhibitOrResets c s
  · obtain ⟨lines, cut, rfl⟩ | ⟨rfl, -⟩ | rfl | rfl := special
    · cases h; exact powerOn_preserved lines cut s
    · cases h; exact replyLeaves_preserved s
    · cases h; exact inhibitAsserted_preserved s
    · cases h; exact inhibitReleased_preserved s
  · exact (exec_kept h special).preserved

/-! ### A millisecond -/

theorem channelAged_follows (c : Channel) (r : ChannelRecord) : r.Follows c r.aged := by
  unfold ChannelRecord.aged
  split
  next live => exact .of_age rfl rfl rfl rfl fun ages => by simpa using ages
  next stale => exact .of_age rfl rfl rfl rfl fun ages => by simpa using ages
  next => exact .of_age rfl rfl rfl rfl id
  next => exact .of_age rfl rfl rfl rfl id

theorem channels_aged_get (cs : Channels) (c : Channel) : cs.aged.get c = (cs.get c).aged := by cases c <;> rfl

theorem channelsAged_preserved (s : State) : Preserved s (s.withChannels s.channels.aged) :=
  { channels := fun h c => by
      rw [State.withChannels_channels, channels_aged_get]
      exact (channelAged_follows c _).sound (h c)
    positions := fun h => by
      rw [positions_iff] at h ⊢
      obtain ⟨flap, ⟨last, none⟩, target⟩ := h
      have follows := channelAged_follows .fpos s.channels.fpos
      refine ⟨flap, ⟨?_, follows.substitute rfl none⟩, target⟩
      obtain same | range := follows.last
      · exact same ▸ last
      · exact range }

theorem flapAged_preserved (s : State) : Preserved s (s.withFlap s.flap.aged) := withFlap_preserved .aged .aged

/-- A timer channel runs or stands STOPPED as it did (R106). -/
theorem timersAged_preserved (s : State) : Preserved s (s.withTimers s.timers.aged) :=
  { timers := fun h => by simpa [TimersFollow, Timers.aged] using h }

theorem driveAged_preserved (s : State) : Preserved s (s.withDrive s.drive.aged) :=
  (withDrive_kept (by simp [Drive.aged])).preserved

theorem linkAged_preserved (s : State) : Preserved s (s.withLink s.link.aged) := by
  have same : s.link.aged.queue = s.link.queue ∧ s.link.aged.sending = s.link.sending := by
    unfold Link.aged
    split <;> simp
  exact (withLink_kept (.inl (by rw [same.1])) (.inl same.2)).preserved

theorem journalAged_preserved (s : State) : Preserved s (s.withJournal s.journal.aged) := by
  refine (withJournal_kept ?_ fun _ => ?_).preserved
  · unfold Journal.aged
    split <;> simp
  · unfold Journal.aged
    split <;> rfl

theorem withSecondMs_preserved (n : Nat) (s : State) : Preserved s (s.withSecondMs n) := {}

/-- Every clock one millisecond on. -/
theorem advanceClocks_preserved (s : State) : Preserved s (advanceClocks s) :=
  (channelsAged_preserved s).trans <| (driveAged_preserved _).trans <| (timersAged_preserved _).trans <|
    (flapAged_preserved _).trans <| (linkAged_preserved _).trans <| (journalAged_preserved _).trans <|
    withSecondMs_preserved _ _

theorem dueSecond_kept (s : State) : Kept s (dueSecond s) := by
  unfold dueSecond
  split
  · exact secondPasses_kept s
  · exact .refl s

theorem dueScan_kept (s : State) : Kept s (dueScan s) := by
  unfold dueScan
  split
  · exact scanEnds_kept s
  · exact .refl s

theorem dueGap_kept (s : State) : Kept s (dueGap s) := by
  unfold dueGap
  split
  · exact gapPassed_kept s
  · exact .refl s

theorem dueDebounce_kept (which : Door) (s : State) : Kept s (dueDebounce which s) := by
  unfold dueDebounce
  split
  · split
    · exact debounceAccepted_kept which s
    · exact .refl s
  · exact .refl s

theorem dueDriveStale_kept (s : State) : Kept s (dueDriveStale s) := by
  unfold dueDriveStale
  split
  · exact driveStale_kept s
  · exact .refl s

theorem dueDriveSilent_kept (s : State) : Kept s (dueDriveSilent s) := by
  unfold dueDriveSilent
  split
  · exact driveSilent_kept s
  · exact .refl s

theorem dueChannel_kept (c : Channel) (s : State) : Kept s (dueChannel c s) := by
  unfold dueChannel
  dsimp only
  split
  · exact lostExpired_kept c s
  · split
    · exact staleExpired_kept c s
    · exact .refl s

theorem dueChannels_kept (s : State) : Kept s (dueChannels s) := by
  unfold dueChannels
  generalize Channel.all = l
  induction l generalizing s with
  | nil => exact .refl s
  | cons c l ih => exact (dueChannel_kept c s).trans (ih _)

theorem dueDrive_kept (s : State) : Kept s (dueDrive s) := by
  unfold dueDrive
  split
  · split
    · exact (timedDriveEnded_kept s).trans (timedHomingEnded_kept _)
    · exact .refl s
  · exact .refl s

theorem dueMove_kept (s : State) : Kept s (dueMove s) := by
  unfold dueMove
  split
  · split
    · exact moveTimedOut_kept s
    · exact .refl s
  · exact .refl s

theorem dueEst_kept (s : State) : Kept s (dueEst s) := by
  unfold dueEst
  split
  · exact estExpired_kept s
  · exact .refl s

theorem dueDec_kept (s : State) : Kept s (dueDec s) := by
  unfold dueDec
  split
  · exact decExpired_kept s
  · exact .refl s

theorem dueHold_kept (s : State) : Kept s (dueHold s) := by
  unfold dueHold
  split
  · exact holdExpired_kept s
  · exact .refl s

theorem duePurge_kept (s : State) : Kept s (duePurge s) := by
  unfold duePurge
  split
  · exact purgeExpired_kept s
  · exact .refl s

/-- A millisecond: the clocks, then what has come due (log 2). -/
theorem millisecond_preserved (s : State) : Preserved s (millisecond s) := by
  have due (s : State) : Kept s (runDue s) :=
    (dueSecond_kept s).trans <| (dueScan_kept _).trans <| (dueGap_kept _).trans <| (dueDebounce_kept .drv _).trans <|
      (dueDebounce_kept .krb _).trans <| (dueDriveStale_kept _).trans <| (dueDriveSilent_kept _).trans <|
      (dueChannels_kept _).trans <| (dueDrive_kept _).trans <| (dueMove_kept _).trans <| (dueEst_kept _).trans <|
      (dueDec_kept _).trans <| (dueHold_kept _).trans <| duePurge_kept _
  exact (advanceClocks_preserved s).trans (due _).preserved

/-! ### A step -/

theorem withPending_preserved (rest : List Instr) (s : State) : Preserved s (s.withPending rest) := {}

/-- A step keeps every invariant, whatever the command or none. -/
theorem step_preserved (h : step s = .next t) : Preserved s t := by
  unfold step at h
  split at h
  · rw [Host.Outcome.next.injEq] at h
    exact h ▸ millisecond_preserved s
  · exact (withPending_preserved _ s).trans (exec_preserved h)

/-- What R53's table gives PARKED and, in AUTO and DEFROST, every other state. -/
theorem demandByTable_bounds (parked purging : Bool) (mode : PolicyMode) (basis : Basis) (comfort : Nat) :
    (parked = true → demandByTable parked purging mode basis comfort = 0)
      ∧ (parked = false → mode = .auto ∨ mode = .defrost → 1 ≤ demandByTable parked purging mode basis comfort) := by
  refine ⟨fun yes => by simp [demandByTable, yes], fun no auto => ?_⟩
  obtain rfl | rfl := auto
  · simp [demandByTable, no]
  · simp [demandByTable, no]

/-- A reset leaves the flap in IDLE, or in FAULT under a standing FAULT line (R112, log 9). -/
theorem resetModule_flapState (kind : ResetKind) (lines : ResetLines) (flash : Flash) (s : State) :
    (resetModule kind lines flash s).flap.state = .idle ∨ (resetModule kind lines flash s).flap.state = .fault := by
  have stalled : ∀ t : State, (if t.blower.stall then stallActs t else t).flap = t.flap := fun t => by
    split <;> simp
  unfold resetModule standingLines
  dsimp only
  rw [stalled]
  split
  · exact .inr (by simp [faultLineActs, State.resetWith, Flap.afterReset, enterFlapFault, Flap.stopAt])
  · exact .inl rfl

/-- The release of an asserted INHIBIT leaves it released (R116). -/
theorem inhibitReleased_inhibit (s : State) : (inhibitReleased s).flap.inhibit = false := by
  unfold inhibitReleased
  dsimp only
  split
  next asserted =>
    split
    next =>
      simp only [State.withFlap_flap]
      split
      · rfl
      · exact (testDue_stands _).1
    next => rfl
  next released => simpa using released

theorem inhibitAsserted_of_asserted (asserted : s.flap.inhibit = true) : inhibitAsserted s = s := by
  simp [inhibitAsserted, asserted]

theorem inhibitAsserted_disabled (disabled : s.flap.state = .disabled) : (inhibitAsserted s).flap.state = .disabled := by
  unfold inhibitAsserted
  dsimp only
  split
  · exact disabled
  · split
    · simp_all
    · exact disabled

theorem inhibitReleased_disabled (disabled : s.flap.state = .disabled) : (inhibitReleased s).flap.state = .disabled := by
  unfold inhibitReleased
  dsimp only
  split
  · split
    · simp_all
    · exact disabled
  · exact disabled

end

/-! ### The obligations -/

/-- Settles O1: a step's second branch. -/
theorem stepRunsFrontCommand : Obligations.StepRunsFrontCommand := by
  intro c rest s front
  rw [step, front]
  rfl

/-- Settles O52: the reset state is the start values over the empty flash. -/
theorem invariantsHoldAtReset : Obligations.InvariantsHoldAtReset := by
  have start : Sound State.reset := resetWith_sound _ _ _ _ _
  have journal : JournalSound State.reset := resetWith_journalSound _ _ _ _ rfl fun a r found => by simp [Flash.read] at found
  exact ⟨start.estimates, start.target, start.recirc, (demandIsDue_iff _).mpr ⟨start.demand, start.applied⟩, start.timers,
    start.channels, start.episodes, start.notices, journal, start.flap, start.positions, start.queue, start.framed⟩

/-- Settles O53, by the step's preservation of each invariant. -/
theorem estimatesAndTargetKept : Obligations.EstimatesAndTargetKept := fun _ _ h =>
  have kept := step_preserved h
  ⟨kept.estimates, kept.target, kept.recirc⟩

/-- Settles O54: the demand is due and applied, and R53's table bounds it. -/
theorem demandAndTimersKept : Obligations.DemandAndTimersKept := by
  intro s t h
  have kept := step_preserved h
  refine ⟨fun demand => ?_, kept.timers⟩
  obtain ⟨due, applied⟩ := (demandIsDue_iff s).mp demand
  have demand' : DemandIsDue t := (demandIsDue_iff t).mpr ⟨kept.demand due, kept.applied applied⟩
  have ⟨table, level, _⟩ := demand'
  obtain ⟨stopped, turning⟩ := demandByTable_bounds (decide (t.drive.vehicle = .parked)) t.policy.purging t.policy.mode
    t.policy.basis t.policy.comfort
  rw [← table, ← level] at stopped turning
  exact ⟨demand', fun parked => stopped (by simp [parked]), fun driving => turning (by simp [driving])⟩

/-- Settles O55. -/
theorem channelsAndPositionsKept : Obligations.ChannelsAndPositionsKept := fun _ _ h =>
  have kept := step_preserved h
  ⟨kept.channels, kept.positions⟩

/-- Settles O56. -/
theorem episodesKept : Obligations.EpisodesKept := fun _ _ h => (step_preserved h).episodes

/-- Settles O57. -/
theorem noticesAndQueueKept : Obligations.NoticesAndQueueKept := fun _ _ h =>
  have kept := step_preserved h
  ⟨kept.notices, kept.queue, kept.framed⟩

/-- Settles O58. -/
theorem newestRecordKept : Obligations.NewestRecordKept := fun _ _ h => (step_preserved h).journal

/-- Settles O59: what stands under INHIBIT and in DISABLED stands through every command but those that move INHIBIT or reset. -/
theorem flapKept : Obligations.FlapKept := by
  refine ⟨fun s t h => (step_preserved h).flap, fun c s t h inhibit inhibit' rests => ?_, fun c s t h notPowerOn notSent disabled => ?_⟩
  · by_cases special : MovesInhibitOrResets c s
    · obtain ⟨lines, cut, rfl⟩ | ⟨rfl, restart⟩ | rfl | rfl := special <;> cases h
      · exact (resetModule_flapState _ _ _ _).imp_right .inl
      · unfold replyLeaves
        rw [if_pos restart]
        split
        · exact rests
        · exact (resetModule_flapState _ _ _ _).imp_right .inl
      · rwa [inhibitAsserted_of_asserted inhibit]
      · exact absurd inhibit' (by simp [inhibitReleased_inhibit])
    · exact (exec_kept h special).stands.2.1 inhibit rests
  · by_cases special : MovesInhibitOrResets c s
    · obtain ⟨lines, cut, rfl⟩ | ⟨rfl, restart⟩ | rfl | rfl := special
      · exact absurd rfl (notPowerOn lines cut)
      · exact absurd rfl notSent
      · cases h
        exact inhibitAsserted_disabled disabled
      · cases h
        exact inhibitReleased_disabled disabled
    · exact (exec_kept h special).stands.2.2 disabled

end Sys2Proof.Machine
end

section
/-! The link port (chapter 11): every command completes, how a frame is received byte by byte and decoded, and the obligations O2
and O4 to O8. -/

namespace Sys2Proof.Machine

/-! ### Completion -/

/-- Settles O2: each command's meaning is a next state, and each operation leaves the command queue. -/
theorem everyCommandCompletes : Obligations.EveryCommandCompletes := by
  intro c s
  cases request : requestOf c with
  | some r => exact ⟨_, exec_request s request, by simp⟩
  | none =>
    cases c
    case powerOnReset lines cut => exact ⟨_, rfl, by simp⟩
    case receiveFrame bytes => exact ⟨_, rfl, by simp⟩
    case gapTimeout => exact ⟨_, rfl, by simp⟩
    case replySent => exact ⟨_, rfl, by simp⟩
    case sample code raw quality => exact ⟨_, rfl, by simp⟩
    case fposRead reading => exact ⟨_, rfl, by simp⟩
    case staleExpiry ch => exact ⟨_, rfl, by simp⟩
    case lostExpiry ch => exact ⟨_, rfl, by simp⟩
    case estimatorUpdate => exact ⟨_, rfl, by simp⟩
    case decExpiry => exact ⟨_, rfl, by simp⟩
    case holdExpiry => exact ⟨_, rfl, by simp⟩
    case purgeExpiry => exact ⟨_, rfl, by simp⟩
    case ckptExpiry => exact ⟨_, rfl, by simp⟩
    case erasePass => exact ⟨_, rfl, by simp⟩
    case eraseFail left => exact ⟨_, rfl, by simp⟩
    case programPass => exact ⟨_, rfl, by simp⟩
    case programFail left => exact ⟨_, rfl, by simp⟩
    case scanEnd => exact ⟨_, rfl, by simp⟩
    case contactChange door closed => exact ⟨_, rfl, by simp⟩
    case debounceAccept door => exact ⟨_, rfl, by simp⟩
    case driveAgeStale => exact ⟨_, rfl, by simp⟩
    case driveAgeSilent => exact ⟨_, rfl, by simp⟩
    case uptimeTick => exact ⟨_, rfl, by simp⟩
    case inhibitAssert => exact ⟨_, rfl, by simp⟩
    case inhibitRelease => exact ⟨_, rfl, by simp⟩
    case faultLineAssert => exact ⟨_, rfl, by simp⟩
    case faultLineRelease => exact ⟨_, rfl, by simp⟩
    case readyChange high => exact ⟨_, rfl, by simp⟩
    case moveTimeout => exact ⟨_, rfl, by simp⟩
    case timedDriveEnd => exact ⟨_, rfl, by simp⟩
    case timedHomingEnd => exact ⟨_, rfl, by simp⟩
    case stallAssert => exact ⟨_, rfl, by simp⟩
    case stallRelease => exact ⟨_, rfl, by simp⟩
    all_goals simp [requestOf] at request

/-! ### The queue -/

/-- Settles O4: a full queue drops the request, and a head that may not be served leaves it waiting. -/
theorem requestWaitsOrIsDropped : Obligations.RequestWaitsOrIsDropped := by
  intro c r s request
  rw [exec_request s request]
  refine ⟨fun full => ?_, fun room busy => ?_⟩
  · have noRoom : ¬ s.link.queue.length < 2 := by omega
    simp [deliverFrame, joinQueue, noRoom, State.withLink]
  · have waits : (s.withLink { s.link with receiver := .hunt, gapMs := 0, queue := s.link.queue ++ [r] }).mayServe = false := by
      obtain scanning | sending | holding := busy
      · simp [State.mayServe, scanning]
      · simp [State.mayServe, Option.isSome_iff_ne_none.mp sending]
      · simp [State.mayServe, holding]
    have joined : deliverFrame r s = serveHead (s.withLink { s.link with receiver := .hunt, gapMs := 0, queue := s.link.queue ++ [r] }) := by
      simp [deliverFrame, joinQueue, room, State.withLink]
    rw [joined, serveHead]
    split
    · rw [if_neg (by simp [waits])]
      rfl
    · rfl

/-! ### The receiver, byte by byte (R192) -/

section
variable {s : State}

theorem receiveBytes_append (a b : List LineByte) (s : State) : receiveBytes (a ++ b) s = receiveBytes b (receiveBytes a s) :=
  List.foldl_append

theorem receiveBytes_cons (b : Byte) (l : List Byte) (s : State) :
    receiveBytes (onLine (b :: l)) s = receiveBytes (onLine l) (receiveByte b s) := rfl

theorem receiverTo_link (x : Receiver) (s : State) : (receiverTo x s).link = { s.link with receiver := x, gapMs := 0 } := rfl

theorem receiverTo_receiverTo (x y : Receiver) (s : State) : receiverTo y (receiverTo x s) = receiverTo y s := rfl

/-- The bytes of a payload, from the first that is missing on. -/
theorem receive_body (len : Nat) (kind : Byte) (rest stored : List Byte) (s : State) (some : rest ≠ [])
    (whole : stored.length + rest.length = len) :
    receiveBytes (onLine rest) (receiverTo (.body len kind stored) s) = receiverTo (.check kind (stored ++ rest) none) s := by
  induction rest generalizing stored with
  | nil => exact absurd rfl some
  | cons b rest ih =>
    have next : receiveByte b (receiverTo (.body len kind stored) s) = receiverTo (bodyAfter len kind (stored ++ [b])) s := rfl
    rw [receiveBytes_cons, next]
    cases rest with
    | nil =>
      have full : ¬ (stored ++ [b]).length < len := by simp at whole ⊢; omega
      rw [bodyAfter, if_neg full]
      rfl
    | cons b' rest =>
      have more : (stored ++ [b]).length < len := by simp at whole ⊢; omega
      rw [bodyAfter, if_pos more, ih (stored ++ [b]) (by simp) (by simp at whole ⊢; omega), List.append_assoc]
      rfl

/-- A frame from HUNT up to its payload's end. -/
theorem receive_payload (kind : Byte) {payload : List Byte} (short : payload.length ≤ 64) (hunt : s.link.receiver = .hunt) :
    receiveBytes (onLine (0xA5#8 :: lenByte payload :: kind :: payload)) s = receiverTo (.check kind payload none) s := by
  have len : (lenByte payload).toNat = payload.length := by simp [lenByte]; omega
  have sync : receiveByte 0xA5#8 s = receiverTo .length s := by simp [receiveByte, hunt]
  have length : receiveByte (lenByte payload) (receiverTo .length s) = receiverTo (.kind payload.length) s := by
    simp only [receiveByte, receiverTo_link, len]
    rw [if_neg (by omega), receiverTo_receiverTo]
  rw [receiveBytes_cons, sync, receiveBytes_cons, length, receiveBytes_cons]
  cases payload with
  | nil => rfl
  | cons b payload => exact receive_body _ kind (b :: payload) [] s (by simp) (by simp)

/-- The two bytes of the CRC after the payload. -/
theorem receive_frame (kind high low : Byte) {payload : List Byte} (short : payload.length ≤ 64)
    (hunt : s.link.receiver = .hunt) :
    receiveBytes (onLine (0xA5#8 :: lenByte payload :: kind :: (payload ++ [high, low]))) s
      = if word16 high low = frameCrc kind payload then deliverFrame (decodeRequest kind payload) s else abandonFrame s := by
  have parts : onLine (0xA5#8 :: lenByte payload :: kind :: (payload ++ [high, low]))
      = onLine (0xA5#8 :: lenByte payload :: kind :: payload) ++ onLine [high, low] := by simp [onLine]
  rw [parts, receiveBytes_append, receive_payload kind short hunt, receiveBytes_cons, receiveBytes_cons]
  rfl

theorem word16_bytes16 (x : Word16) : word16 (x.extractLsb' 8 8) (x.extractLsb' 0 8) = x :=
  (BitVec.extractLsb'_append_extractLsb'_eq_extractLsb' rfl).trans BitVec.extractLsb'_eq_self

/-- A whole good frame is the arrival of its request (R191, R192). -/
theorem receive_frameBytes (kind : Byte) {payload : List Byte} (short : payload.length ≤ 64) (hunt : s.link.receiver = .hunt) :
    receiveBytes (onLine (frameBytes kind payload)) s = deliverFrame (decodeRequest kind payload) s := by
  have good := receive_frame kind ((frameCrc kind payload).extractLsb' 8 8) ((frameCrc kind payload).extractLsb' 0 8) short hunt
  rw [if_pos (word16_bytes16 _)] at good
  exact good

end

/-! ### Decoding (R199) -/

theorem word32_bytes32 (x : Word32) :
    word32 (x.extractLsb' 24 8) (x.extractLsb' 16 8) (x.extractLsb' 8 8) (x.extractLsb' 0 8) = x := by
  have high : x.extractLsb' 24 8 ++ x.extractLsb' 16 8 = x.extractLsb' 16 16 :=
    BitVec.extractLsb'_append_extractLsb'_eq_extractLsb' rfl
  have low : x.extractLsb' 8 8 ++ x.extractLsb' 0 8 = x.extractLsb' 0 16 :=
    BitVec.extractLsb'_append_extractLsb'_eq_extractLsb' rfl
  rw [word32, high, low]
  exact (BitVec.extractLsb'_append_extractLsb'_eq_extractLsb' rfl).trans BitVec.extractLsb'_eq_self

/-- The descriptor byte of a slot holds its three fields (section 11.6). -/
theorem descriptor_fields (q : BitVec 4) (k x : BitVec 2) :
    ((q ++ k) ++ x).extractLsb' 4 4 = q ∧ ((q ++ k) ++ x).extractLsb' 2 2 = k ∧ ((q ++ k) ++ x).extractLsb' 0 2 = x := by
  refine ⟨?_, ?_, BitVec.extractLsb'_append_eq_right⟩
  · rw [BitVec.extractLsb'_append_eq_of_le (by decide)]
    exact BitVec.extractLsb'_append_eq_left
  · rw [BitVec.extractLsb'_append_eq_of_le (by decide)]
    exact BitVec.extractLsb'_append_eq_right

theorem request_payload_length (r : Request) : r.payload.length ≤ 64 := by
  cases r with
  | ident x => cases x <;> simp [Request.payload]
  | conditions c m => cases m <;> simp [Request.payload]
  | _ => simp [Request.payload]

/-- The decoder of a catalogue KIND is that of its payload (R199). -/
theorem decodeRequest_of {r : Request} (known : inCatalogue r.code = true) (h : decodePayload r.code.toNat r.payload = some r) :
    decodeRequest r.code r.payload = r := by
  simp [decodeRequest, known, h]

/-- A KIND with several fields is decoded by its own function. -/
theorem decodePayload_fields (p : List Byte) : decodePayload 0x02 p = decodeCabin p ∧ decodePayload 0x03 p = decodeLimits p
    ∧ decodePayload 0x0B p = decodeFilterFit p ∧ decodePayload 0x0D p = decodeWatchSet p := ⟨rfl, rfl, rfl, rfl⟩

/-- Settles O6: each field's bytes give the field back. -/
theorem requestDecodesFromPayload : Obligations.RequestDecodesFromPayload := by
  intro r known
  have catalogue : inCatalogue r.code = true := by cases r <;> first | rfl | cases known
  refine decodeRequest_of catalogue ?_
  obtain ⟨cabin, limits, filterFit, watchSet⟩ := decodePayload_fields r.payload
  cases r with
  | unknown k => cases known
  | badLength k => cases known
  | ident x =>
    cases x with
    | none => rfl
    | some x => exact congrArg (some ∘ Request.ident ∘ some) (word16_bytes16 x)
  | cabin f =>
    refine cabin.trans ?_
    simp [decodeCabin, Request.payload, bytes16, word16_bytes16]
  | limits f =>
    refine limits.trans ?_
    simp [decodeLimits, Request.payload, bytes16, word16_bytes16]
  | drive v e => exact congrArg (fun v => some (Request.drive v e)) (word16_bytes16 v)
  | channel f =>
    show some (Request.channel ⟨f.code, word16 _ _, word16 _ _, word16 _ _⟩) = _
    simp [word16_bytes16]
  | detector f =>
    show some (Request.detector ⟨f.detector, word16 _ _, word16 _ _, f.releaseCount, word16 _ _⟩) = _
    simp [word16_bytes16]
  | actuator f =>
    show some (Request.actuator ⟨f.mode, word16 _ _, word16 _ _⟩) = _
    simp [word16_bytes16]
  | filterFit f =>
    refine filterFit.trans ?_
    simp [decodeFilterFit, Request.payload, bytes16, bytes32, word16_bytes16, word32_bytes32]
  | watchSet f =>
    obtain ⟨quantity, kind, scope⟩ := descriptor_fields f.quantity f.kind f.scope
    refine watchSet.trans ?_
    simp [decodeWatchSet, Request.payload, bytes16, bytes32, word16_bytes16, word32_bytes32, quantity, kind, scope]
  | noticeMask k => exact congrArg (some ∘ Request.noticeMask) (word16_bytes16 k)
  | conditions c m => cases m <;> rfl
  | episodes g => exact congrArg (some ∘ Request.episodes) (word16_bytes16 g)
  | _ => rfl

section
variable {kind : Nat} {payload : List Byte} {r : Request}

theorem decodeCabin_length (h : decodeCabin payload = some r) : payload.length = 13 := by
  unfold decodeCabin at h
  split at h <;> simp_all

theorem decodeLimits_length (h : decodeLimits payload = some r) : payload.length = 22 := by
  unfold decodeLimits at h
  split at h <;> simp_all

theorem decodeFilterFit_length (h : decodeFilterFit payload = some r) : payload.length = 15 := by
  unfold decodeFilterFit at h
  split at h <;> simp_all

theorem decodeWatchSet_length (h : decodeWatchSet payload = some r) : payload.length = 8 := by
  unfold decodeWatchSet at h
  split at h <;> simp_all

/-- The requests without a payload. -/
theorem decodePayload_nil (h : decodePayload kind payload = some r)
    (bare : kind ∈ [0x0A, 0x0C, 0x0E, 0x13, 0x14, 0x17, 0x18, 0x19]) : payload.length = 0 := by
  cases payload with
  | nil => rfl
  | cons a l => fin_cases bare <;> cases h

/-- The requests of one byte. -/
theorem decodePayload_byte (h : decodePayload kind payload = some r) (byte : kind ∈ [0x04, 0x05, 0x0F, 0x10, 0x16]) :
    payload.length = 1 := by
  match payload with
  | [_] => rfl
  | [] | _ :: _ :: _ => fin_cases byte <;> cases h

/-- The requests of one word. -/
theorem decodePayload_word (h : decodePayload kind payload = some r) (word : kind ∈ [0x11, 0x15]) : payload.length = 2 := by
  match payload with
  | [_, _] => rfl
  | [] | [_] | _ :: _ :: _ :: _ => fin_cases word <;> cases h

/-- The requests with an optional field. -/
theorem decodePayload_optional (h : decodePayload kind payload = some r) :
    (kind = 0x01 → payload.length = 0 ∨ payload.length = 2) ∧ (kind = 0x12 → payload.length = 1 ∨ payload.length = 2) := by
  refine ⟨fun ident => ?_, fun conditions => ?_⟩
  · subst ident
    match payload with
    | [] => exact .inl rfl
    | [_, _] => exact .inr rfl
    | [_] | _ :: _ :: _ :: _ => cases h
  · subst conditions
    match payload with
    | [_] => exact .inl rfl
    | [_, _] => exact .inr rfl
    | [] | _ :: _ :: _ :: _ => cases h

/-- DRIVE, CHANNEL, DETECTOR and ACTUATOR. -/
theorem decodePayload_short (h : decodePayload kind payload = some r) :
    (kind = 0x06 → payload.length = 3) ∧ (kind = 0x07 → payload.length = 7) ∧ (kind = 0x08 → payload.length = 8)
      ∧ (kind = 0x09 → payload.length = 5) := by
  refine ⟨fun drive => ?_, fun channel => ?_, fun detector => ?_, fun actuator => ?_⟩
  · subst drive
    match payload with
    | [_, _, _] => rfl
    | [] | [_] | [_, _] | _ :: _ :: _ :: _ :: _ => cases h
  · subst channel
    match payload with
    | [_, _, _, _, _, _, _] => rfl
    | [] | [_] | [_, _] | [_, _, _] | [_, _, _, _] | [_, _, _, _, _] | [_, _, _, _, _, _]
    | _ :: _ :: _ :: _ :: _ :: _ :: _ :: _ :: _ => cases h
  · subst detector
    match payload with
    | [_, _, _, _, _, _, _, _] => rfl
    | [] | [_] | [_, _] | [_, _, _] | [_, _, _, _] | [_, _, _, _, _] | [_, _, _, _, _, _] | [_, _, _, _, _, _, _]
    | _ :: _ :: _ :: _ :: _ :: _ :: _ :: _ :: _ :: _ => cases h
  · subst actuator
    match payload with
    | [_, _, _, _, _] => rfl
    | [] | [_] | [_, _] | [_, _, _] | [_, _, _, _] | _ :: _ :: _ :: _ :: _ :: _ :: _ => cases h

/-- A payload that a catalogue KIND takes has a length that it allows (R199). -/
theorem decodePayload_length (h : decodePayload kind payload = some r) (low : 1 ≤ kind) (high : kind ≤ 25) :
    payload.length ∈ allowedLengths kind := by
  have nil := decodePayload_nil h
  have byte := decodePayload_byte h
  have word := decodePayload_word h
  obtain ⟨ident, conditions⟩ := decodePayload_optional h
  obtain ⟨drive, channel, detector, actuator⟩ := decodePayload_short h
  obtain ⟨toCabin, toLimits, toFilterFit, toWatchSet⟩ := decodePayload_fields payload
  have cabin : kind = 0x02 → payload.length = 13 := fun is => decodeCabin_length (toCabin.symm.trans (is ▸ h))
  have limits : kind = 0x03 → payload.length = 22 := fun is => decodeLimits_length (toLimits.symm.trans (is ▸ h))
  have filterFit : kind = 0x0B → payload.length = 15 := fun is => decodeFilterFit_length (toFilterFit.symm.trans (is ▸ h))
  have watchSet : kind = 0x0D → payload.length = 8 := fun is => decodeWatchSet_length (toWatchSet.symm.trans (is ▸ h))
  clear h toCabin toLimits toFilterFit toWatchSet
  interval_cases kind <;> simp_all [allowedLengths]

end

/-- A byte before the frame's last takes the receiver to the state the table gives (R192). -/
theorem receiveByte_stored {b : Byte} {s : State} {r : Receiver} (stored : ByteStored b s.link.receiver r) :
    receiveByte b s = receiverTo r s := by
  cases receiver : s.link.receiver with
  | hunt =>
    rw [receiver] at stored
    obtain ⟨sync, rfl⟩ := stored
    simp only [receiveByte, receiver, sync, if_true]
  | length =>
    rw [receiver] at stored
    obtain ⟨short, rfl⟩ := stored
    simp only [receiveByte, receiver, if_neg (Nat.not_lt.mpr short)]
  | kind len =>
    rw [receiver] at stored
    obtain rfl := stored
    simp only [receiveByte, receiver]
  | body len kind payload =>
    rw [receiver] at stored
    obtain rfl := stored
    simp only [receiveByte, receiver, bodyAfter, List.length_append, List.length_singleton]
  | check kind payload high =>
    rw [receiver] at stored
    cases high with
    | none =>
      obtain rfl := stored
      simp only [receiveByte, receiver]
    | some high => exact stored.elim

/-- Settles O5: the whole frame by `receive_frameBytes`, the rest by the receiver's branches. -/
theorem receivedFrameIsItsRequest : Obligations.ReceivedFrameIsItsRequest := by
  refine ⟨fun c r s request known hunt => ?_, fun kind payload s short hunt => ?_, fun a b s => ⟨_, rfl, ?_⟩, fun b s => rfl,
    fun b s other hunt => ?_, fun b s r stored => ?_⟩
  · rw [exec_request s request]
    exact congrArg Host.Outcome.next ((receive_frameBytes r.code (request_payload_length r) hunt).trans
      (by rw [requestDecodesFromPayload r known]))
  · exact congrArg Host.Outcome.next (receive_frameBytes kind short hunt)
  · exact congrArg Host.Outcome.next (receiveBytes_append a b s)
  · exact congrArg Host.Outcome.next (by simp [receiveBytes, takeLineByte, receiveByte, hunt, other])
  · exact congrArg Host.Outcome.next (receiveByte_stored stored)

/-- Settles O7: the three branches that abandon a frame. -/
theorem frameAbandoned : Obligations.FrameAbandoned := by
  refine ⟨fun kind payload high low s short hunt bad => ?_, fun len s long hunt => ?_, fun s busy => ?_, fun s hunt => ?_⟩
  · refine congrArg Host.Outcome.next ((receive_frame kind high low short hunt).trans ?_)
    rw [if_neg bad]
    rfl
  · refine congrArg Host.Outcome.next ?_
    simp [onLine, receiveBytes, takeLineByte, receiveByte, hunt, receiverTo, long, abandonFrame, State.withLink]
  · refine congrArg Host.Outcome.next (a₁ := gapPassed s) (a₂ := abandonFrame s) ?_
    unfold gapPassed
    split
    · contradiction
    all_goals rfl
  · exact congrArg Host.Outcome.next (by simp [gapPassed, hunt])

/-- Settles O8: both refusals are the service of a request that the decoder marks. -/
theorem portRefusesByItself : Obligations.PortRefusesByItself := by
  refine ⟨fun kind payload s free unknown => ?_, fun kind payload s free hunt short low high wrong => ?_⟩
  · have ⟨_, _, notHolding, _⟩ := free
    have decoded : decodeRequest kind payload = .unknown kind := by
      have : inCatalogue kind = false := by simp [inCatalogue]; omega
      simp [decodeRequest, this]
    refine ⟨_, exec_request_free (r := .unknown kind) (by simp [requestOf, decoded]) free, ?_, sendReply_onlyChanges _ _ _ s _⟩
    exact answered_sendReply rfl rfl rfl notHolding
  · have ⟨_, _, notHolding, _⟩ := free
    have decoded : decodeRequest kind payload = .badLength kind := by
      have known : inCatalogue kind = true := by simp [inCatalogue]; omega
      have none : decodePayload kind.toNat payload = none := by
        cases found : decodePayload kind.toNat payload with
        | none => rfl
        | some r => exact absurd (decodePayload_length found low high) wrong
      simp [decodeRequest, known, none]
    refine ⟨_, congrArg Host.Outcome.next ((receive_frameBytes kind short hunt).trans
      ((congrArg (deliverFrame · s) decoded).trans (deliverFrame_of_free _ free))), ?_, sendReply_onlyChanges _ _ _ s _⟩
    exact answered_sendReply rfl rfl rfl notHolding

end Sys2Proof.Machine
end

section
/-! The requests that only read or store settings of one block: how their replies read back (R191, section 11.6), and the
obligations O11, O19, O24, O26, O31, O32 and O34. -/

namespace Sys2Proof.Machine

/-! ### Answering -/

section
variable {c : Instr} {r : Request} {s : State}

/-- A request that is only answered at a free port. -/
theorem onlyAnswered {result : ResultCode} {n : Nat} {body : List Byte} (request : requestOf c = some r) (free : PortFree s)
    (served : serveRequest r (s.atHead r) = sendReply r.code result body (s.atHead r)) (code : result.code = BitVec.ofNat 8 n) :
    ∃ t, exec c s = .next t ∧ Answered r n body s t ∧ OnlyChanges [.link] s t := by
  have ⟨_, _, notHolding, _⟩ := free
  exact ⟨_, (exec_request_free request free).trans (congrArg _ served), answered_sendReply rfl rfl code notHolding,
    sendReply_onlyChanges _ _ _ s r⟩

/-- The result of a taken request says whether a field was clamped (R199). -/
theorem doneOr_result (clamped : Bool) : (doneOr clamped).code = BitVec.ofNat 8 clamped.toNat := by
  cases clamped <;> rfl

theorem toNat_result {clamped : Bool} {p : Prop} (iff : clamped = true ↔ p) :
    (clamped.toNat = 1 ↔ p) ∧ (clamped.toNat = 0 ∨ clamped.toNat = 1) := by
  cases clamped <;> simp_all

end

/-! ### Reading a list of records, and the bits of a set -/

/-- A field of the record at place i, where each record has the same length. -/
theorem fieldAt_flatMap {α : Type} {f : α → List Byte} {m : Nat} (size : ∀ x, (f x).length = m) {l : List α} {i k n : Nat}
    {x : α} (found : l[i]? = some x) (within : k + n ≤ m) : fieldAt (l.flatMap f) (m * i + k) n = fieldAt (f x) k n := by
  induction l generalizing i with
  | nil => simp at found
  | cons y l ih =>
    rw [List.flatMap_cons]
    cases i with
    | zero =>
      obtain rfl : y = x := by simpa using found
      have short : n ≤ ((f y).drop k).length := by rw [List.length_drop, size]; omega
      rw [Nat.mul_zero, Nat.zero_add]
      unfold fieldAt
      rw [List.drop_append_of_le_length (by rw [size]; omega), List.take_append_of_le_length short]
    | succ i =>
      have later : (f y).length ≤ m * (i + 1) + k := by rw [size, Nat.mul_succ]; omega
      rw [fieldAt_append_right _ _ later, size, show m * (i + 1) + k - m = m * i + k by rw [Nat.mul_succ]; omega]
      exact ih (by simpa using found)

theorem bitsOf_cons {α : Type} (bit : α → Nat) (l : List α) (n : Nat) :
    l.foldl (fun n x => n ||| (1 <<< bit x)) n = n ||| bitsOf bit l := by
  induction l generalizing n with
  | nil => simp [bitsOf]
  | cons x l ih =>
    rw [bitsOf, List.foldl_cons, List.foldl_cons, ih, ih (0 ||| _), Nat.zero_or, Nat.or_assoc]

/-- A bit of a set stands exactly where a member has it (R191). -/
theorem bitsOf_testBit {α : Type} (bit : α → Nat) (l : List α) (k : Nat) :
    (bitsOf bit l).testBit k = decide (∃ x ∈ l, bit x = k) := by
  induction l with
  | nil => simp [bitsOf]
  | cons x l ih =>
    rw [bitsOf, List.foldl_cons, Nat.zero_or, bitsOf_cons, Nat.testBit_or, ih, Nat.one_shiftLeft, Nat.testBit_two_pow]
    simp [Bool.decide_or]

/-- The bits of a set in a word that is wide enough for them. -/
theorem bitsOf_testBit_mod {α : Type} (bit : α → Nat) (l : List α) {k w : Nat} (wide : k < w) :
    (bitsOf bit l % 2 ^ w).testBit k = decide (∃ x ∈ l, bit x = k) := by
  rw [Nat.testBit_mod_two_pow, bitsOf_testBit]
  simp [wide]

theorem toNat_emod_pow (x : Nat) (w : Nat) : ((x : Int) % 2 ^ w).toNat = x % 2 ^ w := by
  exact_mod_cast Int.toNat_natCast (x % 2 ^ w)

/-! ### IDENT -/

theorem identBody_fields (s : State) :
    fieldAt (identBody s) 0 2 = 24 ∧ fieldAt (identBody s) 9 1 = s.link.lastReset.code := by
  have head : fieldAt (identBody s) 0 2 = fieldAt (out16 24) 0 2 := by
    simp only [identBody, List.append_assoc]
    simp [fieldAt_append_left]
  have last : fieldAt (identBody s) 9 1 = fieldAt (out8 s.link.lastReset.code) 0 1 := by
    rw [identBody, fieldAt_append_right _ _ (by simp)]
    simp
  refine ⟨head.trans (fieldAt_out16_of_lt (x := 24) (by decide)), ?_⟩
  rw [last, fieldAt_out8]
  cases s.link.lastReset <;> rfl

/-- Settles O11: the body's fields, and the interval stored where one is given. -/
theorem identAnswered : Obligations.IdentAnswered := by
  intro s free
  have ⟨_, _, notHolding, _⟩ := free
  refine ⟨?_, fun x => ?_⟩
  · obtain ⟨t, next, answered, only⟩ := onlyAnswered (c := .ident none) (result := .done) (n := 0)
      (body := identBody (s.atHead (.ident none))) rfl free rfl rfl
    exact ⟨t, _, next, answered, only, identBody_length _, (identBody_fields _).1, (identBody_fields _).2⟩
  · have served : serveRequest (.ident (some x)) (s.atHead (.ident (some x)))
        = sendReply 0x01#8 (doneOr (clamps 60 3600 x)) (identBody (s.atHead (.ident (some x))))
          ((s.atHead (.ident (some x))).withJournal
            { s.journal with checkpointInterval := field 60 3600 x }) := rfl
    refine ⟨_, identBody (s.atHead (.ident (some x))), (exec_request_free rfl free).trans (congrArg _ served),
      answered_sendReply rfl rfl ?_ notHolding, ⟨by simp, fun p unlisted => ?_⟩, ?_, identBody_length _,
      (identBody_fields _).1, (identBody_fields _).2⟩
    · rw [doneOr_code]
      simp [clamps_iff, Outside]
    · cases p <;> simp [Part.Same] at unlisted ⊢
    · simp [field_eq x]

/-! ### DETECTOR -/

theorem detectorId_ofCode (n : Nat) : (1 < n → DetectorId.ofCode n = none) ∧ ∀ d : DetectorId, n = d.code → DetectorId.ofCode n = some d := by
  refine ⟨fun unknown => ?_, fun d known => ?_⟩
  · match n with
    | n + 2 => rfl
  · subst known
    cases d <;> rfl

/-- Settles O19: a known detector takes the clamped settings. -/
theorem detectorStored : Obligations.DetectorStored := by
  intro f s free
  have ⟨_, _, notHolding, _⟩ := free
  obtain ⟨refuses, takes⟩ := detectorId_ofCode f.detector.toNat
  refine ⟨fun unknown => ?_, fun d known => ?_⟩
  · exact onlyAnswered (result := .refusedValue) rfl free (by simp [serveRequest, serveDetector, refuses unknown, Request.code]) rfl
  · have result := toNat_result (clamped := detectorClamped f) (p := Outside 1 500 f.jump.toNat ∨ Outside 1 2000 f.level.toNat
      ∨ Outside 1 30 f.releaseCount.toNat ∨ Outside 10 900 f.maxDuration.toNat) (by simp [detectorClamped, clamps_iff, or_assoc])
    have served : serveRequest (.detector f) (s.atHead (.detector f))
        = sendReply 0x08#8 (doneOr (detectorClamped f)) [] (storeDetector d (detectorSettings f) (s.atHead (.detector f))) := by
      simp [serveRequest, serveDetector, takes d known]
    refine ⟨_, (detectorClamped f).toNat, (exec_request_free rfl free).trans (congrArg _ served),
      answered_sendReply (by simp) rfl (doneOr_result _) notHolding, result.1, result.2, ?_, fun d' other => ?_, ?_, ?_,
      ⟨by simp, fun p unlisted => ?_⟩⟩
    · simp [storeDetector, detector_setDetector, detectorSettings, field_eq]
    · simp [storeDetector, detector_setDetector, other]
    · simp [storeDetector]
    · simp [storeDetector]
    · cases p <;> simp [Part.Same] at unlisted ⊢

/-! ### SHIFT -/

/-- The body of SHIFT is the tally, each count at its offset (R149). -/
theorem shiftBody_tallyAt (x : Tally) : TallyAt x (shiftBody x) := by
  have fields : fieldAt (shiftBody x) 0 1 = fieldAt (out8 x.active.toNat) 0 1
      ∧ fieldAt (shiftBody x) 1 4 = fieldAt (out32 x.seconds) 0 4 ∧ fieldAt (shiftBody x) 5 4 = fieldAt (out32 x.pmDose) 0 4
      ∧ fieldAt (shiftBody x) 9 4 = fieldAt (out32 x.gasDose) 0 4 ∧ fieldAt (shiftBody x) 13 4 = fieldAt (out32 x.overLimit) 0 4
      ∧ fieldAt (shiftBody x) 17 2 = fieldAt (out16 x.stops) 0 2 ∧ fieldAt (shiftBody x) 19 2 = fieldAt (out16 x.episodes) 0 2 := by
    simp only [shiftBody, List.append_assoc]
    simp [fieldAt_append_right, fieldAt_append_left]
  obtain ⟨active, seconds, pmDose, gasDose, overLimit, stops, episodes⟩ := fields
  refine ⟨shiftBody_length x, ?_, ?_, ?_, ?_, ?_, ?_, ?_⟩
  · rw [active, fieldAt_out8]
    cases x.active <;> rfl
  · rw [seconds, fieldAt_out32, toNat_emod_pow]
  · rw [pmDose, fieldAt_out32, toNat_emod_pow]
  · rw [gasDose, fieldAt_out32, toNat_emod_pow]
  · rw [overLimit, fieldAt_out32, toNat_emod_pow]
  · rw [stops, fieldAt_out16, toNat_emod_pow]
  · rw [episodes, fieldAt_out16, toNat_emod_pow]

/-- A SHIFT that is taken stores the tally and answers with it. -/
theorem shift_stored {c : Instr} {a : Byte} {s : State} (x : Tally) (request : requestOf c = some (.shift a)) (free : PortFree s)
    (served : serveRequest (.shift a) (s.atHead (.shift a))
      = sendReply 0x16#8 .done (shiftBody x) ((s.atHead (.shift a)).withTally x)) :
    ∃ t body, exec c s = .next t ∧ Answered (.shift a) 0 body s t ∧ OnlyChanges [.link, .tally] s t ∧ t.tally = x
      ∧ TallyAt t.tally body := by
  have ⟨_, _, notHolding, _⟩ := free
  refine ⟨_, shiftBody x, (exec_request_free request free).trans (congrArg _ served),
    answered_sendReply (by simp) rfl rfl notHolding, ⟨by simp, fun p unlisted => ?_⟩, by simp, ?_⟩
  · cases p <;> simp [Part.Same] at unlisted ⊢
  · simpa using shiftBody_tallyAt x

/-- Settles O24, action by action. -/
theorem shiftTaken : Obligations.ShiftTaken := by
  intro s free
  refine ⟨fun active => ?_, fun idle => ?_, fun idle => ?_, fun active => ?_, ?_, fun a unknown => ?_⟩
  · exact onlyAnswered (result := .refusedState) rfl free (by simp [serveRequest, serveShift, shiftStart, active, Request.code]) rfl
  · exact shift_stored _ rfl free (by simp [serveRequest, serveShift, shiftStart, idle, Tally.zero])
  · exact onlyAnswered (result := .refusedState) rfl free (by simp [serveRequest, serveShift, shiftEnd, idle, Request.code]) rfl
  · exact shift_stored _ rfl free (by simp [serveRequest, serveShift, shiftEnd, active])
  · obtain ⟨t, next, answered, only⟩ := onlyAnswered (c := .shiftRead) (result := .done) (n := 0) (body := shiftBody s.tally)
      rfl free rfl rfl
    exact ⟨t, _, next, answered, only, shiftBody_tallyAt _⟩
  · refine onlyAnswered (result := .refusedValue) rfl free ?_ rfl
    have other : serveShift a (s.atHead (.shift a)) = sendReply 0x16#8 .refusedValue [] (s.atHead (.shift a)) := by
      unfold serveShift
      split
      · omega
      · omega
      · omega
      · rfl
    exact other

/-! ### RESTART -/

/-- Settles O34: RESTART by whether the journal releases it. -/
theorem restartTaken : Obligations.RestartTaken := by
  intro s free
  refine ⟨fun released => ?_, fun writing notFailed => ?_⟩
  · refine onlyAnswered (result := .done) rfl free ?_ rfl
    have now : s.journal.releasesRestart = true := by simpa [Journal.releasesRestart] using released
    simp [serveRequest, serveRestart, now, releaseRestart, Request.code]
  · have held : s.journal.releasesRestart = false := by
      simpa [Journal.releasesRestart, notFailed] using writing
    rw [exec_request_free rfl free]
    simp [serveRequest, serveRestart, held, State.atHead, State.withLink, State.withJournal]

/-! ### WATCH READ -/

/-- The fields of one slot (section 11.6). -/
theorem watchSlot_out_fields (w : WatchSlot) :
    fieldAt w.out 0 1 = 16 * w.quantity.code + 4 * w.kind.code + w.scope.code
      ∧ fieldAt w.out 1 4 = (w.level % 2 ^ 32).toNat ∧ (w.hysteresis < 2 ^ 16 → fieldAt w.out 5 2 = w.hysteresis)
      ∧ (w.firstHit = none → fieldAt w.out 7 4 = 0 ∧ fieldAt w.out 11 4 = 0)
      ∧ (∀ h, w.firstHit = some h → h.uptime < 2 ^ 32 → fieldAt w.out 7 4 = h.uptime)
      ∧ ∀ h, w.firstHit = some h → fieldAt w.out 11 4 = (h.value % 2 ^ 32).toNat := by
  have parts : fieldAt w.out 0 1 = fieldAt (out8 (16 * w.quantity.code + 4 * w.kind.code + w.scope.code)) 0 1
      ∧ fieldAt w.out 1 4 = fieldAt (out32 w.level) 0 4 ∧ fieldAt w.out 5 2 = fieldAt (out16 w.hysteresis) 0 2 := by
    simp only [WatchSlot.out, List.append_assoc]
    simp [fieldAt_append_right, fieldAt_append_left]
  have absent : w.firstHit = none → fieldAt w.out 7 4 = fieldAt (out32 0) 0 4 ∧ fieldAt w.out 11 4 = fieldAt (out32 0) 0 4 := by
    intro none
    simp only [WatchSlot.out, none, List.append_assoc]
    simp [fieldAt_append_right, fieldAt_append_left]
  have hit : ∀ h, w.firstHit = some h →
      fieldAt w.out 7 4 = fieldAt (out32 h.uptime) 0 4 ∧ fieldAt w.out 11 4 = fieldAt (out32 h.value) 0 4 := by
    intro h found
    simp only [WatchSlot.out, found, List.append_assoc]
    simp [fieldAt_append_right, fieldAt_append_left]
  obtain ⟨descriptor, level, hysteresis⟩ := parts
  refine ⟨?_, by rw [level, fieldAt_out32], fun small => by rw [hysteresis, fieldAt_out16_of_lt small], fun none => ?_,
    fun h found small => ?_, fun h found => ?_⟩
  · have codes : w.quantity.code ≤ 15 ∧ w.kind.code ≤ 3 ∧ w.scope.code ≤ 2 := by
      refine ⟨?_, by cases w.kind <;> decide, by cases w.scope <;> decide⟩
      cases w.quantity with
      | channel c => cases c <;> decide
      | _ => decide
    rw [descriptor, fieldAt_out8]
    omega
  · obtain ⟨time, value⟩ := absent none
    exact ⟨by rw [time]; rfl, by rw [value]; rfl⟩
  · obtain ⟨time, -⟩ := hit h found
    rw [time, fieldAt_out32_of_lt small]
  · obtain ⟨-, value⟩ := hit h found
    rw [value, fieldAt_out32]

/-- The flag byte of the slots (section 11.6). -/
theorem watchFlags_bits (u : WatchUnit) (n : SlotNumber) :
    watchFlags u < 2 ^ 8 ∧ (watchFlags u / 4 ^ (n.toNat - 1)) % 4
      = (if (u.get n).firstHit.isSome then 1 else 0) + (if (u.get n).armed then 2 else 0) := by
  have le : ∀ b : Bool, b.toNat ≤ 1 := Bool.toNat_le
  have flags : ∀ m : SlotNumber, (if (u.get m).firstHit.isSome then 1 else 0) + (if (u.get m).armed then 2 else 0)
      = (u.get m).firstHit.isSome.toNat + 2 * (u.get m).armed.toNat := fun m => by
    cases (u.get m).firstHit.isSome <;> cases (u.get m).armed <;> rfl
  have bounds := fun m : SlotNumber => And.intro (le (u.get m).firstHit.isSome) (le (u.get m).armed)
  obtain ⟨h1, a1⟩ := bounds .one
  obtain ⟨h2, a2⟩ := bounds .two
  obtain ⟨h3, a3⟩ := bounds .three
  obtain ⟨h4, a4⟩ := bounds .four
  rw [flags]
  simp only [watchFlags, SlotNumber.all, List.foldl_cons, List.foldl_nil, SlotNumber.toNat]
  refine ⟨by omega, ?_⟩
  cases n <;> simp only <;> omega

/-- The four slots of WATCH READ stand one after another behind the flag byte. -/
theorem watchBody_eq (s : State) :
    watchBody s = out8 (watchFlags s.watch) ++ SlotNumber.all.flatMap fun n => (s.watch.get n).out := by
  simp [watchBody, SlotNumber.all, WatchUnit.get]

/-- Settles O26: each slot is read in its own fifteen bytes. -/
theorem watchReadAnswered : Obligations.WatchReadAnswered := by
  intro s free
  obtain ⟨t, next, answered, only⟩ := onlyAnswered (c := .watchRead) (result := .done) (n := 0) (body := watchBody s)
    rfl free rfl rfl
  refine ⟨t, watchBody s, next, answered, only, watchBody_length s, fun n => ?_⟩
  have place : SlotNumber.all[n.toNat - 1]? = some n := by cases n <;> rfl
  have slot : ∀ k m, k + m ≤ 15 → fieldAt (watchBody s) (1 + 15 * (n.toNat - 1) + k) m = fieldAt (s.watch.get n).out k m := by
    intro k m within
    rw [watchBody_eq, fieldAt_append_right _ _ (by simp; omega), out8_length,
      show 1 + 15 * (n.toNat - 1) + k - 1 = 15 * (n.toNat - 1) + k by omega]
    exact fieldAt_flatMap (fun _ => watchSlot_out_length _) place within
  have at2 := slot 1 4 (by decide)
  have at6 := slot 5 2 (by decide)
  have at8 := slot 7 4 (by decide)
  have at12 := slot 11 4 (by decide)
  rw [show 1 + 15 * (n.toNat - 1) + 1 = 2 + 15 * (n.toNat - 1) by omega] at at2
  rw [show 1 + 15 * (n.toNat - 1) + 5 = 6 + 15 * (n.toNat - 1) by omega] at at6
  rw [show 1 + 15 * (n.toNat - 1) + 7 = 8 + 15 * (n.toNat - 1) by omega] at at8
  rw [show 1 + 15 * (n.toNat - 1) + 11 = 12 + 15 * (n.toNat - 1) by omega] at at12
  obtain ⟨descriptor, level, hysteresis, absent, time, value⟩ := watchSlot_out_fields (s.watch.get n)
  obtain ⟨small, bits⟩ := watchFlags_bits s.watch n
  have flags : fieldAt (watchBody s) 0 1 = watchFlags s.watch := by
    rw [watchBody_eq, fieldAt_append_left _ (by simp), fieldAt_out8, Nat.mod_eq_of_lt small]
  rw [at2, at6, at8, at12, flags]
  exact ⟨(slot 0 1 (by decide)).trans descriptor, level, hysteresis, absent, time, value, bits⟩

/-! ### CHANNELS -/

/-- A two-bit code above a 14-bit value reads back as both (R202). -/
theorem fieldAt_packed14 {code : Nat} (small : code < 4) (v : Int) :
    fieldAt (packed14 code v) 0 2 / 16384 = code ∧ fieldAt (packed14 code v) 0 2 % 16384 = (v % 16384).toNat := by
  have low : (BitVec.ofInt 14 v).toNat = (v % 16384).toNat := by simp
  have bound : (v % 16384).toNat < 2 ^ 14 := by omega
  have whole : fieldAt (packed14 code v) 0 2 = code * 2 ^ 14 + (v % 16384).toNat := by
    rw [packed14, fieldAt_bytes16, BitVec.toNat_append, low, ← Nat.shiftLeft_add_eq_or_of_lt bound, Nat.shiftLeft_eq,
      BitVec.toNat_ofNat, Nat.mod_eq_of_lt (by omega)]
  rw [whole]
  omega

/-- The six bytes of a channel (R202). -/
theorem channelRecord_out_fields (r : ChannelRecord) :
    fieldAt r.out 0 2 / 16384 = r.state.code ∧ fieldAt r.out 0 2 % 16384 = (r.usable % 16384).toNat
      ∧ fieldAt r.out 2 2 / 16384 = qualityCode r.lastQuality ∧ fieldAt r.out 2 2 % 16384 = (r.lastValue % 16384).toNat
      ∧ (r.state = .none → fieldAt r.out 4 2 = 0)
      ∧ ∀ ms, r.state ≠ .none → r.ageMs = some ms → ms < 65536000 → fieldAt r.out 4 2 = ms / 1000 := by
  have length : ∀ code v, (packed14 code v).length = 2 := fun _ _ => rfl
  have parts : fieldAt r.out 0 2 = fieldAt (packed14 r.state.code r.usable) 0 2
      ∧ fieldAt r.out 2 2 = fieldAt (packed14 (qualityCode r.lastQuality) r.lastValue) 0 2
      ∧ fieldAt r.out 4 2 = fieldAt (out16 r.reportedAge) 0 2 := by
    simp only [ChannelRecord.out, List.append_assoc]
    simp [fieldAt_append_right, fieldAt_append_left, length]
  have quality : qualityCode r.lastQuality < 4 := by
    cases r.lastQuality with
    | none => decide
    | some q => cases q <;> decide
  obtain ⟨state, last, age⟩ := parts
  obtain ⟨code, usable⟩ := fieldAt_packed14 (show r.state.code < 4 by cases r.state <;> decide) r.usable
  obtain ⟨code', value⟩ := fieldAt_packed14 quality r.lastValue
  rw [state, last, age]
  refine ⟨code, usable, code', value, fun none => ?_, fun ms running held small => ?_⟩
  · simp [ChannelRecord.reportedAge, none, fieldAt_out16]
  · have reported : r.reportedAge = ms / 1000 := by
      unfold ChannelRecord.reportedAge
      split
      · contradiction
      · rw [held, Option.getD_some]
        omega
    rw [reported, fieldAt_out16_of_lt (by omega)]

theorem channel_code_lt (c : Channel) : c.code < 10 := by cases c <;> decide

theorem channel_code_inj {c c' : Channel} (h : c.code = c'.code) : c = c' := by
  cases c <;> cases c' <;> first | rfl | cases h

theorem channel_mem_all (c : Channel) : c ∈ Channel.all := by cases c <;> decide

theorem channel_place (c : Channel) : Channel.all[c.code]? = some c := by cases c <;> rfl

/-- Settles O31: each channel is read in its own six bytes. -/
theorem channelsAnswered : Obligations.ChannelsAnswered := by
  intro s free
  obtain ⟨t, next, answered, only⟩ := onlyAnswered (c := .channels) (result := .done) (n := 0) (body := channelsBody s)
    rfl free rfl rfl
  refine ⟨t, channelsBody s, next, answered, only, channelsBody_length s, fun c => ?_⟩
  have record : ∀ k m, k + m ≤ 6 → fieldAt (channelsBody s) (2 + 6 * c.code + k) m = fieldAt (s.channels.get c).out k m := by
    intro k m within
    rw [channelsBody, fieldAt_append_right _ _ (by simp; omega), out16_length,
      show 2 + 6 * c.code + k - 2 = 6 * c.code + k by omega]
    exact fieldAt_flatMap (fun _ => channelRecord_out_length _) (channel_place c) within
  have at2 := record 0 2 (by decide)
  have at4 := record 2 2 (by decide)
  have at6 := record 4 2 (by decide)
  rw [Nat.add_zero] at at2
  rw [show 2 + 6 * c.code + 2 = 4 + 6 * c.code by omega] at at4
  rw [show 2 + 6 * c.code + 4 = 6 + 6 * c.code by omega] at at6
  rw [at2, at4, at6]
  obtain ⟨state, usable, quality, last, absent, age⟩ := channelRecord_out_fields (s.channels.get c)
  refine ⟨?_, state, usable, quality, last, absent, age⟩
  have code := channel_code_lt c
  rw [channelsBody, fieldAt_append_left _ (by simp), fieldAt_out16, toNat_emod_pow, bitsOf_testBit_mod _ _ (by omega)]
  cases flag : (s.channels.get c).faultFlag with
  | true => exact decide_eq_true ⟨c, List.mem_filter.mpr ⟨channel_mem_all c, flag⟩, rfl⟩
  | false =>
    refine decide_eq_false fun ⟨c', found, same⟩ => ?_
    obtain rfl := channel_code_inj same
    simp [flag] at found

/-! ### EPISODES -/

/-- The nineteen bytes of an episode record (section 11.6). -/
theorem episode_out_fields (e : Episode) :
    fieldAt e.out 0 2 = e.number % 2 ^ 16
      ∧ fieldAt e.out 2 1 = e.source.code + (if e.ending.isSome then 2 else 0) + 4 * endCauseCode e.ending
      ∧ fieldAt e.out 3 4 = e.start % 2 ^ 32 ∧ fieldAt e.out 7 4 = (e.ending.map (·.time)).getD 0 % 2 ^ 32
      ∧ fieldAt e.out 11 2 = (e.peak % 2 ^ 16).toNat ∧ fieldAt e.out 13 2 = (e.baselineAtOpen % 2 ^ 16).toNat
      ∧ fieldAt e.out 15 4 = e.dose % 2 ^ 32 := by
  have parts : fieldAt e.out 0 2 = fieldAt (out16 e.number) 0 2
      ∧ fieldAt e.out 2 1 = fieldAt (out8 (e.source.code + 2 * e.ending.isSome.toNat + 4 * endCauseCode e.ending)) 0 1
      ∧ fieldAt e.out 3 4 = fieldAt (out32 e.start) 0 4
      ∧ fieldAt e.out 7 4 = fieldAt (out32 ((e.ending.map (·.time)).getD 0 : Nat)) 0 4
      ∧ fieldAt e.out 11 2 = fieldAt (out16 e.peak) 0 2 ∧ fieldAt e.out 13 2 = fieldAt (out16 e.baselineAtOpen) 0 2
      ∧ fieldAt e.out 15 4 = fieldAt (out32 e.dose) 0 4 := by
    cases ending : e.ending
    all_goals
      simp only [Episode.out, List.append_assoc, ending]
      simp [fieldAt_append_right, fieldAt_append_left]
  obtain ⟨number, flags, start, time, peak, baseline, dose⟩ := parts
  refine ⟨?_, ?_, ?_, ?_, by rw [peak, fieldAt_out16], by rw [baseline, fieldAt_out16], ?_⟩
  · rw [number, fieldAt_out16, toNat_emod_pow]
  · have source : e.source.code ≤ 1 := by cases e.source <;> decide
    rw [flags, fieldAt_out8]
    cases e.ending with
    | none => simp [endCauseCode]; omega
    | some x => obtain ⟨time, cause⟩ := x; cases cause <;> simp [endCauseCode] <;> omega
  · rw [start, fieldAt_out32, toNat_emod_pow]
  · rw [time, fieldAt_out32, toNat_emod_pow]
  · rw [dose, fieldAt_out32, toNat_emod_pow]

/-- Settles O32: the first three qualifying records, each in its own nineteen bytes. -/
theorem episodesAnswered : Obligations.EpisodesAnswered := by
  intro g s free found filtered
  have qualifying : s.tracker.qualifying g.toNat = found := by
    rw [filtered, Tracker.qualifying]
    congr 1
    funext e
    simp [Episode.qualifies, Bool.decide_or]
  have served : serveRequest (.episodes g) (s.atHead (.episodes g))
      = sendReply 0x15#8 (if found.isEmpty then .empty else .done) (episodesBody found) (s.atHead (.episodes g)) := by
    simp [serveRequest, serveEpisodes, qualifying]
  obtain ⟨t, next, answered, only⟩ := onlyAnswered (c := .episodes g) (n := if found = [] then 6 else 0) rfl free served (by
    cases found <;> rfl)
  refine ⟨t, episodesBody found, next, answered, only, ?_, ?_, fun i place e at_i => ?_⟩
  · simp [episodesBody, List.length_flatMap]
    omega
  · rw [episodesBody, fieldAt_append_left _ (by simp), fieldAt_out8]
    by_cases more : 3 < found.length <;> simp [more]
  · have taken : (found.take 3)[i]? = some e := by rw [List.getElem?_take_of_lt place, at_i]
    have record : ∀ k m, k + m ≤ 19 → fieldAt (episodesBody found) (1 + 19 * i + k) m = fieldAt e.out k m := by
      intro k m within
      rw [episodesBody, fieldAt_append_right _ _ (by simp; omega), out8_length,
        show 1 + 19 * i + k - 1 = 19 * i + k by omega]
      exact fieldAt_flatMap episode_out_length taken within
    obtain ⟨number, flags, start, time, peak, baseline, dose⟩ := episode_out_fields e
    refine ⟨(record 0 2 (by decide)).trans number, ?_, ?_, ?_, ?_, ?_, ?_⟩
    · rw [show 3 + 19 * i = 1 + 19 * i + 2 by omega, record 2 1 (by decide), flags]
    · rw [show 4 + 19 * i = 1 + 19 * i + 3 by omega, record 3 4 (by decide), start]
    · rw [show 8 + 19 * i = 1 + 19 * i + 7 by omega, record 7 4 (by decide), time]
    · rw [show 12 + 19 * i = 1 + 19 * i + 11 by omega, record 11 2 (by decide), peak]
    · rw [show 14 + 19 * i = 1 + 19 * i + 13 by omega, record 13 2 (by decide), baseline]
    · rw [show 16 + 19 * i = 1 + 19 * i + 15 by omega, record 15 4 (by decide), dose]

end Sys2Proof.Machine
end

section
/-! What stays of the notice unit: an event that only raises notices of some kinds leaves every other pending notice, the masks, the
condition flags and the last condition as they stood (R181, R182, R187). -/

namespace Sys2Proof.Machine

/-! ### Raising -/

/-- The notice is pending. -/
def Pends (n : Notice) (s : State) : Prop := ∃ p ∈ s.notices.pending, p.notice = n

/-- From s to t every pending notice stays that is not of these kinds. -/
def KeepsPending (kinds : List NoticeKind) (s t : State) : Prop :=
  ∀ p ∈ s.notices.pending, p.notice.kind ∉ kinds → p ∈ t.notices.pending

/-- From s to t the masks stand and no condition has occurred. -/
def ConditionsStand (s t : State) : Prop :=
  t.notices.masked = s.notices.masked ∧ t.notices.conditionFlags = s.notices.conditionFlags
    ∧ t.notices.conditionMasked = s.notices.conditionMasked ∧ t.notices.lastCondition = s.notices.lastCondition

/-- From s to t no notice has been raised but of these kinds, and no condition has occurred. -/
def RaisesOnly (kinds : List NoticeKind) (s t : State) : Prop := KeepsPending kinds s t ∧ ConditionsStand s t

/-- A pending notice of another kind stays through a raising. -/
theorem raiseIn_keeps {n : Notice} {l : List PendingNotice} {p : PendingNotice} (mem : p ∈ l) (other : p.notice.kind ≠ n.kind) :
    p ∈ raiseIn n l := by
  induction l with
  | nil => simp at mem
  | cons q rest ih =>
    rw [raiseIn]
    split
    · next same =>
      rcases List.mem_cons.mp mem with rfl | later
      · exact absurd same other
      · exact List.mem_cons_of_mem _ later
    · split
      · exact List.mem_cons_of_mem _ mem
      · rcases List.mem_cons.mp mem with rfl | later
        · exact List.mem_cons_self
        · exact List.mem_cons_of_mem _ (ih later)

theorem raise_raisesOnly (n : Notice) (s : State) : RaisesOnly [n.kind] s (raise n s) :=
  ⟨fun _ mem other => raiseIn_keeps mem (by simpa using other), rfl, rfl, rfl, rfl⟩

/-- A kind whose detail is no set. -/
def NoticeKind.single (k : NoticeKind) : Prop := k ≠ .sensorLost ∧ k ≠ .watch ∧ k ≠ .condition

/-- A raising whose detail is no set leaves the notice pending as it was raised (R182). -/
theorem raise_pends (n : Notice) (s : State) (single : n.kind.single) : Pends n (raise n s) := by
  refine raiseIn_newest n s.notices.pending fun m same => ?_
  obtain ⟨sensor, watch, condition⟩ := single
  cases n <;> first | rfl | (cases m <;> simp_all [Notice.kind, Notice.merge])

section
variable {s t u : State} {kinds more : List NoticeKind}

theorem KeepsPending.refl (s : State) : KeepsPending kinds s s := fun _ mem _ => mem

theorem KeepsPending.trans (first : KeepsPending kinds s t) (second : KeepsPending kinds t u) : KeepsPending kinds s u :=
  fun p mem other => second p (first p mem other) other

theorem KeepsPending.mono (h : KeepsPending kinds s t) (sub : ∀ k ∈ kinds, k ∈ more) : KeepsPending more s t :=
  fun p mem other => h p mem fun inside => other (sub _ inside)

theorem KeepsPending.pends (h : KeepsPending kinds s t) {n : Notice} (other : n.kind ∉ kinds) (pends : Pends n s) : Pends n t := by
  obtain ⟨p, mem, rfl⟩ := pends
  exact ⟨p, h p mem other, rfl⟩

theorem ConditionsStand.trans (first : ConditionsStand s t) (second : ConditionsStand t u) : ConditionsStand s u := by
  obtain ⟨masked, flags, conditionMasked, last⟩ := first
  obtain ⟨masked', flags', conditionMasked', last'⟩ := second
  exact ⟨masked'.trans masked, flags'.trans flags, conditionMasked'.trans conditionMasked, last'.trans last⟩

theorem RaisesOnly.of_eq (same : t.notices = s.notices) : RaisesOnly kinds s t := by
  unfold RaisesOnly KeepsPending ConditionsStand
  rw [same]
  exact ⟨fun _ mem _ => mem, rfl, rfl, rfl, rfl⟩

theorem RaisesOnly.refl (s : State) : RaisesOnly kinds s s := .of_eq rfl

theorem RaisesOnly.trans (first : RaisesOnly kinds s t) (second : RaisesOnly kinds t u) : RaisesOnly kinds s u :=
  ⟨first.1.trans second.1, first.2.trans second.2⟩

theorem RaisesOnly.mono (h : RaisesOnly kinds s t) (sub : ∀ k ∈ kinds, k ∈ more) : RaisesOnly more s t := ⟨h.1.mono sub, h.2⟩

theorem RaisesOnly.pends (h : RaisesOnly kinds s t) {n : Notice} (other : n.kind ∉ kinds) (pends : Pends n s) : Pends n t :=
  h.1.pends other pends

/-- A raising inside an event. -/
theorem RaisesOnly.raise (h : RaisesOnly kinds s t) {n : Notice} (listed : n.kind ∈ kinds) : RaisesOnly kinds s (raise n t) :=
  h.trans ((raise_raisesOnly n t).mono (by simpa using listed))

/-- A change that leaves the notice unit alone, and then a raising. -/
theorem RaisesOnly.after (h : RaisesOnly kinds t u) (same : t.notices = s.notices) : RaisesOnly kinds s u :=
  (RaisesOnly.of_eq same).trans h

/-- A change that leaves the notice unit alone. -/
theorem RaisesOnly.then_same (h : RaisesOnly kinds s t) (same : u.notices = t.notices) : RaisesOnly kinds s u :=
  h.trans (.of_eq same)

end

/-! ### The operations that raise -/

theorem evaluateSlot_raisesOnly (n : SlotNumber) (v : Int) (s : State) : RaisesOnly [.watch] s (evaluateSlot n v s) := by
  rw [evaluateSlot]
  dsimp only
  split
  · exact .refl s
  · split
    · exact ((RaisesOnly.refl _).raise (by simp [Notice.kind])).after rfl
    · exact .of_eq rfl

theorem deliverTo_raisesOnly (q : Quantity) (v : Int) (n : SlotNumber) (s : State) : RaisesOnly [.watch] s (deliverTo q v n s) := by
  rw [deliverTo]
  split
  · exact evaluateSlot_raisesOnly n v s
  · exact .refl s

theorem deliver_raisesOnly (q : Quantity) (v : Int) (s : State) : RaisesOnly [.watch] s (deliver q v s) :=
  (((deliverTo_raisesOnly q v .one s).trans (deliverTo_raisesOnly q v .two _)).trans (deliverTo_raisesOnly q v .three _)).trans
    (deliverTo_raisesOnly q v .four _)

theorem completeMove_raisesOnly (f : Flap) (s : State) : RaisesOnly [.moveDone] s (completeMove f s) :=
  (((RaisesOnly.refl (s.withFlap f.toIdle)).raise (by simp [Notice.kind])).after rfl).then_same rfl

/-- A completion leaves MOVE-DONE pending with the position at that event (R117). -/
theorem completeMove_pends (f : Flap) (s : State) :
    Pends (.moveDone (f.toIdle.position (s.usable .fpos))) (completeMove f s) :=
  raise_pends (.moveDone (f.toIdle.position (s.usable .fpos))) (s.withFlap f.toIdle) (by simp [NoticeKind.single, Notice.kind])

theorem retargetTimed_raisesOnly (f : Flap) (x : Int) (s : State) : RaisesOnly [.moveDone] s (retargetTimed f x s) := by
  rw [retargetTimed]
  split
  · exact completeMove_raisesOnly _ s
  · exact .of_eq rfl

theorem flapTarget_raisesOnly (x : Int) (s : State) : RaisesOnly [.moveDone] s (flapTarget x s) := by
  rw [flapTarget]
  split
  case h_3 =>
    split
    · exact .of_eq rfl
    · split
      case h_2 => exact retargetTimed_raisesOnly _ x s
      all_goals exact .of_eq rfl
  all_goals exact .of_eq rfl

theorem blowerDemand_raisesOnly (d : Nat) (s : State) : RaisesOnly [.blowerFault] s (blowerDemand d s) := by
  rw [blowerDemand]
  split
  · exact ((RaisesOnly.refl _).raise (by simp [Notice.kind])).after rfl
  · exact .of_eq rfl

theorem recomputeDemand_raisesOnly (s : State) : RaisesOnly [.blowerFault] s (recomputeDemand s) := by
  rw [recomputeDemand]
  split
  · exact .refl s
  · exact (blowerDemand_raisesOnly _ _).after rfl

theorem setTarget_raisesOnly (x : Int) (s : State) : RaisesOnly [.moveDone] s (setTarget x s) := by
  rw [setTarget]
  split
  · exact .refl s
  · exact (flapTarget_raisesOnly _ _).after rfl

theorem recordBasis_raisesOnly (b : Basis) (s : State) : RaisesOnly [.ventLimited] s (recordBasis b s) := by
  rw [recordBasis]
  dsimp only
  split
  · exact ((RaisesOnly.refl _).raise (by simp [Notice.kind])).after rfl
  · exact .of_eq rfl

theorem applyNow_raisesOnly (x : Int) (b : Basis) (s : State) : RaisesOnly [.moveDone, .ventLimited] s (applyNow x b s) :=
  (((recordBasis_raisesOnly b s).then_same (u := setHeld false (recordBasis b s)) rfl).mono (by simp)).trans
    ((setTarget_raisesOnly x _).mono (by simp))

theorem applyDwelled_raisesOnly (x : Int) (b : Basis) (s : State) : RaisesOnly [.moveDone, .ventLimited] s (applyDwelled x b s) := by
  rw [applyDwelled]
  split
  · exact applyNow_raisesOnly x b s
  · exact ((recordBasis_raisesOnly b s).then_same rfl).mono (by simp)

theorem fogTest_raisesOnly (s : State) : RaisesOnly [.fogAlert] s (fogTest s) := by
  rw [fogTest]
  dsimp only
  split
  · exact ((RaisesOnly.refl _).raise (by simp [Notice.kind])).after rfl
  · exact .of_eq rfl

theorem ceilingTest_raisesOnly (s : State) : RaisesOnly [.co2Ceiling] s (ceilingTest s) := by
  rw [ceilingTest]
  dsimp only
  split
  · exact ((RaisesOnly.refl _).raise (by simp [Notice.kind])).after rfl
  · exact .of_eq rfl

theorem autoBelowFog_raisesOnly (s : State) : RaisesOnly [.moveDone, .ventLimited] s (autoBelowFog s) := by
  rw [autoBelowFog]
  split
  · exact applyNow_raisesOnly _ _ s
  · split
    · exact applyNow_raisesOnly _ _ s
    · split
      · exact applyDwelled_raisesOnly _ _ s
      · split
        · exact applyDwelled_raisesOnly _ _ s
        · exact applyDwelled_raisesOnly _ _ s

/-! ### Conditions -/

/-- CONDITION is pending with this kind in its set. -/
def NotesCondition (k : ConditionKind) (s : State) : Prop := ∃ p ∈ s.notices.pending, ∃ l, p.notice = .condition l ∧ k ∈ l

theorem raiseIn_condition (k : ConditionKind) (l : List PendingNotice) :
    ∃ p ∈ raiseIn (.condition [k]) l, ∃ m, p.notice = .condition m ∧ k ∈ m := by
  induction l with
  | nil => exact ⟨⟨.condition [k], false⟩, by simp [raiseIn], [k], rfl, by simp⟩
  | cons q rest ih =>
    rw [raiseIn]
    split
    · next same =>
      refine ⟨⟨q.notice.merge (.condition [k]), true⟩, by simp, ?_⟩
      obtain ⟨q, r⟩ := q
      cases q <;> simp_all [Notice.kind, Notice.merge, unionIn]
      cases k <;> simp [ConditionKind.all]
    · split
      · exact ⟨⟨.condition [k], false⟩, by simp, [k], rfl, by simp⟩
      · obtain ⟨p, mem, noted⟩ := ih
        exact ⟨p, by simp [mem], noted⟩

theorem raiseIn_keeps_condition {k : ConditionKind} {l : List PendingNotice} (n : ConditionKind)
    (noted : ∃ p ∈ l, ∃ m, p.notice = .condition m ∧ k ∈ m) :
    ∃ p ∈ raiseIn (.condition [n]) l, ∃ m, p.notice = .condition m ∧ k ∈ m := by
  obtain ⟨p, mem, m, shape, inside⟩ := noted
  induction l with
  | nil => simp at mem
  | cons q rest ih =>
    rw [raiseIn]
    split
    · rcases List.mem_cons.mp mem with rfl | later
      · refine ⟨⟨p.notice.merge (.condition [n]), true⟩, by simp, ?_⟩
        rw [shape]
        refine ⟨_, rfl, ?_⟩
        simp only [unionIn, List.mem_filter]
        cases k <;> simp [ConditionKind.all, inside]
      · exact ⟨p, by simp [later], m, shape, inside⟩
    · split
      · exact ⟨p, List.mem_cons_of_mem _ mem, m, shape, inside⟩
      · rcases List.mem_cons.mp mem with rfl | later
        · exact ⟨p, by simp, m, shape, inside⟩
        · obtain ⟨p', mem', noted⟩ := ih later
          exact ⟨p', by simp [mem'], noted⟩

section
variable {s t u : State} {kinds : List NoticeKind} {k : ConditionKind}

theorem NotesCondition.of_keeps (noted : NotesCondition k s) (keeps : KeepsPending kinds s t) (other : .condition ∉ kinds) :
    NotesCondition k t := by
  obtain ⟨p, mem, l, shape, inside⟩ := noted
  exact ⟨p, keeps p mem (by rw [shape]; exact other), l, shape, inside⟩

end

end Sys2Proof.Machine
end

section
/-! How the lines, the timers and the requests of the flap channel act (chapter 6): the entry to FAULT and a failed homing, and with
them the obligations O20, O21, O49 and O50. -/

namespace Sys2Proof.Machine

/-! ### Faults and homings -/

/-- The flap stopped where it stands (R123). -/
theorem stopAt_stopped (f : Flap) (p : Int) : StoppedAt p f (f.stopAt p) :=
  ⟨rfl, rfl, rfl, rfl, rfl, rfl, rfl, rfl, rfl, rfl, rfl, rfl, rfl, rfl⟩

theorem enterFlapFault_faulted (cause : FlapCause) (s : State) : FlapFaulted cause s (enterFlapFault cause s) := by
  refine ⟨?_, rfl, rfl, raise_pends _ _ (by simp [NoticeKind.single, Notice.kind])⟩
  rw [← flapPosition_eq]
  exact stopAt_stopped s.flap s.flapPosition

theorem homingFail_failed (cause : FlapCause) (s : State) : HomingFailed cause s (homingFail cause s) := by
  have stopped := stopAt_stopped s.flap s.flapPosition
  rw [flapPosition_eq] at stopped
  unfold homingFail HomingFailed
  rw [flapPosition_eq]
  by_cases third : s.flap.failCount + 1 < 3
  · rw [if_pos (by exact third)]
    exact ⟨stopped, rfl, fun _ => ⟨rfl, raise_pends _ _ (by simp [NoticeKind.single, Notice.kind])⟩, fun many => by omega⟩
  · rw [if_neg (by exact third)]
    exact ⟨stopped, rfl, fun few => by omega, fun _ => ⟨rfl, raise_pends _ _ (by simp [NoticeKind.single, Notice.kind])⟩⟩

/-- A completed homing: the flap at 1000, with the move that is due (R128). -/
theorem homingSuccess_follows (s : State) : MoveFollows s.flap.homed (homingSuccess s).flap := by
  have same : ({ s.flap.linesOff with setPoint := 1000, failCount := 0, homingWaiting := false } : Flap).toIdle = s.flap.homed := rfl
  rw [← same]
  exact completeMove_follows _ s

/-! ### INHIBIT and the FAULT line -/

theorem testDue_of_not_due {f : Flap} (still : f.inhibit = true ∨ f.target = f.setPoint) : f.testDue = f := by
  rw [Flap.testDue, Flap.moveDue]
  rcases still with h | h <;> simp [h]

theorem testDue_of_due {f : Flap} (idle : f.state = .idle) (released : f.inhibit = false) (away : f.target ≠ f.setPoint) :
    f.testDue = f.startMove := by
  simp [Flap.testDue, Flap.moveDue, idle, released, away]

/-- What an assertion of the FAULT line does by the flap state (R123). -/
theorem faultLineActs_acts (s : State) :
    (faultLineActs s).flap.faultLine = s.flap.faultLine
      ∧ (s.flap.state = .idle ∨ s.flap.state = .waitReady ∨ s.flap.state = .moving → FlapFaulted .line s (faultLineActs s))
      ∧ (s.flap.state = .homing → HomingFailed .line s (faultLineActs s))
      ∧ (s.flap.state = .fault ∨ s.flap.state = .disabled → (faultLineActs s).flap = s.flap ∧ (faultLineActs s).notices = s.notices) := by
  unfold faultLineActs
  split
  case h_4 state => exact ⟨by rw [homingFail_flap]; rfl, by simp [state], fun _ => homingFail_failed .line s, by simp [state]⟩
  case h_5 state | h_6 state => exact ⟨rfl, by simp [state], by simp [state], fun _ => ⟨rfl, rfl⟩⟩
  all_goals
    next state => exact ⟨rfl, fun _ => enterFlapFault_faulted .line s, by simp [state], by simp [state]⟩

/-- Settles O49: each line by the flap state it finds. -/
theorem inhibitAndFaultLine : Obligations.InhibitAndFaultLine := by
  intro s
  refine ⟨fun released => ?_, fun asserted => ?_, fun asserted => ⟨fun still => ?_, fun idle direct => ?_,
    fun idle mode away => ?_⟩, fun released => ?_, fun released => ?_, fun asserted => ?_, rfl⟩
  · show Host.Outcome.next (inhibitAsserted s) = _
    simp only [inhibitAsserted, released, Bool.false_eq_true, if_false]
    split <;> rfl
  · show Host.Outcome.next (inhibitAsserted s) = _
    simp [inhibitAsserted, asserted]
  · show Host.Outcome.next (inhibitReleased s) = _
    simp only [inhibitReleased, asserted, if_true]
    split
    · next idle =>
      obtain ⟨mode, at_target⟩ := still.resolve_left (fun h => h idle)
      rw [if_neg mode, testDue_of_not_due (Or.inr (by exact at_target))]
      rfl
    · rfl
  · show Host.Outcome.next (inhibitReleased s) = _
    simp [inhibitReleased, asserted, idle, direct, State.withFlap]
  · refine ⟨inhibitReleased s, rfl, ⟨by simp, fun p unlisted => ?_⟩, ?_⟩
    · cases p <;> simp [Part.Same] at unlisted ⊢
    · have moved : (inhibitReleased s).flap = ({ s.flap with inhibit := false } : Flap).startMove := by
        rw [← testDue_of_due (f := { s.flap with inhibit := false }) idle rfl away]
        simp [inhibitReleased, asserted, idle, mode]
      rw [moved]
      exact startMove_started _
  · show Host.Outcome.next (inhibitReleased s) = _
    simp [inhibitReleased, released]
  · refine ⟨faultLineAsserted s, rfl, ⟨by simp, fun p unlisted => ?_⟩, ?_⟩
    · cases p <;> simp [Part.Same] at unlisted ⊢
    · obtain ⟨line, stops, fails, stands⟩ := faultLineActs_acts (s.withFlap { s.flap with faultLine := true })
      rw [faultLineAsserted, if_neg (by simp [released])]
      exact ⟨line, stops, fails, stands⟩
  · show Host.Outcome.next (faultLineAsserted s) = _
    simp [faultLineAsserted, asserted]

/-! ### READY, the timers and the ends of drives -/

/-- A completed move leaves MOVE-DONE with the value of FPOS where that is the position (R113, R117, R119). -/
theorem completeMove_feedback {f : Flap} (s : State) (mode : f.mode = .tracked ∨ f.mode = .edge) :
    Pends (.moveDone (s.usable .fpos)) (completeMove f s) := by
  have here : f.toIdle.position (s.usable .fpos) = s.usable .fpos := by
    rcases mode with h | h <;> simp [Flap.position, Flap.toIdle, h]
  have pends := completeMove_pends f s
  rwa [here] at pends

theorem homingSuccess_feedback (s : State) (mode : s.flap.mode = .tracked ∨ s.flap.mode = .edge) :
    Pends (.moveDone (s.usable .fpos)) (homingSuccess s) :=
  completeMove_feedback s mode

/-- The start of a due move leaves the settings, the target, the levels and the failure count (R115). -/
theorem testDue_settings (f : Flap) : f.testDue.mode = f.mode ∧ f.testDue.travelTime = f.travelTime
    ∧ f.testDue.moveTimeout = f.moveTimeout ∧ f.testDue.target = f.target ∧ f.testDue.failCount = f.failCount
    ∧ f.testDue.heldPosition = f.heldPosition ∧ f.testDue.ready = f.ready := by
  unfold Flap.testDue
  split
  · unfold Flap.startMove
    split
    · split <;> exact ⟨rfl, rfl, rfl, rfl, rfl, rfl, rfl⟩
    all_goals exact ⟨rfl, rfl, rfl, rfl, rfl, rfl, rfl⟩
  · exact ⟨rfl, rfl, rfl, rfl, rfl, rfl, rfl⟩

theorem testDue_ready (f : Flap) : f.testDue.ready = f.ready := (testDue_settings f).2.2.2.2.2.2

theorem testDue_failCount (f : Flap) : f.testDue.failCount = f.failCount := (testDue_settings f).2.2.2.2.1

theorem completeMove_ready (f : Flap) (s : State) : (completeMove f s).flap.ready = f.ready := by
  rw [completeMove_flap, testDue_ready]
  rfl

theorem trackedReady_ready (high : Bool) {complete : State → State} {s : State} (completes : (complete s).flap.ready = s.flap.ready) :
    (trackedReady high complete s).flap.ready = s.flap.ready := by
  unfold trackedReady
  split
  · split
    · exact completes
    · rfl
  · rfl

/-- What a READY transition does leaves READY as it has become. -/
theorem readyActs_ready (high : Bool) (s : State) : (readyActs high s).flap.ready = s.flap.ready := by
  unfold readyActs
  split
  case h_1 => split <;> rfl
  case h_2 => exact trackedReady_ready high (completeMove_ready _ s)
  case h_3 => exact completeMove_ready _ s
  case h_4 =>
    split
    · split <;> rfl
    · exact trackedReady_ready high (completeMove_ready _ s)
  case h_5 => exact completeMove_ready _ s
  case h_6 => rfl

theorem readyChanged_of_new {high : Bool} {s : State} (new : s.flap.ready ≠ high) :
    readyChanged high s = readyActs high (s.withFlap { s.flap with ready := high }) := by
  rw [readyChanged, if_neg new]

/-- Settles O50: READY by the flap state and the drive mode, the move timer, and the ends of the drives. -/
theorem movesComplete : Obligations.MovesComplete := by
  refine ⟨fun high s new => ?_, fun high s same => ?_, fun s => ⟨fun stopped => ?_, fun running state => ?_, fun running state => ?_⟩,
    fun s state mode d drive => ?_, fun s state mode drive => ?_, fun s none => ?_, fun s none => ?_⟩
  · refine ⟨readyChanged high s, rfl, ⟨by simp, fun p unlisted => ?_⟩, ?_⟩
    · cases p <;> simp [Part.Same] at unlisted ⊢
    rw [readyChanged_of_new new]
    refine ⟨readyActs_ready high _, fun state mode low => ?_, fun state mode up fallen => ?_, fun state completes => ?_,
      fun state mode waiting => ?_, fun state mode issued => ⟨fun low => ?_, fun up fallen => ?_⟩, fun state completes => ?_,
      fun state up => ?_, fun still => ?_⟩
    · simp [readyActs, trackedReady, state, mode, low]
    · simp [readyActs, trackedReady, state, mode, up, fallen]
    · set u := s.withFlap { s.flap with ready := high } with u_def
      have done : readyActs high u = completeMove u.flap u := by
        rcases completes with ⟨mode, up, fallen⟩ | mode
        · simp [u_def, readyActs, trackedReady, state, mode, up, fallen]
        · simp [u_def, readyActs, state, mode]
      rw [done]
      exact ⟨completeMove_follows u.flap u, completeMove_feedback u (completes.imp (·.1) id)⟩
    · cases high <;> simp [readyActs, state, mode, waiting, Flap.issue, Flap.newTimer]
    · simp [readyActs, trackedReady, state, mode, issued, low]
    · simp [readyActs, trackedReady, state, mode, issued, up, fallen]
    · set u := s.withFlap { s.flap with ready := high } with u_def
      have done : readyActs high u = homingSuccess u := by
        rcases completes with ⟨mode, issued, up, fallen⟩ | mode
        · simp [u_def, readyActs, trackedReady, state, mode, issued, up, fallen]
        · simp [u_def, readyActs, state, mode]
      rw [done]
      exact ⟨homingSuccess_follows u, homingSuccess_feedback u (completes.imp (·.1) id)⟩
    · simp [readyActs, state, up, Flap.issue, Flap.newTimer]
    · have stands : readyActs high (s.withFlap { s.flap with ready := high }) = s.withFlap { s.flap with ready := high } := by
        rcases still with state | state | state | ⟨state, low⟩ | ⟨state | state, mode | mode⟩
        · simp [readyActs, state]
        · simp [readyActs, state]
        · simp [readyActs, state]
        · simp [readyActs, state, low]
        · simp [readyActs, state, mode]
        · simp [readyActs, state, mode]
        · simp [readyActs, state, mode]
        · simp [readyActs, state, mode]
      rw [stands]
      exact ⟨rfl, rfl⟩
  · show Host.Outcome.next (readyChanged high s) = _
    simp [readyChanged, same]
  · show Host.Outcome.next (moveTimedOut s) = _
    simp [moveTimedOut, stopped]
  · have ends : moveTimedOut s = enterFlapFault .timeout s := by
      rw [moveTimedOut, if_neg (by simpa [Option.isSome_iff_ne_none] using running)]
      rcases state with h | h <;> simp [h]
    refine ⟨moveTimedOut s, rfl, ⟨by simp, fun p unlisted => ?_⟩, ?_⟩
    · cases p <;> simp [Part.Same] at unlisted ⊢
    · rw [ends]
      exact enterFlapFault_faulted .timeout s
  · have ends : moveTimedOut s = homingFail .timeout s := by
      rw [moveTimedOut, if_neg (by simpa [Option.isSome_iff_ne_none] using running)]
      simp [state]
    refine ⟨moveTimedOut s, rfl, ⟨by simp, fun p unlisted => ?_⟩, ?_⟩
    · cases p <;> simp [Part.Same] at unlisted ⊢
    · rw [ends]
      exact homingFail_failed .timeout s
  · have ends : timedDriveEnded s = completeMove (s.flap.driveEnded d.destination) s := by simp [timedDriveEnded, state, drive]
    have here : (s.flap.driveEnded d.destination).toIdle.position (s.usable .fpos) = d.destination := by
      simp [Flap.position, Flap.toIdle, Flap.driveEnded, Flap.linesOff, Flap.timedPosition, mode]
    have pends := completeMove_pends (s.flap.driveEnded d.destination) s
    rw [here] at pends
    refine ⟨timedDriveEnded s, rfl, ⟨by simp, fun p unlisted => ?_⟩, ?_⟩
    · cases p <;> simp [Part.Same] at unlisted ⊢
    rw [ends]
    refine ⟨completeMove_follows (s.flap.driveEnded d.destination) s, fun arrived => ?_, pends⟩
    have stands : (completeMove (s.flap.driveEnded d.destination) s).flap = (s.flap.driveEnded d.destination).toIdle := by
      rw [completeMove_flap, testDue_of_not_due (Or.inr (by exact arrived))]
    refine ⟨by rw [stands]; rfl, ?_⟩
    rw [State.flapPosition, stands, ← here]
    simp [Flap.position, Flap.toIdle, Flap.driveEnded, Flap.linesOff, Flap.timedPosition, mode]
  · obtain ⟨d, drive⟩ := Option.isSome_iff_exists.mp drive
    have ends : timedHomingEnded s = homingSuccess s := by simp [timedHomingEnded, state, drive]
    have here : s.flap.homed.position (s.usable .fpos) = 1000 := by
      simp [Flap.position, Flap.homed, Flap.timedPosition, mode]
    have pends : Pends (.moveDone (s.flap.homed.position (s.usable .fpos))) (homingSuccess s) := completeMove_pends _ s
    rw [here] at pends
    have count : (homingSuccess s).flap.failCount = 0 := by
      rw [homingSuccess, completeMove_flap, testDue_failCount]
      rfl
    refine ⟨timedHomingEnded s, rfl, ⟨by simp, fun p unlisted => ?_⟩, ?_⟩
    · cases p <;> simp [Part.Same] at unlisted ⊢
    rw [ends]
    refine ⟨homingSuccess_follows s, count, fun arrived => ?_, pends⟩
    have stands : (homingSuccess s).flap = s.flap.homed := by
      rw [homingSuccess, completeMove_flap, testDue_of_not_due (Or.inr (by exact arrived))]
      rfl
    refine ⟨by rw [stands]; rfl, ?_⟩
    rw [State.flapPosition, stands, ← here]
    simp [Flap.position, Flap.homed, Flap.timedPosition, mode]
  · show Host.Outcome.next (timedDriveEnded s) = _
    unfold timedDriveEnded
    split
    · next moving found => simp [moving, found] at none
    · rfl
  · show Host.Outcome.next (timedHomingEnded s) = _
    unfold timedHomingEnded
    split
    · next homing found => simp [homing, found] at none
    · rfl

/-! ### The ACTUATOR request -/

theorem driveMode_ofCode (n : Nat) :
    (3 < n → DriveMode.ofCode n = none) ∧ (n ≤ 3 → ∃ m : DriveMode, m.code = n ∧ DriveMode.ofCode n = some m) := by
  match n with
  | 0 => exact ⟨by simp, fun _ => ⟨.tracked, rfl, rfl⟩⟩
  | 1 => exact ⟨by simp, fun _ => ⟨.edge, rfl, rfl⟩⟩
  | 2 => exact ⟨by simp, fun _ => ⟨.timed, rfl, rfl⟩⟩
  | 3 => exact ⟨by simp, fun _ => ⟨.direct, rfl, rfl⟩⟩
  | n + 4 => exact ⟨fun _ => rfl, fun small => by omega⟩

/-- The flap with the settings of a taken ACTUATOR. -/
def Flap.withSettings (f : Flap) (mode : DriveMode) (travelTime moveTimeout : Nat) : Flap :=
  { f with mode := mode, travelTime := travelTime, moveTimeout := moveTimeout }

theorem enterMode_eq (f : Flap) :
    f.enterMode = { f with demand := if f.mode = .direct ∧ f.inhibit = false then f.setPoint else f.demand } := by
  rw [Flap.enterMode]
  split <;> rfl

/-- What a taken ACTUATOR leaves of the flap, by its state (R114, R115, R129). -/
theorem storeActuator_flap (mode : DriveMode) (a b : Nat) (s : State) :
    (s.flap.state = .idle → mode = s.flap.mode → (storeActuator mode a b s).flap = (s.flap.withSettings mode a b).testDue)
      ∧ (s.flap.state = .idle → mode ≠ s.flap.mode →
          (storeActuator mode a b s).flap = (s.flap.withSettings mode a b).enterMode.testDue)
      ∧ (s.flap.state = .waitReady → mode = s.flap.mode → (storeActuator mode a b s).flap = s.flap.withSettings mode a b)
      ∧ (s.flap.state = .waitReady → mode ≠ s.flap.mode →
          (storeActuator mode a b s).flap = (s.flap.withSettings mode a b).toIdle.enterMode.testDue)
      ∧ (s.flap.state = .fault ∨ s.flap.state = .disabled → (storeActuator mode a b s).flap = s.flap.withSettings mode a b) := by
  refine ⟨fun state same => ?_, fun state other => ?_, fun state same => ?_, fun state other => ?_, fun state => ?_⟩
  · simp [storeActuator, state, same, Flap.withSettings]
  · simp [storeActuator, state, other, Flap.withSettings]
  · simp [storeActuator, state, same, Flap.withSettings]
  · simp [storeActuator, state, other, Flap.withSettings]
  · rcases state with h | h <;> simp [storeActuator, h, Flap.withSettings]

/-- A taken ACTUATOR stores its settings in every flap state that takes one, and leaves these fields (R114). -/
theorem storeActuator_settings (mode : DriveMode) (a b : Nat) (s : State) :
    (storeActuator mode a b s).flap.mode = mode ∧ (storeActuator mode a b s).flap.travelTime = a
      ∧ (storeActuator mode a b s).flap.moveTimeout = b ∧ (storeActuator mode a b s).flap.target = s.flap.target
      ∧ (storeActuator mode a b s).flap.failCount = s.flap.failCount
      ∧ (storeActuator mode a b s).flap.heldPosition = s.flap.heldPosition := by
  have entered : ∀ f : Flap, f.enterMode.testDue.mode = f.mode ∧ f.enterMode.testDue.travelTime = f.travelTime
      ∧ f.enterMode.testDue.moveTimeout = f.moveTimeout ∧ f.enterMode.testDue.target = f.target
      ∧ f.enterMode.testDue.failCount = f.failCount ∧ f.enterMode.testDue.heldPosition = f.heldPosition := by
    intro f
    have ⟨mode, travel, timeout, target, count, held, _⟩ := testDue_settings f.enterMode
    rw [mode, travel, timeout, target, count, held, enterMode_eq]
    exact ⟨rfl, rfl, rfl, rfl, rfl, rfl⟩
  have tested : ∀ f : Flap, f.testDue.mode = f.mode ∧ f.testDue.travelTime = f.travelTime ∧ f.testDue.moveTimeout = f.moveTimeout
      ∧ f.testDue.target = f.target ∧ f.testDue.failCount = f.failCount ∧ f.testDue.heldPosition = f.heldPosition := by
    intro f
    have ⟨mode, travel, timeout, target, count, held, _⟩ := testDue_settings f
    exact ⟨mode, travel, timeout, target, count, held⟩
  unfold storeActuator
  dsimp only
  split
  · split
    · exact entered _
    · exact tested _
  · split
    · exact entered _
    · exact ⟨rfl, rfl, rfl, rfl, rfl, rfl⟩
  all_goals exact ⟨rfl, rfl, rfl, rfl, rfl, rfl⟩

/-- A request that is taken: the event leaves u, and the reply goes out. -/
theorem takenAnswer {c : Instr} {r : Request} {s u : State} {result : ResultCode} {n : Nat} {body : List Byte}
    (request : requestOf c = some r) (free : PortFree s)
    (served : serveRequest r (s.atHead r) = sendReply r.code result body u) (link : u.link = (s.atHead r).link)
    (code : result.code = BitVec.ofNat 8 n) :
    exec c s = .next (sendReply r.code result body u) ∧ Answered r n body s (sendReply r.code result body u) := by
  have ⟨_, _, notHolding, _⟩ := free
  exact ⟨(exec_request_free request free).trans (congrArg _ served), answered_sendReply link rfl code notHolding⟩

/-- Settles O20: a known mode is stored, and the flap state decides what follows. -/
theorem actuatorStored : Obligations.ActuatorStored := by
  intro f s free
  obtain ⟨unknowns, knowns⟩ := driveMode_ofCode f.mode.toNat
  refine ⟨fun unknown => ?_, fun known moves => ?_, fun known notMoving notHoming => ?_⟩
  · exact onlyAnswered (result := .refusedValue) rfl free (by simp [serveRequest, serveActuator, unknowns unknown, Request.code]) rfl
  · obtain ⟨m, -, decodes⟩ := knowns known
    exact onlyAnswered (result := .refusedState) rfl free (by simp [serveRequest, serveActuator, decodes, moves, Request.code]) rfl
  · obtain ⟨m, code, decodes⟩ := knowns known
    set clamped := clamps 500 10000 f.travelTime || clamps 1000 20000 f.moveTimeout with clamped_def
    have result := toNat_result (clamped := clamped)
      (p := Outside 500 10000 f.travelTime.toNat ∨ Outside 1000 20000 f.moveTimeout.toNat)
      (by simp [clamped_def, clamps_iff])
    set u := storeActuator m (field 500 10000 f.travelTime) (field 1000 20000 f.moveTimeout) (s.atHead (.actuator f)) with u_def
    have served : serveRequest (.actuator f) (s.atHead (.actuator f)) = sendReply 0x09#8 (doneOr clamped) [] u := by
      simp [serveRequest, serveActuator, decodes, notMoving, notHoming, u_def, clamped_def]
    obtain ⟨next, answered⟩ := takenAnswer (c := .actuator f) rfl free served (by simp [u_def]) (doneOr_result clamped)
    have settings := storeActuator_settings m (field 500 10000 f.travelTime) (field 1000 20000 f.moveTimeout)
      (s.atHead (.actuator f))
    have byState := storeActuator_flap m (field 500 10000 f.travelTime) (field 1000 20000 f.moveTimeout) (s.atHead (.actuator f))
    rw [← u_def] at settings byState
    simp only [atHead_keeps] at settings byState
    obtain ⟨mode, travel, timeout, target, count, held⟩ := settings
    obtain ⟨idle, idleNew, waits, waitsNew, rests⟩ := byState
    refine ⟨_, clamped.toNat, next, answered, result.1, result.2, ⟨by simp [u_def], fun p unlisted => ?_⟩, ?_⟩
    · cases p <;> simp [Part.Same, u_def] at unlisted ⊢
    simp only [sendReply_keeps, mode, travel, timeout, target, count, held]
    refine ⟨code, field_eq _ (by decide), field_eq _ (by decide), trivial, trivial, trivial, rests,
      fun state same => by rw [waits state same, same]; rfl, fun state same => ?_, fun state other => ?_⟩
    · have follows := testDue_follows (f := s.flap.withSettings m (field 500 10000 f.travelTime) (field 1000 20000 f.moveTimeout)) state
      rw [← idle state same, same] at follows
      exact follows
    · rcases state with state | state
      · have follows := testDue_follows
          (f := (s.flap.withSettings m (field 500 10000 f.travelTime) (field 1000 20000 f.moveTimeout)).enterMode)
          (by rw [enterMode_eq]; exact state)
        rw [← idleNew state other, enterMode_eq] at follows
        simpa [Flap.withSettings, state] using follows
      · rw [if_pos state, waitsNew state other, enterMode_eq]
        exact testDue_follows rfl

/-! ### FLAP RECOVER -/

/-- A homing's drive lasts five quarters of the travel time, a fraction rounded either way (R127). -/
theorem homingDuration_bounds (x : Nat) : x * 5 ≤ homingDuration x * 4 + 3 ∧ homingDuration x * 4 ≤ x * 5 + 3 := by
  unfold homingDuration
  split
  · omega
  · split <;> omega

/-- The start of a homing with the FAULT line released, by the drive mode (R127). -/
theorem startHoming_free {s : State} (released : s.flap.faultLine = false) :
    (s.flap.mode = .tracked → startHoming s = s.withFlap (if s.flap.ready = true
        then ({ s.flap with state := .homing, homingWaiting := false } : Flap).issue 1000
        else { s.flap with state := .homing, homingWaiting := true, moveTimer := s.flap.newTimer }))
      ∧ (s.flap.mode = .edge → startHoming s
          = s.withFlap (({ s.flap with state := .homing, homingWaiting := false } : Flap).issue 1000))
      ∧ (s.flap.mode = .timed → startHoming s = s.withFlap { s.flap with
          state := .homing, homingWaiting := false, driveInFlight := some s.flap.homingDrive, towardFresh := true })
      ∧ (s.flap.mode = .direct → startHoming s
          = homingSuccess (s.withFlap { s.flap with state := .homing, homingWaiting := false, demand := 1000 })) := by
  refine ⟨fun mode => ?_, fun mode => ?_, fun mode => ?_, fun mode => ?_⟩
  · cases ready : s.flap.ready <;> simp [startHoming, mode, released, ready, Flap.newTimer]
  · simp [startHoming, mode, released]
  · simp [startHoming, mode, released, Flap.homingDrive]
  · simp [startHoming, mode, released]

/-- Under a standing FAULT line the homing fails in its own event (R126). -/
theorem startHoming_fault {s : State} (asserted : s.flap.faultLine = true) :
    (s.flap.mode ≠ .timed →
        startHoming s = homingFail .line (s.withFlap { s.flap with state := .homing, homingWaiting := false }))
      ∧ (s.flap.mode = .timed → startHoming s = homingFail .line (s.withFlap { s.flap with
          state := .homing, homingWaiting := false, driveInFlight := some s.flap.homingDrive })) := by
  refine ⟨fun mode => ?_, fun mode => ?_⟩
  · cases h : s.flap.mode with
    | timed => exact absurd h mode
    | _ => simp [startHoming, h, asserted]
  · simp [startHoming, mode, asserted, Flap.homingDrive]

/-- Settles O21: the homing of the drive mode, the FAULT line standing or not. -/
theorem flapRecoverTaken : Obligations.FlapRecoverTaken := by
  intro s free
  refine ⟨fun refused => ?_, fun fault released => ?_⟩
  · refine onlyAnswered (result := .refusedState) rfl free ?_ rfl
    have other : ¬(s.flap.state = .fault ∧ s.flap.inhibit = false) := by
      rcases refused with h | h <;> simp [h]
    simp [serveRequest, serveFlapRecover, other, Request.code]
  · have served : serveRequest .flapRecover (s.atHead .flapRecover)
        = sendReply 0x0A#8 .done [] (startHoming (s.atHead .flapRecover)) := by
      simp [serveRequest, serveFlapRecover, fault, released]
    obtain ⟨next, answered⟩ := takenAnswer (c := .flapRecover) (n := 0) rfl free served (by simp) rfl
    refine ⟨_, next, answered, ⟨by simp, fun p unlisted => ?_⟩, ?_⟩
    · cases p <;> simp [Part.Same] at unlisted ⊢
    simp only [sendReply_keeps]
    have fails := startHoming_fault (s := s.atHead .flapRecover)
    have starts := startHoming_free (s := s.atHead .flapRecover)
    simp only [atHead_keeps] at fails starts
    refine ⟨fun line => ?_, fun line mode => ?_, fun line mode => ?_, fun line mode ready => ?_, fun line mode => ?_⟩
    · obtain ⟨other, timed⟩ := fails line
      by_cases mode : s.flap.mode = .timed
      · refine ⟨some s.flap.homingDrive, fun no => absurd mode no, fun _ => ⟨_, rfl, rfl, rfl, rfl⟩, ?_⟩
        rw [timed mode]
        exact homingFail_failed .line _
      · refine ⟨s.flap.driveInFlight, fun _ => rfl, fun yes => absurd yes mode, ?_⟩
        rw [other mode]
        exact homingFail_failed .line _
    · obtain ⟨-, -, timed, -⟩ := starts line
      rw [timed mode]
      have ⟨low, high⟩ := homingDuration_bounds s.flap.travelTime
      exact ⟨rfl, rfl, rfl, _, rfl, rfl, rfl, rfl, low, high⟩
    · obtain ⟨tracked, edge, -, -⟩ := starts line
      rcases mode with mode | ⟨mode, ready⟩
      · rw [edge mode]
        exact ⟨rfl, rfl, rfl, rfl⟩
      · rw [tracked mode, if_pos ready]
        exact ⟨rfl, rfl, rfl, rfl⟩
    · obtain ⟨tracked, -, -, -⟩ := starts line
      rw [tracked mode, if_neg (by simp [ready])]
      exact ⟨rfl, rfl, rfl, rfl⟩
    · obtain ⟨-, -, -, direct⟩ := starts line
      rw [direct mode]
      set u := (s.atHead .flapRecover).withFlap { s.flap with state := .homing, homingWaiting := false, demand := 1000 }
      have here : u.flap.homed.position (u.usable .fpos) = 1000 := by simp [u, Flap.position, Flap.homed, mode]
      have pends : Pends (.moveDone (u.flap.homed.position (u.usable .fpos))) (homingSuccess u) := completeMove_pends _ u
      rw [here] at pends
      exact ⟨homingSuccess_follows u, pends⟩

end Sys2Proof.Machine
end

section
/-! What the vehicle state does with a reported speed and an open door (section 5.3): the stop that starts, counted by an active tally, the
stop end that turns the STOP slots OFF, and the delivery of a changed speed; and with them the obligations O16, O48 and O51. -/

namespace Sys2Proof.Machine

/-! ### Entries of the vehicle state -/

section
variable (s : State)

theorem tallyStop_tally : (tallyStop s).tally = stopCounted s.tally := by
  unfold tallyStop stopCounted
  split
  · simp [saturatingAdd_eq]
  · rfl

/-- An entry to AT-STOP: a stop starts, and is counted, where none had (R100, R148). -/
theorem enterAtStop_eq : (enterAtStop s).drive = { s.drive with vehicle := .atStop, stopFlag := true }
    ∧ (enterAtStop s).tally = if s.drive.stopFlag = false then stopCounted s.tally else s.tally := by
  unfold enterAtStop
  dsimp only
  cases s.drive.stopFlag <;> simp [tallyStop_tally]

theorem watchStopEnd_get (n : SlotNumber) : (watchStopEnd s).watch.get n = (s.watch.get n).atStopEnd := by
  cases n <;> rfl

/-- An entry to MOVING ends a stop that runs (R101). -/
theorem enterMoving_eq : (enterMoving s).drive = { s.drive with vehicle := .moving, stopFlag := false }
    ∧ ∀ n, (enterMoving s).watch.get n = if s.drive.stopFlag = true then (s.watch.get n).atStopEnd else s.watch.get n := by
  unfold enterMoving
  dsimp only
  cases s.drive.stopFlag <;> simp [watchStopEnd_get]

theorem enterMoving_time : (enterMoving s).uptime = s.uptime := by simp

/-- The entry of a truck that comes to stand: AT-STOP with a door open, else HALTED (R99, R100). -/
theorem enterStanding_eq :
    (s.drive.anyOpen = true → (enterStanding s).drive = { s.drive with vehicle := .atStop, stopFlag := true })
      ∧ (s.drive.anyOpen = false → (enterStanding s).drive = { s.drive with vehicle := .halted })
      ∧ (enterStanding s).tally = if s.drive.anyOpen = true ∧ s.drive.stopFlag = false then stopCounted s.tally else s.tally := by
  obtain ⟨drive, tally⟩ := enterAtStop_eq s
  unfold enterStanding
  cases s.drive.anyOpen <;> simp [drive, tally, setVehicle]

end

/-! ### A reported speed -/

/-- A speed up to 5 km/h brings a moving truck to stand and changes nothing else (R99). -/
theorem vehicleSpeed_slow {s : State} (slow : s.drive.reportedSpeed ≤ 5) :
    vehicleSpeed s = if s.drive.vehicle = .moving then enterStanding s else s := by
  unfold vehicleSpeed
  split
  next state => simp [state]
  next state => rw [if_neg (by omega), if_pos state]
  next state => rw [if_neg (by omega), if_neg (by simp [state])]
  next state => rw [if_neg (by omega), if_neg (by simp [state])]

/-- A speed above 5 km/h sets a standing truck in motion and changes nothing else (R99). -/
theorem vehicleSpeed_fast {s : State} (fast : 5 < s.drive.reportedSpeed) :
    vehicleSpeed s = if s.drive.vehicle = .halted ∨ s.drive.vehicle = .atStop then enterMoving s else s := by
  unfold vehicleSpeed
  split
  next state => simp [state]
  next state => rw [if_pos fast, if_neg (by simp [state])]
  next state => rw [if_pos fast, if_pos (by simp [state])]
  next state => rw [if_pos fast, if_pos (by simp [state])]

/-- The vehicle state a reported speed gives a truck, which is not PARKED where it is above 5 km/h (R99 to R101). -/
theorem vehicleSpeed_drive {s : State} (driving : 5 < s.drive.reportedSpeed → s.drive.vehicle ≠ .parked) :
    (vehicleSpeed s).drive = { s.drive with
        vehicle := (vehicleSpeed s).drive.vehicle, stopFlag := (vehicleSpeed s).drive.stopFlag }
      ∧ (5 < s.drive.reportedSpeed → (vehicleSpeed s).drive.vehicle = .moving
          ∧ (s.drive.vehicle ≠ .moving → (vehicleSpeed s).drive.stopFlag = false))
      ∧ (s.drive.reportedSpeed ≤ 5 → s.drive.vehicle ≠ .moving → (vehicleSpeed s).drive.vehicle = s.drive.vehicle)
      ∧ (s.drive.reportedSpeed ≤ 5 → s.drive.vehicle = .moving → s.drive.anyOpen = true →
          (vehicleSpeed s).drive.vehicle = .atStop ∧ (vehicleSpeed s).drive.stopFlag = true)
      ∧ (s.drive.reportedSpeed ≤ 5 → s.drive.vehicle = .moving → s.drive.anyOpen = false →
          (vehicleSpeed s).drive.vehicle = .halted) := by
  obtain ⟨opened, closed, -⟩ := enterStanding_eq s
  by_cases moving : s.drive.vehicle = .moving
  · by_cases fast : 5 < s.drive.reportedSpeed
    · rw [vehicleSpeed_fast fast, if_neg (by simp [moving])]
      exact ⟨rfl, fun _ => ⟨moving, fun other => absurd moving other⟩, by omega, by omega, by omega⟩
    · rw [vehicleSpeed_slow (by omega), if_pos moving]
      cases anyOpen : s.drive.anyOpen
      · simp [closed anyOpen, moving, fast]
      · simp [opened anyOpen, moving, fast]
  · by_cases fast : 5 < s.drive.reportedSpeed
    · have stands : s.drive.vehicle = .halted ∨ s.drive.vehicle = .atStop := by
        have driven := driving fast
        cases h : s.drive.vehicle <;> simp [h] at driven moving ⊢
      rw [vehicleSpeed_fast fast, if_pos stands, (enterMoving_eq s).1]
      exact ⟨rfl, fun _ => ⟨rfl, fun _ => rfl⟩, by omega, by omega, by omega⟩
    · rw [vehicleSpeed_slow (by omega), if_neg moving]
      exact ⟨rfl, fun yes => absurd yes fast, fun _ _ => rfl, fun _ yes => absurd yes moving, fun _ yes => absurd yes moving⟩

/-- A stop that a reported speed starts is counted (R148). -/
theorem vehicleSpeed_tally (s : State) : (vehicleSpeed s).tally
    = if s.drive.vehicle = .moving ∧ (vehicleSpeed s).drive.vehicle = .atStop ∧ s.drive.stopFlag = false then stopCounted s.tally
      else s.tally := by
  obtain ⟨opened, closed, tally⟩ := enterStanding_eq s
  by_cases fast : 5 < s.drive.reportedSpeed
  · rw [vehicleSpeed_fast fast]
    split
    · rw [if_neg (by simp)]
      simp
    · rw [if_neg (by rintro ⟨moving, stands, -⟩; simp [moving] at stands)]
  · rw [vehicleSpeed_slow (by omega)]
    split
    · next moving =>
      rw [tally]
      cases anyOpen : s.drive.anyOpen
      · simp [closed anyOpen]
      · simp [opened anyOpen, moving]
    · next still => rw [if_neg (by simp [still])]

/-- The slots after a reported speed: a stop end turns those of scope STOP OFF before the speed is delivered (R173, R177, log 31). -/
theorem vehicleSpeed_watch {s : State} (driving : 5 < s.drive.reportedSpeed → s.drive.vehicle ≠ .parked) (v : Int) (n : SlotNumber) :
    (deliver .speed v (vehicleSpeed s)).watch.get n =
      if (s.watch.get n).scope = .stop ∧ s.drive.stopFlag = true ∧ s.drive.vehicle ≠ .moving ∧ 5 < s.drive.reportedSpeed then
        { s.watch.get n with scope := .off, armed := false }
      else if (s.watch.get n).quantity = .speed then slotEvaluated (s.watch.get n) v s.uptime else s.watch.get n := by
  rw [deliver_get]
  by_cases fast : 5 < s.drive.reportedSpeed
  · rw [vehicleSpeed_fast fast]
    by_cases moving : s.drive.vehicle = .moving
    · have none : ¬((s.watch.get n).scope = .stop ∧ s.drive.stopFlag = true ∧ s.drive.vehicle ≠ .moving
          ∧ 5 < s.drive.reportedSpeed) := fun all => all.2.2.1 moving
      rw [if_neg (by simp [moving] : ¬(s.drive.vehicle = .halted ∨ s.drive.vehicle = .atStop)), if_neg none]
    · have stands : s.drive.vehicle = .halted ∨ s.drive.vehicle = .atStop := by
        have driven := driving fast
        cases h : s.drive.vehicle <;> simp [h] at driven moving ⊢
      rw [if_pos stands, (enterMoving_eq s).2 n, enterMoving_time]
      by_cases stop : s.drive.stopFlag = true
      · by_cases scope : (s.watch.get n).scope = .stop
        · simp [WatchSlot.atStopEnd, scope, stop, moving, fast, slotEvaluated_off]
        · simp [WatchSlot.atStopEnd, scope, stop]
      · simp [stop]
  · have none : ¬((s.watch.get n).scope = .stop ∧ s.drive.stopFlag = true ∧ s.drive.vehicle ≠ .moving
        ∧ 5 < s.drive.reportedSpeed) := fun all => fast all.2.2.2
    rw [vehicleSpeed_slow (by omega), if_neg none]
    split
    · simp
    · rfl

theorem speedDelivered_same {s : State} {old : Nat} (same : s.drive.reportedSpeed = old) : speedDelivered old s = s := by
  rw [speedDelivered, if_pos same]

theorem speedDelivered_new {s : State} {old : Nat} (new : s.drive.reportedSpeed ≠ old) :
    speedDelivered old s = deliver .speed s.drive.reportedSpeed (vehicleSpeed s) := by
  rw [speedDelivered, if_neg new]

theorem deliver_drive (q : Quantity) (v : Int) (s : State) : (deliver q v s).drive = s.drive := by simp

/-! ### The DRIVE age and the uptime -/

/-- Settles O48: the two ages by the freshness, and the second by the count's end. -/
theorem driveAgesAndUptime : Obligations.DriveAgesAndUptime := by
  intro s
  refine ⟨fun fresh => ?_, fun other => ?_, fun known => ?_, fun unknown => ?_, fun below => ?_, fun full => ?_⟩
  · show Host.Outcome.next (driveStale s) = _
    simp [driveStale, fresh, State.withDrive]
  · show Host.Outcome.next (driveStale s) = _
    cases h : s.drive.freshness <;> simp [driveStale, h] at other ⊢
  · set u := s.withDrive { s.drive with freshness := .silent, ageMs := 30000 } with u_def
    have old : s.drive.reportedSpeed = s.drive.lastSpeed := by rcases known with h | h <;> simp [Drive.reportedSpeed, h]
    have speed : u.drive.reportedSpeed = 0 := rfl
    have ends : driveSilent s = speedDelivered s.drive.lastSpeed u := by
      rw [← old]
      rcases known with h | h <;> simp [driveSilent, h, u_def]
    refine ⟨driveSilent s, rfl, ⟨by simp, fun p unlisted => ?_⟩, ?_⟩
    · cases p <;> simp [Part.Same] at unlisted ⊢
    rw [ends]
    by_cases zero : s.drive.lastSpeed = 0
    · rw [speedDelivered_same (by rw [speed, zero])]
      refine ⟨rfl, rfl, rfl, rfl, rfl, fun _ => rfl, fun _ positive => by omega, ?_, fun positive => by omega, fun _ =>
        ⟨⟨rfl, fun p unlisted => ?_⟩, rfl⟩⟩
      · rw [if_neg (by rintro ⟨moving, stands, -⟩; simp [u_def, moving] at stands)]
        rfl
      · cases p <;> simp [Part.Same, u_def] at unlisted ⊢
    · rw [speedDelivered_new (by rw [speed]; exact fun h => zero h.symm), speed]
      have slow : ¬5 < u.drive.reportedSpeed := by omega
      have watch := vehicleSpeed_watch (s := u) (fun fast => absurd fast slow) (0 : Nat)
      have tally := vehicleSpeed_tally u
      have ⟨drive, _, stays, stops, halts⟩ := vehicleSpeed_drive (s := u) (fun fast => absurd fast slow)
      have opens : u.drive.anyOpen = (s.drive.drv.isOpen || s.drive.krb.isOpen) := rfl
      simp only [deliver_keeps]
      rw [drive]
      refine ⟨rfl, rfl, rfl, rfl, rfl, fun still => stays (by omega) still, fun moving _ => ?_, tally, fun _ n => ?_,
        fun none => absurd none zero⟩
      · cases open_ : (s.drive.drv.isOpen || s.drive.krb.isOpen)
        · rw [if_neg (by simpa using open_)]
          exact halts (by omega) moving (opens.trans open_)
        · rw [if_pos (by simpa using open_)]
          exact (stops (by omega) moving (opens.trans open_)).1
      · rw [watch n, if_neg (fun all => slow all.2.2.2)]
        rfl
  · show Host.Outcome.next (driveSilent s) = _
    rcases unknown with h | h <;> simp [driveSilent, h]
  · have count : (s.uptime + 1) % 4294967296 = s.uptime + 1 := by omega
    show Host.Outcome.next (secondPasses s) = _
    rw [secondPasses, count]
    rfl
  · have count : (s.uptime + 1) % 4294967296 = 0 := by omega
    show Host.Outcome.next (secondPasses s) = _
    rw [secondPasses, count]
    rfl

/-! ### The stall input -/

/-- Settles O51: the stall's edges, and COMFORT's rise from level 0 by the handing of its demand. -/
theorem stallTaken : Obligations.StallTaken := by
  refine ⟨fun s => ⟨fun released turning running => ?_, fun released still => ?_, fun asserted => ?_, rfl⟩,
    fun level s free fresh driving noPurge demand still stall running positive => ?_⟩
  · have acts : stallAsserted s = raise .blowerFault (s.withBlower { s.blower with stall := true, fault := true }) := by
      simp [stallAsserted, stallActs, released, turning, running, State.withBlower]
    refine ⟨stallAsserted s, rfl, ⟨by simp, fun p unlisted => ?_⟩, ?_⟩
    · cases p <;> simp [Part.Same] at unlisted ⊢
    · rw [acts]
      exact ⟨rfl, raise_pends .blowerFault _ (by simp [NoticeKind.single, Notice.kind])⟩
  · show Host.Outcome.next (stallAsserted s) = _
    simp [stallAsserted, stallActs, released, still, State.withBlower]
  · show Host.Outcome.next (stallAsserted s) = _
    simp [stallAsserted, asserted]
  · have ⟨pos, seven⟩ : 0 < min level.toNat 7 ∧ min level.toNat 7 ≤ 7 := by omega
    set u := (s.atHead (.comfort level)).withPolicy { s.policy with comfort := field 0 7 level } with u_def
    have follows := recomputeDemand_follows (s := u) (by simp [u_def, still, demand])
    have due : (recomputeDemand u).policy.demand = min level.toNat 7 := by
      rw [recomputeDemand_policy, demandDue_eq]
      simp [u_def, driving, noPurge, fresh, demandByTable, comfort_field]
    obtain ⟨blower, notes⟩ := follows
    have handed : (recomputeDemand u).blower = { s.blower with level := min level.toNat 7, fault := true } := by
      rw [blower, due]
      simp [blowerHanded, u_def, still, stall, pos]
    refine ⟨_, exec_request_free rfl free, serveComfort_onlyChanges level s (.comfort level), handed, ?_⟩
    exact notes running (by rw [handed])

/-! ### The DRIVE request -/

/-- The state with a taken DRIVE's report stored (R96). -/
def State.reported (speed : Nat) (engine : Engine) (s : State) : State :=
  s.withDrive { s.drive with lastSpeed := speed, engine := some engine, ageMs := 0, freshness := .fresh }

theorem takeDrive_driving {speed : Nat} {engine : Engine} {s : State} (stays : s.drive.vehicle ≠ .parked ∨ engine ≠ .run) :
    takeDrive speed engine s = speedDelivered s.drive.reportedSpeed (s.reported speed engine) := by
  have same : (s.isParked && decide (engine = .run)) = false := by
    rcases stays with h | h <;> simp [State.isParked, h]
  simp [takeDrive, same, State.reported]

theorem engine_ofCode (n : Nat) : (1 < n → Engine.ofCode n = none) ∧ Engine.ofCode 0 = some .run ∧ Engine.ofCode 1 = some .stop := by
  refine ⟨fun unknown => ?_, rfl, rfl⟩
  match n with
  | n + 2 => rfl

/-- Settles O16: an unknown engine refused, else the report stored and what its speed brings. -/
theorem driveTaken : Obligations.DriveTaken := by
  intro v e s free
  obtain ⟨unknowns, run, stop⟩ := engine_ofCode e.toNat
  have clampedTo : field 0 250 v = min v.toNat 250 := by
    rw [field_eq v (by decide), toRange, Nat.zero_max]
  have code : (doneOr (clamps 0 250 v)).code = BitVec.ofNat 8 (if 250 < v.toNat then 1 else 0) := by
    rw [doneOr_code]
    simp [clamps]
  refine ⟨fun unknown => ?_, fun known driving => ?_, fun known parked => ?_⟩
  · exact onlyAnswered (result := .refusedValue) rfl free (by simp [serveRequest, serveDrive, unknowns unknown, Request.code]) rfl
  · set engine : Engine := if e.toNat = 0 then .run else .stop with engine_def
    have decodes : Engine.ofCode e.toNat = some engine := by
      rcases Nat.le_one_iff_eq_zero_or_eq_one.mp known with h | h <;> simp [engine_def, h, run, stop]
    set t := (s.atHead (.drive v e)).reported (min v.toNat 250) engine with t_def
    set u := speedDelivered s.drive.reportedSpeed t with u_def
    have served : serveRequest (.drive v e) (s.atHead (.drive v e)) = sendReply 0x06#8 (doneOr (clamps 0 250 v)) [] u := by
      simp [serveRequest, serveDrive, decodes, takeDrive_driving (s := s.atHead (.drive v e)) (Or.inl (by exact driving)), clampedTo,
        u_def, t_def]
    obtain ⟨next, answered⟩ := takenAnswer (c := .drive v e) rfl free served (by simp [u_def, t_def, State.reported]) code
    have speed : t.drive.reportedSpeed = min v.toNat 250 := rfl
    have same : min v.toNat 250 = s.drive.reportedSpeed → u = t := fun h => speedDelivered_same (speed.trans h)
    have new : min v.toNat 250 ≠ s.drive.reportedSpeed → u = deliver .speed (min v.toNat 250 : Nat) (vehicleSpeed t) :=
      fun h => by rw [u_def, speedDelivered_new (by rw [speed]; exact h), speed]
    have ⟨moved, fasts, slows, stops, halts⟩ := vehicleSpeed_drive (s := t) (fun _ => driving)
    have drive : u.drive = { t.drive with vehicle := u.drive.vehicle, stopFlag := u.drive.stopFlag } := by
      by_cases h : min v.toNat 250 = s.drive.reportedSpeed
      · rw [same h]
      · rw [new h, deliver_drive]
        exact moved
    refine ⟨_, next, answered, ⟨by simp [u_def, t_def, State.reported], fun p unlisted => ?_⟩, ?_⟩
    · cases p <;> simp [Part.Same, u_def, t_def, State.reported] at unlisted ⊢
    simp only [sendReply_keeps]
    refine ⟨by rw [drive]; rfl, by rw [drive]; rfl, by rw [drive]; rfl, by rw [drive]; rfl, by rw [drive]; rfl, by rw [drive]; rfl,
      ?_, fun h => ?_, fun h fast => ?_, fun h slow => ?_, fun h n => ?_⟩
    · by_cases h : min v.toNat 250 = s.drive.reportedSpeed
      · have none : ¬(s.drive.vehicle = .moving ∧ t.drive.vehicle = .atStop ∧ s.drive.stopFlag = false) := by
          rintro ⟨moving, stands, -⟩
          cases moving.symm.trans stands
        rw [same h, if_neg none]
        rfl
      · rw [new h, deliver_drive]
        simp only [deliver_keeps]
        exact vehicleSpeed_tally t
    · rw [same h]
      exact ⟨rfl, rfl, rfl⟩
    · rw [new h, deliver_drive]
      exact fasts (by omega)
    · rw [new h, deliver_drive]
      refine ⟨slows (by omega), fun moving opens => stops (by omega) moving ?_, fun moving drv krb => halts (by omega) moving ?_⟩
      · simpa [Drive.anyOpen, t_def, State.reported] using opens
      · simp [Drive.anyOpen, t_def, State.reported, drv, krb]
    · rw [new h, vehicleSpeed_watch (s := t) (fun _ => driving)]
      have fast : 5 < t.drive.reportedSpeed ↔ 5 < v.toNat := by rw [speed]; omega
      simp only [fast]
      rfl
  · have decodes : Engine.ofCode e.toNat = some .stop := by rw [known, stop]
    set t := (s.atHead (.drive v e)).reported (min v.toNat 250) .stop with t_def
    set u := speedDelivered s.drive.reportedSpeed t with u_def
    have served : serveRequest (.drive v e) (s.atHead (.drive v e)) = sendReply 0x06#8 (doneOr (clamps 0 250 v)) [] u := by
      simp [serveRequest, serveDrive, decodes, takeDrive_driving (s := s.atHead (.drive v e)) (Or.inr (by decide : Engine.stop ≠ .run)),
        clampedTo, u_def, t_def]
    obtain ⟨next, answered⟩ := takenAnswer (c := .drive v e) rfl free served (by simp [u_def, t_def, State.reported]) code
    have speed : t.drive.reportedSpeed = min v.toNat 250 := rfl
    have stands : vehicleSpeed t = t := by simp [vehicleSpeed, t_def, State.reported, parked]
    have same : min v.toNat 250 = s.drive.reportedSpeed → u = t := fun h => speedDelivered_same (speed.trans h)
    have new : min v.toNat 250 ≠ s.drive.reportedSpeed → u = deliver .speed (min v.toNat 250 : Nat) t :=
      fun h => by rw [u_def, speedDelivered_new (by rw [speed]; exact h), speed, stands]
    have kept : u.drive = t.drive ∧ u.tally = t.tally := by
      by_cases h : min v.toNat 250 = s.drive.reportedSpeed
      · rw [same h]
        exact ⟨rfl, rfl⟩
      · rw [new h]
        simp
    obtain ⟨drive, tally⟩ := kept
    refine ⟨_, next, answered, ⟨by simp [u_def, t_def, State.reported], fun p unlisted => ?_⟩, ?_⟩
    · cases p <;> simp [Part.Same, u_def, t_def, State.reported] at unlisted ⊢
      exact tally
    simp only [sendReply_keeps]
    refine ⟨drive, by rw [drive]; exact parked, fun h => ⟨?_, fun p unlisted => ?_⟩, fun h => ?_⟩
    · simp [u_def, t_def, State.reported]
    · rw [same h]
      cases p <;> simp [Part.Same, t_def, State.reported] at unlisted ⊢
    · rw [new h]
      exact deliver_delivered .speed (min v.toNat 250 : Nat) t

end Sys2Proof.Machine
end

section
/-! What a full decision leaves (R39 to R46): the admissible candidates are those the rules spell, the six bases and the fixed modes give
their target, a change of the target is handed to the flap, and the blower demand follows. -/

namespace Sys2Proof.Machine

/-! ### Candidates -/

theorem flowTable_eq (n : Nat) : flowTable n = ((([0, 60, 100, 140, 180, 230, 280, 340] : List Nat).getD n 340 : Nat) : Int) := by
  match n with
  | 0 | 1 | 2 | 3 | 4 | 5 | 6 | 7 => rfl
  | n + 8 => simp [flowTable]

/-- The flow the model works out, at every level (R6, R36). -/
theorem flow_byRules (s : State) : s.flow = flowByRules s := by
  simp only [State.flow, flowOf, flowByRules, flowTable_eq, derate_eq]

/-- The working values at the present flow. -/
def State.working (s : State) : WorkingValues := s.workingValues s.flow

/-- A candidate is admissible where the rules say so (R37, R38). -/
theorem admissible_iff (s : State) {f : Int} (positive : f ≠ 0) :
    admissible s.working s.policy.limits f = true ↔ Admissible s f := by
  simp [admissible, Admissible, positive, State.working, State.workingValues, State.outsideAh, outsideAhByRules, exchange,
    exchangeByRules, sourceCo2, sourceAh, flow_byRules, sat_eq, and_assoc]

theorem admissibleZero_iff (s : State) :
    admissibleZero s.working s.policy.limits s.est.eco s.est.eah = true ↔ Admissible s 0 := by
  simp [admissibleZero, Admissible, State.working, State.workingValues, sourceCo2, sourceAh, sat_eq]

/-- Base 2 takes the lowest of 500, 750 and 1000 that is admissible, else 1000 (R42). -/
theorem ceilingTarget_lowest (s : State) :
    (∀ f, LowestAdmissible s [500, 750, 1000] f → ceilingTarget s.working s.policy.limits = f)
      ∧ ((∀ f ∈ ([500, 750, 1000] : List Int), ¬Admissible s f) → ceilingTarget s.working s.policy.limits = 1000) := by
  have a500 := admissible_iff s (f := 500) (by decide)
  have a750 := admissible_iff s (f := 750) (by decide)
  unfold ceilingTarget
  refine ⟨fun f ⟨mem, passes, least⟩ => ?_, fun none => ?_⟩
  · have no500 : f ≠ 500 → ¬Admissible s 500 := fun other => least 500 (by simp) (by simp at mem; omega)
    have no750 : f = 1000 → ¬Admissible s 750 := fun top => least 750 (by simp) (by omega)
    simp only [List.mem_cons, List.not_mem_nil, or_false] at mem
    rcases mem with rfl | rfl | rfl
    · rw [if_pos (a500.mpr passes)]
    · rw [if_neg (mt a500.mp (no500 (by decide))), if_pos (a750.mpr passes)]
    · rw [if_neg (mt a500.mp (no500 (by decide))), if_neg (mt a750.mp (no750 rfl))]
  · rw [if_neg (mt a500.mp (none 500 (by simp))), if_neg (mt a750.mp (none 750 (by simp)))]

/-- Base 5 takes the lowest admissible candidate, if there is one (R42). -/
theorem lowestCandidate_lowest (s : State) :
    (∀ f, LowestAdmissible s [0, 125, 250, 500, 750, 1000] f →
        lowestCandidate s.working s.policy.limits s.est.eco s.est.eah = some f)
      ∧ ((∀ f ∈ ([0, 125, 250, 500, 750, 1000] : List Int), ¬Admissible s f) →
          lowestCandidate s.working s.policy.limits s.est.eco s.est.eah = none) := by
  have a0 := admissibleZero_iff s
  have a : ∀ f : Int, f ≠ 0 → (admissible s.working s.policy.limits f = true ↔ Admissible s f) := fun f => admissible_iff s
  unfold lowestCandidate
  refine ⟨fun f ⟨mem, passes, least⟩ => ?_, fun none => ?_⟩
  · simp only [List.mem_cons, List.not_mem_nil, or_false] at mem
    simp only [List.mem_cons, List.not_mem_nil, or_false, forall_eq_or_imp, forall_eq, ← a0, ← a 125 (by decide),
      ← a 250 (by decide), ← a 500 (by decide), ← a 750 (by decide)] at least
    obtain ⟨l0, l125, l250, l500, l750, -⟩ := least
    rcases mem with rfl | rfl | rfl | rfl | rfl | rfl
    · rw [if_pos (a0.mpr passes)]
    · rw [if_neg (l0 (by decide)), if_pos ((a _ (by decide)).mpr passes)]
    · rw [if_neg (l0 (by decide)), if_neg (l125 (by decide)), if_pos ((a _ (by decide)).mpr passes)]
    · rw [if_neg (l0 (by decide)), if_neg (l125 (by decide)), if_neg (l250 (by decide)),
        if_pos ((a _ (by decide)).mpr passes)]
    · rw [if_neg (l0 (by decide)), if_neg (l125 (by decide)), if_neg (l250 (by decide)), if_neg (l500 (by decide)),
        if_pos ((a _ (by decide)).mpr passes)]
    · rw [if_neg (l0 (by decide)), if_neg (l125 (by decide)), if_neg (l250 (by decide)), if_neg (l500 (by decide)),
        if_neg (l750 (by decide)), if_pos ((a _ (by decide)).mpr passes)]
  · simp only [List.mem_cons, List.not_mem_nil, or_false, forall_eq_or_imp, forall_eq, ← a0, ← a 125 (by decide),
      ← a 250 (by decide), ← a 500 (by decide), ← a 750 (by decide), ← a 1000 (by decide)] at none
    obtain ⟨l0, l125, l250, l500, l750, l1000⟩ := none
    rw [if_neg l0, if_neg l125, if_neg l250, if_neg l500, if_neg l750, if_neg l1000]

/-- The open-air test is the one the rules spell (R42 base 4, R46). -/
theorem openAir_iff (s : State) : s.openAir = true ↔ OpenAir s := by
  have heard : ∀ r : ChannelRecord, (!r.onSubstitute) = true ↔ r.state = .live ∨ r.state = .stale := fun r => by
    cases h : r.state <;> simp [ChannelRecord.onSubstitute, h]
  have quiet : (!s.tracker.anyOpen) = true ↔ s.tracker.pm.openEpisode = none ∧ s.tracker.gas.openEpisode = none := by
    cases h : s.tracker.pm.openEpisode <;> cases h' : s.tracker.gas.openEpisode <;> simp [Tracker.anyOpen, h, h']
  have recent : (fun e : Episode => decide (s.uptime ≤ e.start + 300)) = fun e => decide ((s.uptime : Int) - 300 ≤ e.start) := by
    funext e
    congr 1
    apply propext
    omega
  have canyon : (!s.streetCanyon) = true
      ↔ (s.tracker.table.filter fun e => decide ((s.uptime : Int) - 300 ≤ e.start)).length < 3 := by
    simp [State.streetCanyon, recent]
  rw [State.openAir]
  simp only [Bool.and_eq_true, decide_eq_true_eq, heard, quiet, canyon, OpenAir, and_assoc]

theorem dwellPassed_iff (s : State) :
    s.dwellPassed = true ↔ ∀ c, s.policy.lastChange = some c → (s.policy.limits.changeDwell : Int) ≤ (s.uptime : Int) - c := by
  unfold State.dwellPassed
  cases h : s.policy.lastChange <;> simp

/-- A target subject to the change dwell (R43). -/
theorem applyDwelled_dwelled (f : Int) (b : Basis) (s : State) : DwelledTo f b s (applyDwelled f b s) := by
  unfold applyDwelled
  simp only [dwellPassed_iff]
  split
  · next applies =>
    refine ⟨by simp, fun _ => by simp, fun c last other early => ?_⟩
    rcases applies with same | passed
    · exact absurd same other
    · have late := passed c last
      omega
  · next holds => exact ⟨by simp, fun applies => absurd applies holds, fun _ _ _ _ => by simp⟩

/-! ### The target and the flap -/

/-- A change of the target is dated and handed to the flap, where it is a new one (R30, R121). -/
theorem setTarget_follows (x : Int) (s : State) : TargetFollows s (setTarget x s) := by
  have target : (setTarget x s).policy.target = x := by simp
  by_cases same : x = s.policy.target
  · have stands : setTarget x s = s := by rw [setTarget, if_pos same]
    rw [stands]
    exact ⟨fun _ => ⟨rfl, rfl⟩, fun other => absurd rfl other⟩
  · have hands : setTarget x s = flapTarget x (s.withPolicy { s.policy with target := x, lastChange := some s.uptime }) := by
      rw [setTarget, if_neg same]
    refine ⟨fun stays => absurd (target.symm.trans stays) same, fun _ => ⟨by simp [same], ?_, ?_⟩⟩
    · rw [target, hands]
      exact flapTarget_handed x (s.withPolicy { s.policy with target := x, lastChange := some s.uptime })
    · intro d moving released timed drive arrives
      rw [target] at arrives ⊢
      rw [hands, flapTarget_retarget (by exact moving) (by exact released) (by exact timed) (by exact drive), if_pos arrives]
      have ends := completeMove_pends (({ s.flap with target := x } : Flap).driveEnded (reachedByRules d))
        (s.withPolicy { s.policy with target := x, lastChange := some s.uptime })
      have here : (({ s.flap with target := x } : Flap).driveEnded (reachedByRules d)).toIdle.position (s.usable .fpos) = x := by
        simp [Flap.position, Flap.toIdle, Flap.driveEnded, Flap.linesOff, Flap.timedPosition, timed, arrives]
      have usable : (s.withPolicy { s.policy with target := x, lastChange := some s.uptime }).usable .fpos = s.usable .fpos := rfl
      rw [usable, here] at ends
      exact ends

section
variable {s t u : State}

/-- What comes before the hand-over leaves the target, its last change and the flap. -/
theorem TargetFollows.after (h : TargetFollows s t) (target : u.policy.target = s.policy.target)
    (last : u.policy.lastChange = s.policy.lastChange) (flap : u.flap = s.flap) (time : u.uptime = s.uptime) :
    TargetFollows u t := by
  unfold TargetFollows
  rw [target, last, flap, time]
  exact h

/-- What comes after the hand-over leaves them too. -/
theorem TargetFollows.then (h : TargetFollows s t) (target : u.policy.target = t.policy.target)
    (last : u.policy.lastChange = t.policy.lastChange) (flap : u.flap = t.flap)
    (keeps : ∀ x, Pends (.moveDone x) t → Pends (.moveDone x) u) : TargetFollows s u := by
  obtain ⟨stays, moves⟩ := h
  unfold TargetFollows
  rw [target, last, flap]
  refine ⟨stays, fun new => ?_⟩
  obtain ⟨dated, handed, done⟩ := moves new
  exact ⟨dated, handed, fun d moving released timed drive arrives => keeps _ (done d moving released timed drive arrives)⟩

end

theorem applyNow_follows (x : Int) (b : Basis) (s : State) : TargetFollows s (applyNow x b s) :=
  (setTarget_follows x (setHeld false (recordBasis b s))).after (by simp) (by simp) (by simp [setHeld]) (by simp [setHeld])

theorem applyDwelled_follows (x : Int) (b : Basis) (s : State) : TargetFollows s (applyDwelled x b s) := by
  unfold applyDwelled
  split
  · exact applyNow_follows x b s
  · exact ⟨fun _ => ⟨by simp, by simp [setHeld]⟩, fun new => absurd (by simp) new⟩

theorem autoBelowFog_follows (s : State) : TargetFollows s (autoBelowFog s) := by
  unfold autoBelowFog
  dsimp only
  split
  · exact applyNow_follows _ _ s
  · split
    · exact applyNow_follows _ _ s
    · split
      · exact applyDwelled_follows _ _ s
      · split
        · exact applyDwelled_follows _ _ s
        · exact applyDwelled_follows _ _ s

theorem decideByMode_follows (s : State) : TargetFollows s (decideByMode s) := by
  unfold decideByMode
  split
  · split
    · exact applyNow_follows _ _ s
    · exact (autoBelowFog_follows (noteWorkingLookups s)).after (by simp) (by simp) (by simp) (by simp)
  · exact applyNow_follows _ _ s
  · split
    · exact applyNow_follows _ _ s
    · exact applyNow_follows _ _ s
  · exact applyNow_follows _ _ s

/-! ### The bases -/

/-- VENT-LIMITED after another basis raises its notice (R44). -/
theorem applyDwelled_ventLimited {x : Int} {s : State} (other : s.policy.basis ≠ .ventLimited) :
    Pends .ventLimited (applyDwelled x .ventLimited s) := by
  have raised : Pends .ventLimited (recordBasis .ventLimited s) := by
    rw [recordBasis, if_pos ⟨rfl, other⟩]
    exact raise_pends .ventLimited _ (by simp [NoticeKind.single, Notice.kind])
  unfold applyDwelled
  split
  · exact (setTarget_raisesOnly x (setHeld false (recordBasis .ventLimited s))).pends (by simp [Notice.kind]) raised
  · exact raised

/-- What a decision in AUTO records where the fog test fails: base 2, base 3, or one of the last three, subject to the change dwell
(R42, R43, R44). -/
theorem autoBelowFog_bases (s : State) :
    (s.policy.ceilingFlag = true → (autoBelowFog s).policy.basis = .ceiling ∧ (autoBelowFog s).policy.held = false
        ∧ (∀ f, LowestAdmissible s [500, 750, 1000] f → (autoBelowFog s).policy.target = f)
        ∧ ((∀ f ∈ ([500, 750, 1000] : List Int), ¬Admissible s f) → (autoBelowFog s).policy.target = 1000))
      ∧ (s.policy.ceilingFlag = false → s.policy.hold = .holding ∨ s.policy.hold = .trailing →
          (autoBelowFog s).policy.target = 0 ∧ (autoBelowFog s).policy.basis = .plumeHold ∧ (autoBelowFog s).policy.held = false)
      ∧ (s.policy.ceilingFlag = false → s.policy.hold = .idle ∨ s.policy.hold = .lapsed →
          (OpenAir s → DwelledTo 1000 .openAir s (autoBelowFog s))
            ∧ (¬OpenAir s → ∀ f, LowestAdmissible s [0, 125, 250, 500, 750, 1000] f → DwelledTo f .ventilate s (autoBelowFog s))
            ∧ (¬OpenAir s → (∀ f ∈ ([0, 125, 250, 500, 750, 1000] : List Int), ¬Admissible s f) →
                DwelledTo 1000 .ventLimited s (autoBelowFog s)
                  ∧ (s.policy.basis ≠ .ventLimited → Pends .ventLimited (autoBelowFog s)))) := by
  obtain ⟨lowest, none⟩ := ceilingTarget_lowest s
  obtain ⟨found, missing⟩ := lowestCandidate_lowest s
  refine ⟨fun ceiling => ?_, fun free holds => ?_, fun free rests => ⟨fun opens => ?_, fun shut f least => ?_, fun shut all => ?_⟩⟩
  · have base : autoBelowFog s = applyNow (ceilingTarget s.working s.policy.limits) .ceiling s := by
      rw [autoBelowFog, if_pos ceiling]
      rfl
    rw [base, applyNow_policy]
    exact ⟨rfl, rfl, lowest, none⟩
  · have base : autoBelowFog s = applyNow 0 .plumeHold s := by rw [autoBelowFog, if_neg (by simp [free]), if_pos holds]
    rw [base, applyNow_policy]
    exact ⟨rfl, rfl, rfl⟩
  all_goals have noHold : ¬(s.policy.hold = .holding ∨ s.policy.hold = .trailing) := by rcases rests with h | h <;> simp [h]
  · have base : autoBelowFog s = applyDwelled 1000 .openAir s := by
      rw [autoBelowFog, if_neg (by simp [free]), if_neg noHold, if_pos ((openAir_iff s).mpr opens)]
    rw [base]
    exact applyDwelled_dwelled _ _ s
  · have base : autoBelowFog s = applyDwelled f .ventilate s := by
      have candidate := found f least
      rw [State.working] at candidate
      rw [autoBelowFog, if_neg (by simp [free]), if_neg noHold, if_neg (mt (openAir_iff s).mp shut)]
      simp only [candidate]
    rw [base]
    exact applyDwelled_dwelled _ _ s
  · have base : autoBelowFog s = applyDwelled 1000 .ventLimited s := by
      have candidate := missing all
      rw [State.working] at candidate
      rw [autoBelowFog, if_neg (by simp [free]), if_neg noHold, if_neg (mt (openAir_iff s).mp shut)]
      simp only [candidate]
    rw [base]
    exact ⟨applyDwelled_dwelled _ _ s, fun other => applyDwelled_ventLimited other⟩

/-! ### The full decision -/

/-- The fog test touches its flag and the notices alone (R40). -/
theorem fogTest_eq (s : State) :
    fogTest s = { s with policy := { s.policy with fogFlag := s.fogHolds }, notices := (fogTest s).notices } := by
  unfold fogTest
  dsimp only
  split <;> rfl

theorem noteLookup_eq (c : Channel) (x : Int) (s : State) : noteLookup c x s = { s with notices := (noteLookup c x s).notices } := by
  unfold noteLookup occur
  dsimp only
  split
  · split <;> rfl
  · rfl

/-- The two lookups of a decision touch the notices alone (R36). -/
theorem noteWorkingLookups_eq (s : State) : noteWorkingLookups s = { s with notices := (noteWorkingLookups s).notices } := by
  rw [noteWorkingLookups, noteLookup_eq, noteLookup_eq .otm]

/-- The fog test gives its notice where the flag is newly set (R40). -/
theorem fogTest_pends {s : State} (holds : s.fogHolds = true) (new : s.policy.fogFlag = false) :
    Pends (.fogAlert s.est.fogMargin) (fogTest s) := by
  rw [fogTest, if_pos (by simp [holds, new])]
  exact raise_pends (.fogAlert _) _ (by simp [NoticeKind.single, Notice.kind])

theorem fogHolds_iff (s : State) : s.fogHolds = true ↔ s.est.fogMargin < (s.policy.limits.fogMin / 2 : Nat) := by
  simp [State.fogHolds]

theorem occur_keepsPending (k : ConditionKind) (q : Option Quantity) (v : Int) (s : State) :
    KeepsPending [.condition] s (occur k q v s) := by
  unfold occur
  dsimp only
  split
  · exact .refl s
  · exact (raise_raisesOnly (.condition [k]) (s.withNotices (s.notices.recordCondition k q s.uptime v))).1

theorem noteLookup_keepsPending (c : Channel) (x : Int) (s : State) : KeepsPending [.condition] s (noteLookup c x s) := by
  unfold noteLookup
  split
  · exact occur_keepsPending _ _ _ s
  · exact .refl s

theorem decideByMode_keepsPending (s : State) : KeepsPending [.moveDone, .ventLimited, .condition] s (decideByMode s) := by
  have now : ∀ x b, KeepsPending [.moveDone, .ventLimited, .condition] s (applyNow x b s) :=
    fun x b => (applyNow_raisesOnly x b s).1.mono (by simp)
  have lookups : KeepsPending [.moveDone, .ventLimited, .condition] s (noteWorkingLookups s) :=
    ((noteLookup_keepsPending .otm (s.usable .otm) s).trans (noteLookup_keepsPending .stm (s.usable .stm) _)).mono (by simp)
  unfold decideByMode
  split
  · split
    · exact now _ _
    · exact lookups.trans ((autoBelowFog_raisesOnly _).1.mono (by simp))
  · exact now _ _
  · split
    · exact now _ _
    · exact now _ _
  · exact now _ _

/-- What a decision by mode records, where the fog test has set the flag (R32, R42). -/
theorem decideByMode_bases (s : State) :
    (s.policy.mode = .auto → s.policy.fogFlag = true → (decideByMode s).policy.target = 1000
        ∧ (decideByMode s).policy.basis = .fogOverride ∧ (decideByMode s).policy.held = false)
      ∧ (s.policy.mode = .auto → s.policy.fogFlag = false → decideByMode s = autoBelowFog (noteWorkingLookups s))
      ∧ (s.policy.mode = .fresh → (decideByMode s).policy.target = 1000 ∧ (decideByMode s).policy.basis = .modeFresh
          ∧ (decideByMode s).policy.held = false)
      ∧ (s.policy.mode = .recirc → s.policy.ceilingFlag = false → (decideByMode s).policy.target = 0
          ∧ (decideByMode s).policy.basis = .modeRecirc ∧ (decideByMode s).policy.held = false)
      ∧ (s.policy.mode = .recirc → s.policy.ceilingFlag = true → (decideByMode s).policy.target = 500
          ∧ (decideByMode s).policy.basis = .ceiling ∧ (decideByMode s).policy.held = false)
      ∧ (s.policy.mode = .defrost → (decideByMode s).policy.target = 1000 ∧ (decideByMode s).policy.basis = .modeDefrost
          ∧ (decideByMode s).policy.held = false) := by
  refine ⟨fun mode fog => ?_, fun mode fog => ?_, fun mode => ?_, fun mode flag => ?_, fun mode flag => ?_, fun mode => ?_⟩
  · simp [decideByMode, mode, fog]
  · simp [decideByMode, mode, fog]
  · simp [decideByMode, mode]
  · simp [decideByMode, mode, flag]
  · simp [decideByMode, mode, flag]
  · simp [decideByMode, mode]

/-- v is u but for the fog flag and the notices. -/
def SameInputs (u v : State) : Prop := ∃ flag notices, v = { u with policy := { u.policy with fogFlag := flag }, notices := notices }

/-- A decision reads neither the fog flag nor the notices. -/
theorem SameInputs.reads {u v : State} (same : SameInputs u v) :
    (∀ f, Admissible v f ↔ Admissible u f) ∧ (∀ l f, LowestAdmissible v l f ↔ LowestAdmissible u l f) ∧ (OpenAir v ↔ OpenAir u)
      ∧ (∀ f b t, DwelledTo f b v t ↔ DwelledTo f b u t) ∧ v.policy.basis = u.policy.basis
      ∧ v.policy.ceilingFlag = u.policy.ceilingFlag ∧ v.policy.hold = u.policy.hold := by
  obtain ⟨flag, notices, rfl⟩ := same
  exact ⟨fun _ => Iff.rfl, fun _ _ => Iff.rfl, Iff.rfl, fun _ _ _ => Iff.rfl, rfl, rfl, rfl⟩

theorem SameInputs.lookups (s : State) : SameInputs s (noteWorkingLookups (fogTest s)) := by
  refine ⟨s.fogHolds, (noteWorkingLookups (fogTest s)).notices, ?_⟩
  rw [noteWorkingLookups_eq, fogTest_eq]

section
variable {u u' t t' : State}

/-- What a decision reads: all of it, and of the policy all but the demand and the purge. -/
theorem Decided.reading (h : Decided u t)
    (policy : ∃ demand purging openSince,
      u'.policy = { u.policy with demand := demand, purging := purging, openSince := openSince })
    (est : u'.est = u.est) (tracker : u'.tracker = u.tracker) (channels : u'.channels = u.channels) (drive : u'.drive = u.drive)
    (time : u'.uptime = u.uptime) (flap : u'.flap = u.flap) (blower : u'.blower = u.blower) (filter : u'.filter = u.filter) :
    Decided u' t := by
  obtain ⟨demand, purging, openSince, policy⟩ := policy
  cases u
  cases u'
  simp only at policy est tracker channels drive time flap blower filter
  subst policy est tracker channels drive time flap blower filter
  exact h

/-- What comes after a decision keeps what it left. -/
theorem Decided.then (h : Decided u t) (policy : t'.policy = t.policy) (flap : t'.flap = t.flap)
    (keeps : ∀ n : Notice, n.kind ∈ [NoticeKind.fogAlert, .ventLimited, .moveDone] → Pends n t → Pends n t') : Decided u t' := by
  obtain ⟨fields, parked, driving⟩ := h
  unfold Decided DwelledTo
  rw [policy, flap]
  refine ⟨fields, parked, fun moves => ?_⟩
  obtain ⟨fog, alert, override, ceiling, plume, last, fresh, recirc, recircCeiling, defrost, follows, demand⟩ := driving moves
  refine ⟨fog, fun holds new => keeps _ (by simp [Notice.kind]) (alert holds new), override, ceiling, plume,
    fun mode clear free rests => ?_, fresh, recirc, recircCeiling, defrost,
    follows.then (by rw [policy]) (by rw [policy]) flap fun x => keeps _ (by simp [Notice.kind]), demand⟩
  obtain ⟨opens, least, none⟩ := last mode clear free rests
  refine ⟨opens, least, fun shut all => ?_⟩
  obtain ⟨limited, raised⟩ := none shut all
  exact ⟨limited, fun other => keeps _ (by simp [Notice.kind]) (raised other)⟩

end

/-- A full decision is the one the rules have (R39). -/
theorem fullDecision_decided (s : State) : Decided s (fullDecision s) := by
  refine ⟨by simp, fun parked => ?_, fun driving => ?_⟩
  · rw [fullDecision_of_parked parked]
    exact ⟨rfl, rfl, rfl, rfl, rfl, rfl⟩
  rw [fullDecision_of_not_parked driving]
  set f := fogTest s with f_def
  set t := decideByMode f with t_def
  have inputs : f.policy = { s.policy with fogFlag := s.fogHolds } := fogTest_policy s
  have fog : t.policy.fogFlag = s.fogHolds := by simp [t_def, inputs]
  obtain ⟨override, below, fresh, recirc, recircCeiling, defrost⟩ := decideByMode_bases f
  simp only [inputs, ← t_def] at override below fresh recirc recircCeiling defrost
  obtain ⟨ceiling, plume, last⟩ := autoBelowFog_bases (noteWorkingLookups f)
  obtain ⟨admissible, lowest, openAir, dwelled, basis, flag, hold⟩ := (SameInputs.lookups s).reads
  simp only [← f_def] at admissible lowest openAir dwelled basis flag hold
  simp only [admissible, lowest, openAir, dwelled, basis, flag, hold] at ceiling plume last
  have keeps := (recomputeDemand_raisesOnly t).1
  have policy := recomputeDemand_policy t
  simp only [DwelledTo, policy, fog]
  refine ⟨fogHolds_iff s, fun holds new => ?_, override, fun mode clear set => ?_, fun mode clear free holds => ?_,
    fun mode clear free rests => ?_, fresh, recirc, recircCeiling, defrost, ?_, ?_⟩
  · have raised := fogTest_pends holds new
    exact keeps.pends (by simp [Notice.kind]) ((decideByMode_keepsPending f).pends (by simp [Notice.kind]) raised)
  · rw [below mode clear]
    exact ceiling set
  · rw [below mode clear]
    exact plume free holds
  · rw [below mode clear] at keeps ⊢
    obtain ⟨opens, least, none⟩ := last free rests
    refine ⟨opens, least, fun shut all => ?_⟩
    obtain ⟨limited, raised⟩ := none shut all
    exact ⟨limited, fun other => keeps.pends (by simp [Notice.kind]) (raised other)⟩
  · have follows := (decideByMode_follows f).after (u := s) (by simp [inputs]) (by simp [inputs]) (by simp [f_def]) (by simp [f_def])
    exact follows.then (by rw [policy]) (by rw [policy]) (by simp [t_def]) fun x => keeps.pends (by simp [Notice.kind])
  · rw [demandDue_eq]
    have moves : t.drive.vehicle ≠ .parked := by simpa [t_def, f_def] using driving
    simp [moves]

end Sys2Proof.Machine
end

section
/-! What an occurrence of a condition kind leaves of the notice unit, and what the two lookups of a decision and of the fog margin leave
(R23, R187). -/

namespace Sys2Proof.Machine

/-! ### One occurrence -/

/-- An occurrence sets its flag and no other (R187). -/
theorem occur_flags (k k' : ConditionKind) (q : Option Quantity) (v : Int) (s : State) :
    k' ∈ (occur k q v s).notices.conditionFlags ↔ k' ∈ s.notices.conditionFlags ∨ k' = k := by
  have flags : (occur k q v s).notices.conditionFlags = unionIn ConditionKind.all s.notices.conditionFlags [k] := by
    unfold occur
    dsimp only
    split <;> rfl
  rw [flags]
  simp only [unionIn, List.mem_filter]
  cases k' <;> simp [ConditionKind.all]

/-- An occurrence leaves the masks. -/
theorem occur_masks (k : ConditionKind) (q : Option Quantity) (v : Int) (s : State) :
    (occur k q v s).notices.masked = s.notices.masked
      ∧ (occur k q v s).notices.conditionMasked = s.notices.conditionMasked := by
  unfold occur
  dsimp only
  split <;> exact ⟨rfl, rfl⟩

/-- A masked occurrence leaves the record and the pending notices (R187). -/
theorem occur_masked {k : ConditionKind} {s : State} (masked : k ∈ s.notices.conditionMasked) (q : Option Quantity) (v : Int) :
    (occur k q v s).notices.lastCondition = s.notices.lastCondition ∧ (occur k q v s).notices.pending = s.notices.pending := by
  simp [occur, masked, Notices.recordCondition]

/-- An unmasked occurrence overwrites the record and raises CONDITION (R187). -/
theorem occur_unmasked {k : ConditionKind} {s : State} (unmasked : k ∉ s.notices.conditionMasked) (q : Option Quantity) (v : Int) :
    (occur k q v s).notices.lastCondition = some ⟨k, q, s.uptime, v⟩ ∧ NotesCondition k (occur k q v s) := by
  have raised : occur k q v s = raise (.condition [k]) (s.withNotices (s.notices.recordCondition k q s.uptime v)) := by
    simp [occur, unmasked]
  have last : (raise (.condition [k]) (s.withNotices (s.notices.recordCondition k q s.uptime v))).notices.lastCondition
      = some ⟨k, q, s.uptime, v⟩ := by
    have record : (s.notices.recordCondition k q s.uptime v).lastCondition = some ⟨k, q, s.uptime, v⟩ := by
      simp [Notices.recordCondition, unmasked]
    exact record
  rw [raised]
  exact ⟨last, raiseIn_condition k s.notices.pending⟩

/-- An occurrence of one kind keeps every kind noted that was. -/
theorem NotesCondition.occur {k : ConditionKind} {s : State} (noted : NotesCondition k s) (k' : ConditionKind)
    (q : Option Quantity) (v : Int) : NotesCondition k (Machine.occur k' q v s) := by
  unfold Machine.occur
  dsimp only
  split
  · exact noted
  · exact raiseIn_keeps_condition k' noted

/-! ### Occurrences in an event -/

section
variable {s t u : State} {k : ConditionKind} {happens happens' : Prop}

theorem Occurred.congr (h : Occurred k happens s t) (iff : happens' ↔ happens) : Occurred k happens' s t := by
  rw [Occurred, iff]
  exact h

/-- Nothing has occurred. -/
theorem Occurred.none (no : ¬happens) (flags : k ∈ t.notices.conditionFlags ↔ k ∈ s.notices.conditionFlags) :
    Occurred k happens s t := by
  rw [Occurred, flags]
  exact ⟨by simp [no], fun yes => absurd yes no⟩

theorem occur_occurred (k : ConditionKind) (q : Option Quantity) (v : Int) (s : State) : Occurred k True s (occur k q v s) :=
  ⟨by simp [occur_flags], fun _ unmasked => (occur_unmasked unmasked q v).2⟩

/-- Two parts of an event, in each of which the kind may occur. -/
theorem Occurred.trans (first : Occurred k happens s t) (second : Occurred k happens' t u)
    (masks : t.notices.conditionMasked = s.notices.conditionMasked) (noted : NotesCondition k t → NotesCondition k u) :
    Occurred k (happens ∨ happens') s u := by
  obtain ⟨flags, notes⟩ := first
  obtain ⟨flags', notes'⟩ := second
  refine ⟨by rw [flags', flags, or_assoc], fun either unmasked => ?_⟩
  rcases either with now | later
  · exact noted (notes now unmasked)
  · exact notes' later (by rwa [masks])

/-- What only raises other kinds keeps what has occurred. -/
theorem Occurred.then {kinds : List NoticeKind} (h : Occurred k happens s t) (raises : RaisesOnly kinds t u)
    (other : .condition ∉ kinds) : Occurred k happens s u := by
  obtain ⟨flags, notes⟩ := h
  obtain ⟨keeps, -, flags', -, -⟩ := raises
  refine ⟨by rw [flags', flags], fun now unmasked => ?_⟩
  exact NotesCondition.of_keeps (notes now unmasked) keeps other

/-- What came before has only raised other kinds. -/
theorem Occurred.after (h : Occurred k happens t u) (stands : ConditionsStand s t) : Occurred k happens s u := by
  obtain ⟨-, flags, masks, -⟩ := stands
  rw [Occurred, flags, masks] at h
  exact h

end

/-! ### The two lookups -/

theorem satClamps_iff (x : Int) : satClamps x = true ↔ OffTable x := by
  simp [satClamps, OffTable]

section
variable {s t u : State} {a b : Channel} {made made' : Prop}

theorem noteLookup_off {c : Channel} {x : Int} (off : OffTable x) (s : State) :
    noteLookup c x s = occur .tableClamped (some (.channel c)) x s := by
  rw [noteLookup, if_pos ((satClamps_iff x).mpr off)]

theorem noteLookup_on {c : Channel} {x : Int} (on : ¬OffTable x) (s : State) : noteLookup c x s = s := by
  rw [noteLookup, if_neg (mt (satClamps_iff x).mp on)]

theorem noteLookup_occurred (c : Channel) (x : Int) (s : State) : Occurred .tableClamped (OffTable x) s (noteLookup c x s) := by
  by_cases off : OffTable x
  · rw [noteLookup_off off]
    exact (occur_occurred _ _ _ s).congr (by simp [off])
  · rw [noteLookup_on off]
    exact .none off Iff.rfl

theorem noteLookup_masks (c : Channel) (x : Int) (s : State) :
    (noteLookup c x s).notices.conditionMasked = s.notices.conditionMasked := by
  unfold noteLookup
  split
  · exact (occur_masks _ _ _ s).2
  · rfl

theorem NotesCondition.lookup {k : ConditionKind} (noted : NotesCondition k s) (c : Channel) (x : Int) :
    NotesCondition k (noteLookup c x s) := by
  unfold noteLookup
  split
  · exact noted.occur _ _ _
  · exact noted

/-- A lookup sets no other flag than that of TABLE-CLAMPED (R23). -/
theorem noteLookup_flags {k : ConditionKind} (other : k ≠ .tableClamped) (c : Channel) (x : Int) (s : State) :
    k ∈ (noteLookup c x s).notices.conditionFlags ↔ k ∈ s.notices.conditionFlags := by
  unfold noteLookup
  split
  · simp [occur_flags, other]
  · rfl

/-- The lookup of a's value and then that of b's (R23). -/
theorem noteLookups_noted (a b : Channel) (s : State) :
    LookupsNoted a b True s (noteLookup b (s.usable b) (noteLookup a (s.usable a) s)) := by
  have channels : ∀ c, (noteLookup b (s.usable b) (noteLookup a (s.usable a) s)).usable c = s.usable c := fun c => by
    rw [noteLookup_eq, noteLookup_eq a]
    rfl
  unfold LookupsNoted
  rw [channels a, channels b]
  refine ⟨((noteLookup_occurred a _ s).trans (noteLookup_occurred b _ _) (noteLookup_masks a _ s)
    fun noted => noted.lookup b _).congr (by simp), fun _ unmasked => ⟨fun off => ?_, fun off on => ?_⟩⟩
  · rw [noteLookup_off off, (occur_unmasked (by rwa [noteLookup_masks]) _ _).1, noteLookup_eq]
  · rw [noteLookup_on on, noteLookup_off off, (occur_unmasked unmasked _ _).1]

theorem LookupsNoted.congr (h : LookupsNoted a b made s t) (iff : made' ↔ made) : LookupsNoted a b made' s t := by
  rw [LookupsNoted, iff]
  exact h

/-- What only raises other kinds and leaves the channels keeps what the lookups have noted. -/
theorem LookupsNoted.then {kinds : List NoticeKind} (h : LookupsNoted a b made s t) (raises : RaisesOnly kinds t u)
    (other : .condition ∉ kinds) (channels : u.channels = t.channels) : LookupsNoted a b made s u := by
  have usable : ∀ c, u.usable c = t.usable c := fun c => by rw [State.usable, channels]; rfl
  obtain ⟨occurred, last⟩ := h
  unfold LookupsNoted
  rw [usable a, usable b, raises.2.2.2.2]
  exact ⟨occurred.then raises other, last⟩

/-- What came before has only raised other kinds. -/
theorem LookupsNoted.after (h : LookupsNoted a b made t u) (stands : ConditionsStand s t) (time : t.uptime = s.uptime) :
    LookupsNoted a b made s u := by
  obtain ⟨occurred, last⟩ := h
  have masks := stands.2.2.1
  rw [masks, time] at last
  exact ⟨occurred.after stands, last⟩

/-- No lookup is made. -/
theorem LookupsNoted.none {kinds : List NoticeKind} (no : ¬made) (raises : RaisesOnly kinds s t) : LookupsNoted a b made s t :=
  ⟨.none (fun yes => no yes.1) (by rw [raises.2.2.1]), fun yes => absurd yes no⟩

end

end Sys2Proof.Machine
end

section
/-! The events that run a decision: DEC's and HOLD's expiry, LIMITS and MODE (R31, R34, R39, R48, R108), with the obligations O13, O14, O41
and O42. -/

namespace Sys2Proof.Machine

/-! ### The lookups of a decision -/

/-- A decision makes the two lookups in AUTO where the fog test fails, and no other condition occurs in it (R36, log 12). -/
theorem decideByMode_lookups (s : State) :
    LookupsNoted .otm .stm (s.policy.mode = .auto ∧ s.policy.fogFlag = false) s (decideByMode s)
      ∧ ∀ k : ConditionKind, k ≠ .tableClamped →
          (k ∈ (decideByMode s).notices.conditionFlags ↔ k ∈ s.notices.conditionFlags) := by
  by_cases made : s.policy.mode = .auto ∧ s.policy.fogFlag = false
  · obtain ⟨-, below, -⟩ := decideByMode_bases s
    rw [below made.1 made.2]
    have raises := autoBelowFog_raisesOnly (noteWorkingLookups s)
    refine ⟨((noteLookups_noted .otm .stm s).then raises (by simp) (by simp)).congr (by simp [made]), fun k other => ?_⟩
    rw [raises.2.2.1, noteWorkingLookups, noteLookup_flags other, noteLookup_flags other]
  · have raises : RaisesOnly [.moveDone, .ventLimited] s (decideByMode s) := by
      unfold decideByMode
      split
      · next auto =>
        have fog : s.policy.fogFlag = true := by simpa [auto] using made
        rw [if_pos fog]
        exact applyNow_raisesOnly _ _ s
      · exact applyNow_raisesOnly _ _ s
      · split
        · exact applyNow_raisesOnly _ _ s
        · exact applyNow_raisesOnly _ _ s
      · exact applyNow_raisesOnly _ _ s
    exact ⟨.none made raises, fun k _ => by rw [raises.2.2.1]⟩

theorem fullDecision_lookups (s : State) :
    LookupsNoted .otm .stm
        (s.drive.vehicle ≠ .parked ∧ s.policy.mode = .auto ∧ (fullDecision s).policy.fogFlag = false) s (fullDecision s)
      ∧ ∀ k : ConditionKind, k ≠ .tableClamped →
          (k ∈ (fullDecision s).notices.conditionFlags ↔ k ∈ s.notices.conditionFlags) := by
  by_cases parked : s.drive.vehicle = .parked
  · rw [fullDecision_of_parked parked]
    exact ⟨.none (by simp [parked]) (.refl (kinds := []) s), fun _ _ => Iff.rfl⟩
  · rw [fullDecision_of_not_parked parked]
    obtain ⟨lookups, flags⟩ := decideByMode_lookups (fogTest s)
    have before := fogTest_raisesOnly s
    have after := recomputeDemand_raisesOnly (decideByMode (fogTest s))
    refine ⟨((lookups.after before.2 (by simp)).then after (by simp) (by simp)).congr ?_, fun k other => ?_⟩
    · simp [parked]
    · rw [after.2.2.1, flags k other, before.2.2.1]

/-! ### DEC and HOLD -/

/-- Settles O41: the decision that a running DEC's expiry runs. -/
theorem decisionTaken : Obligations.DecisionTaken := by
  intro s
  refine ⟨fun stopped => ?_, fun running => ?_⟩
  · show Host.Outcome.next (decExpired s) = _
    simp [decExpired, stopped]
  set u := s.withTimers { s.timers with dec := some (s.policy.limits.decisionPeriod * 1000) } with u_def
  have runs : decExpired s = fullDecision u := by
    rw [decExpired, if_neg (by simpa [Option.isSome_iff_ne_none] using running)]
  have decided : Decided s (fullDecision u) := fullDecision_decided u
  obtain ⟨lookups, flags⟩ := fullDecision_lookups u
  refine ⟨decExpired s, rfl, ?_, ⟨by simp, fun p unlisted => ?_⟩, ?_⟩
  · rw [runs]
    simp [u_def]
  · cases p <;> simp [Part.Same] at unlisted ⊢
  rw [runs]
  refine ⟨by simp [u_def], by simp [u_def], decided, lookups, flags, fun parked => ⟨by simp [u_def], fun p unlisted => ?_⟩,
    fun candidate => ?_⟩
  · rw [fullDecision_of_parked (by exact parked)]
    cases p <;> simp [Part.Same, u_def] at unlisted ⊢
  · exact (fullDecision_inner u).target candidate

/-- The hold machine moves and a full decision runs (R47 to R49). -/
theorem holdMove_moved (h : HoldState) (timer : Option Nat) (s : State) : HoldMoved h timer s (holdMove h timer s) := by
  refine ⟨by simp [holdMove], ?_⟩
  set u := (s.withTimers { s.timers with hold := timer }).withPolicy { s.policy with hold := h } with u_def
  have decided := fullDecision_decided u
  exact decided.reading ⟨_, _, _, rfl⟩ (by simp [holdMove, decisionReads, u_def]) (by simp [holdMove, decisionReads, u_def])
    (by simp [holdMove, decisionReads, u_def]) (by simp [holdMove, decisionReads, u_def]) (by simp [holdMove, decisionReads, u_def])
    rfl rfl (by simp [holdMove, decisionReads, u_def])

/-- What the hold machine has moved from s is what it has moved from an earlier state with the same policy, timers, flap and blower. -/
theorem HoldMoved.after {h : HoldState} {timer : Option Nat} {s s' t : State} (moved : HoldMoved h timer s t)
    (policy : s'.policy = s.policy) (timers : s'.timers = s.timers) (flap : s'.flap = s.flap) (blower : s'.blower = s.blower) :
    HoldMoved h timer s' t := by
  unfold HoldMoved decisionReads
  rw [policy, timers, flap, blower]
  exact moved

/-- A decision leaves the notices of the kinds it does not raise. -/
theorem fullDecision_keepsPending (s : State) :
    KeepsPending [.fogAlert, .moveDone, .ventLimited, .condition, .blowerFault] s (fullDecision s) := by
  unfold fullDecision
  split
  · exact .refl s
  · exact (((fogTest_raisesOnly s).1.mono (by simp)).trans ((decideByMode_keepsPending _).mono (by simp))).trans
      ((recomputeDemand_raisesOnly _).1.mono (by simp))

/-- The first OPEN record of the table is the lowest-numbered open episode (R48, R60, log 15). -/
theorem lowestOpen_first {t : Tracker} {pre post : List Episode} {e : Episode} (table : t.table = pre ++ e :: post)
    (closed : ∀ q ∈ pre, q.ending.isSome = true) (opens : e.ending = none) : t.lowestOpen = e.number := by
  have found : t.table.find? (fun e => e.ending.isNone) = some e := by
    rw [table, List.find?_append, List.find?_eq_none.mpr (fun q mem => by simpa [Option.isSome_iff_ne_none] using closed q mem)]
    simp [opens]
  simp [Tracker.lowestOpen, found]

/-- Settles O42: HOLD by the state it expires in, PURGE by the end of the purge. -/
theorem holdAndPurgeExpire : Obligations.HoldAndPurgeExpire := by
  intro s
  refine ⟨fun stopped => ?_, fun running state => ?_, fun stopped => ?_, fun running => ?_⟩
  · show Host.Outcome.next (holdExpired s) = _
    simp [holdExpired, stopped]
  · have not_none : ¬s.timers.hold.isNone := by simpa [Option.isSome_iff_ne_none] using running
    have holding : s.policy.hold = .holding → holdExpired s = holdMove .lapsed none (raise (.plumeLong s.tracker.lowestOpen) s) :=
      fun h => by simp [holdExpired, not_none, h]
    have trailing : s.policy.hold = .trailing → holdExpired s = holdMove .idle none s :=
      fun h => by simp [holdExpired, not_none, h]
    have long : s.policy.hold = .holding → Pends (.plumeLong s.tracker.lowestOpen) (holdExpired s) := fun h => by
      rw [holding h]
      exact (fullDecision_keepsPending _).pends (by simp [Notice.kind])
        (raise_pends (.plumeLong s.tracker.lowestOpen) s (by simp [NoticeKind.single, Notice.kind]))
    refine ⟨holdExpired s, rfl, ?_, fun h => ?_, fun pre e post table closed opens h => ?_, ?_, ?_, ⟨by simp, fun p unlisted => ?_⟩⟩
    · rcases state with h | h
      · rw [if_pos h, holding h]
        exact (holdMove_moved .lapsed none (raise (.plumeLong s.tracker.lowestOpen) s)).after (by simp) (by simp) (by simp) (by simp)
      · rw [if_neg (by simp [h]), trailing h]
        exact holdMove_moved .idle none s
    · obtain ⟨p, mem, shape⟩ := long h
      exact ⟨p, mem, by rw [shape]; rfl⟩
    · have pends := long h
      rwa [lowestOpen_first table closed opens] at pends
    · rcases state with h | h
      · simp [holding h, holdMove]
      · simp [trailing h, holdMove]
    · rcases state with h | h
      · simp [holding h, holdMove]
      · simp [trailing h, holdMove]
    · cases p <;> simp [Part.Same] at unlisted ⊢
  · show Host.Outcome.next (purgeExpired s) = _
    simp [purgeExpired, stopped]
  · have ends : purgeExpired s = endPurge s := by
      rw [purgeExpired, if_neg (by simpa [Option.isSome_iff_ne_none] using running)]
    set u := (s.withTimers { s.timers with purge := none }).withPolicy { s.policy with purging := false } with u_def
    refine ⟨purgeExpired s, rfl, ?_, ?_, fun level => ?_, ⟨by simp, fun p unlisted => ?_⟩⟩
    · rw [ends]
      simp [endPurge]
    · rw [ends, endPurge, recomputeDemand_policy, demandDue_eq]
      rfl
    · rw [ends, endPurge, ← u_def, recomputeDemand_level (by exact level), recomputeDemand_policy]
    · cases p <;> simp [Part.Same] at unlisted ⊢

/-! ### LIMITS -/

theorem Decided.replied {u t : State} (h : Decided u t) (code : Byte) (result : ResultCode) (body : List Byte) :
    Decided u (sendReply code result body t) :=
  h.then (by simp) (by simp) fun n _ pends => by simpa [Pends] using pends

/-- The limits that LIMITS stores, by the rules' ranges (R34). -/
theorem limitsOf_eq (f : LimitsFields) : limitsOf f =
    { co2Limit := toRange 600 2000 f.co2Limit.toNat, co2Hard := toRange 800 5000 f.co2Hard.toNat,
      fogMin := toRange 0 10000 f.fogMin.toNat, cleanPm := toRange 0 200 f.cleanPm.toNat,
      cleanGas := toRange 0 500 f.cleanGas.toNat, recircDwell := toRange 60 1800 f.recircDwell.toNat,
      decisionPeriod := toRange 5 60 f.decisionPeriod.toNat,
      changeDwell := toRange 0 300 f.changeDwell.toNat, holdMax := toRange 30 900 f.holdMax.toNat,
      releaseDelay := toRange 0 120 f.releaseDelay.toNat, purgeTime := toRange 0 300 f.purgeTime.toNat } := by
  simp only [limitsOf, field_eq, Nat.reduceLeDiff, Nat.zero_le]

theorem storeLimits_eq (l : Limits) (s : State) :
    (storeLimits l s).policy = { s.policy with limits := l }
      ∧ (storeLimits l s).timers = { s.timers with
          dec := if s.timers.dec.isSome then some (l.decisionPeriod * 1000) else none } := by
  unfold storeLimits
  dsimp only
  split
  · exact ⟨rfl, rfl⟩
  · next stopped =>
    rw [Option.not_isSome_iff_eq_none] at stopped
    refine ⟨rfl, ?_⟩
    rw [← stopped]
    rfl

/-- Settles O13: the limits stored, and the decision that reads them. -/
theorem limitsStored : Obligations.LimitsStored := by
  intro f s free
  refine ⟨fun refused => ?_, fun taken => ?_⟩
  · refine onlyAnswered (result := .refusedValue) rfl free ?_ rfl
    have tooHigh : (limitsOf f).co2Hard < (limitsOf f).co2Limit := by rwa [limitsOf_eq]
    simp [serveRequest, serveLimits, tooHigh, Request.code]
  · have allowed : ¬(limitsOf f).co2Hard < (limitsOf f).co2Limit := by
      rw [limitsOf_eq]
      exact Nat.not_lt.mpr taken
    set u := storeLimits (limitsOf f) (s.atHead (.limits f)) with u_def
    have served : serveRequest (.limits f) (s.atHead (.limits f))
        = sendReply 0x03#8 (doneOr (limitsClamped f)) [] (fullDecision u) := by
      simp [serveRequest, serveLimits, allowed, takeLimits, u_def]
    obtain ⟨next, answered⟩ := takenAnswer (c := .limits f) rfl free served (by simp [u_def]) (doneOr_result (limitsClamped f))
    have result := toNat_result (clamped := limitsClamped f)
      (p := Outside 600 2000 f.co2Limit.toNat ∨ Outside 800 5000 f.co2Hard.toNat
            ∨ Outside 0 10000 f.fogMin.toNat ∨ Outside 0 200 f.cleanPm.toNat ∨ Outside 0 500 f.cleanGas.toNat
            ∨ Outside 60 1800 f.recircDwell.toNat ∨ Outside 5 60 f.decisionPeriod.toNat
            ∨ Outside 0 300 f.changeDwell.toNat ∨ Outside 30 900 f.holdMax.toNat
            ∨ Outside 0 120 f.releaseDelay.toNat ∨ Outside 0 300 f.purgeTime.toNat)
      (by simp [limitsClamped, clamps_iff, or_assoc])
    obtain ⟨policy, timers⟩ := storeLimits_eq (limitsOf f) (s.atHead (.limits f))
    rw [← u_def] at policy timers
    have limits : (fullDecision u).policy.limits = limitsOf f := by simp [policy]
    refine ⟨_, (limitsClamped f).toNat, next, answered, result.1, result.2, ?_, ?_, ?_, ?_, ?_, ⟨by simp [u_def], fun p unlisted => ?_⟩,
      fun parked => ⟨⟨by simp [u_def], fun p unlisted => ?_⟩, ?_⟩⟩
    · simp only [sendReply_keeps, limits]
      exact limitsOf_eq f
    · simp only [sendReply_keeps, fullDecision_keeps, timers, atHead_keeps, limitsOf_eq]
    · refine ((fullDecision_decided u).replied _ _ _).reading
        ⟨s.policy.demand, s.policy.purging, s.policy.openSince, ?_⟩ ?_ ?_ ?_ ?_ ?_ ?_ ?_ ?_
      · simp only [decisionReads, sendReply_keeps, limits, policy]
        rfl
      all_goals simp [decisionReads, u_def]
    · simp [policy]
    · simp [policy]
    · cases p <;> simp [Part.Same, u_def] at unlisted ⊢
    · rw [fullDecision_of_parked (by simpa [u_def] using parked)]
      cases p <;> simp [Part.Same, u_def] at unlisted ⊢
    · rw [fullDecision_of_parked (by simpa [u_def] using parked)]
      simp [policy]

/-! ### A demand handed on before a decision -/

/-- The table gives a demand above 0 whatever the basis (R53). -/
theorem demandByTable_positive (parked purging : Bool) (mode : PolicyMode) (b b' : Basis) (comfort : Nat) :
    0 < demandByTable parked purging mode b comfort ↔ 0 < demandByTable parked purging mode b' comfort := by
  unfold demandByTable
  split
  · rfl
  · cases mode with
    | auto => simp only; omega
    | _ => rfl

/-- A demand handed on and then another of the same sign leave the blower as the second alone does (R132, R133). -/
theorem blowerHanded_twice {n m : Nat} (sign : 0 < n ↔ 0 < m) (b : Blower) :
    blowerHanded m (blowerHanded n b) = blowerHanded m b := by
  obtain ⟨level, fault, stall⟩ := b
  simp only [blowerHanded, Blower.mk.injEq, true_and, and_true]
  by_cases rises : level = 0
  · by_cases positive : 0 < m
    · have some : ¬n = 0 := by omega
      simp [rises, positive, sign.mpr positive, some]
    · have zero : n = 0 := by omega
      simp [positive, zero]
  · by_cases positive : 0 < m
    · have some : ¬n = 0 := by omega
      simp [rises, some]
    · simp [rises, positive]

/-- BLOWER-FAULT stays pending through a handing of a demand. -/
theorem recomputeDemand_keepsFault {s : State} (pends : Pends .blowerFault s) : Pends .blowerFault (recomputeDemand s) := by
  unfold recomputeDemand
  split
  · exact pends
  · unfold blowerDemand
    dsimp only
    split
    · exact raise_pends .blowerFault _ (by simp [NoticeKind.single, Notice.kind])
    · exact pends

/-- A full decision keeps BLOWER-FAULT pending. -/
theorem fullDecision_keepsFault {s : State} (pends : Pends .blowerFault s) : Pends .blowerFault (fullDecision s) := by
  unfold fullDecision
  split
  · exact pends
  · exact recomputeDemand_keepsFault (((fogTest_raisesOnly s).1.mono (more := [.fogAlert, .moveDone, .ventLimited, .condition])
      (by simp)).trans ((decideByMode_keepsPending _).mono (by simp)) |>.pends (by simp [Notice.kind]) pends)

/-- The blower demand handed on, and then a full decision that reads it (R33, R54, log 17). -/
theorem demandThenDecision {s : State} (level : s.blower.level = s.policy.demand) :
    BlowerFollows s (fullDecision (recomputeDemand s)) ∧ Decided (atLevel s.demandDue s) (fullDecision (recomputeDemand s)) := by
  set v := recomputeDemand s with v_def
  obtain ⟨first, firstNotes⟩ := recomputeDemand_follows level
  have due : v.policy = { s.policy with demand := s.demandDue } := recomputeDemand_policy s
  simp only [← v_def, due] at first firstNotes
  have decided : Decided (atLevel s.demandDue s) (fullDecision v) :=
    (fullDecision_decided v).reading ⟨s.policy.demand, s.policy.purging, s.policy.openSince, by rw [due]; rfl⟩ (by simp [atLevel, v_def])
      (by simp [atLevel, v_def]) (by simp [atLevel, v_def]) (by simp [atLevel, v_def]) (by simp [atLevel, v_def])
      (by simp [atLevel, v_def]) first.symm (by simp [atLevel, v_def])
  refine ⟨?_, decided⟩
  by_cases parked : s.drive.vehicle = .parked
  · rw [fullDecision_of_parked (by simpa [v_def] using parked)]
    exact recomputeDemand_follows level
  have driving : v.drive.vehicle ≠ .parked := by simpa [v_def] using parked
  set w := decideByMode (fogTest v) with w_def
  have runs : fullDecision v = recomputeDemand w := fullDecision_of_not_parked driving
  have wBlower : w.blower = v.blower := by simp [w_def]
  have wDrive : w.drive = s.drive := by simp [w_def, v_def]
  have ⟨wMode, wPurging, wComfort, wDemand⟩ : w.policy.mode = s.policy.mode ∧ w.policy.purging = s.policy.purging
      ∧ w.policy.comfort = s.policy.comfort ∧ w.policy.demand = s.demandDue := by simp [w_def, due]
  have stands : w.blower.level = w.policy.demand := by rw [wBlower, first, wDemand]; rfl
  obtain ⟨second, secondNotes⟩ := recomputeDemand_follows stands
  have sign : 0 < s.demandDue ↔ 0 < w.demandDue := by
    rw [demandDue_eq, demandDue_eq, wDrive, wMode, wPurging, wComfort]
    exact demandByTable_positive _ _ _ _ _ _
  rw [runs]
  refine ⟨?_, fun sound fault => ?_⟩
  · rw [second, wBlower, first, recomputeDemand_policy]
    exact blowerHanded_twice sign s.blower
  · cases earlier : v.blower.fault
    · exact secondNotes (by rw [wBlower, earlier]) fault
    · have pends := firstNotes sound earlier
      rw [← runs]
      exact fullDecision_keepsFault pends

theorem BlowerFollows.replied {s t : State} (h : BlowerFollows s t) (code : Byte) (result : ResultCode) (body : List Byte) :
    BlowerFollows s (sendReply code result body t) := by
  unfold BlowerFollows
  simp only [sendReply_keeps]
  exact h

/-! ### MODE -/

theorem policyMode_ofCode (n : Nat) :
    (3 < n → PolicyMode.ofCode n = none) ∧ (n ≤ 3 → ∃ m : PolicyMode, m.code = n ∧ PolicyMode.ofCode n = some m) := by
  match n with
  | 0 => exact ⟨by simp, fun _ => ⟨.auto, rfl, rfl⟩⟩
  | 1 => exact ⟨by simp, fun _ => ⟨.fresh, rfl, rfl⟩⟩
  | 2 => exact ⟨by simp, fun _ => ⟨.recirc, rfl, rfl⟩⟩
  | 3 => exact ⟨by simp, fun _ => ⟨.defrost, rfl, rfl⟩⟩
  | n + 4 => exact ⟨fun _ => rfl, fun small => by omega⟩

theorem policyMode_code_inj {m m' : PolicyMode} (same : m.code = m'.code) : m = m' := by
  cases m <;> cases m' <;> simp_all [PolicyMode.code]

/-- A taken MODE leaves the machines, the settings and the ceiling flag (R31). -/
theorem takeMode_policy (m : PolicyMode) (s : State) :
    (takeMode m s).policy.mode = m ∧ (takeMode m s).policy.hold = s.policy.hold
      ∧ (takeMode m s).policy.purging = s.policy.purging ∧ (takeMode m s).policy.ceilingFlag = s.policy.ceilingFlag
      ∧ (takeMode m s).policy.limits = s.policy.limits ∧ (takeMode m s).policy.comfort = s.policy.comfort
      ∧ (takeMode m s).policy.openSince = s.policy.openSince := by
  unfold takeMode
  split
  · next same => exact ⟨same.symm, rfl, rfl, rfl, rfl, rfl, rfl⟩
  · simp

/-- Settles O14: the mode already held, a new one while PARKED, and a new one with its demand and decision. -/
theorem modeTaken : Obligations.ModeTaken := by
  intro b s free
  obtain ⟨unknowns, knowns⟩ := policyMode_ofCode b.toNat
  refine ⟨fun unknown => ?_, fun known => ?_⟩
  · exact onlyAnswered (result := .refusedValue) rfl free (by simp [serveRequest, serveMode, unknowns unknown, Request.code]) rfl
  obtain ⟨m, code, decodes⟩ := knowns known
  set h := s.atHead (.mode b) with h_def
  have served : serveRequest (.mode b) h = sendReply 0x04#8 .done [] (takeMode m h) := by
    simp [serveRequest, serveMode, decodes]
  obtain ⟨next, answered⟩ := takenAnswer (c := .mode b) (n := 0) rfl free served (by simp [h_def]) rfl
  have kept := takeMode_policy m h
  have same : m = s.policy.mode → takeMode m h = h := fun e => by rw [takeMode, if_pos (by exact e)]
  set v := h.withPolicy { s.policy with mode := m } with v_def
  have new : m ≠ s.policy.mode → takeMode m h = fullDecision (recomputeDemand v) := fun e => by rw [takeMode, if_neg (by exact e)]; rfl
  simp only [h_def, atHead_keeps] at kept
  obtain ⟨mode, hold, purging, ceiling, limits, comfort, openSince⟩ := kept
  refine ⟨_, next, answered, by simp only [sendReply_keeps]; rw [mode, code], ⟨by simp [h_def], fun p unlisted => ?_⟩,
    by simpa using hold, by simpa using purging, by simpa using ceiling, by simpa using limits, by simpa using comfort,
    by simpa using openSince, fun held => ⟨by simp [h_def], fun p unlisted => ?_⟩, fun parked => ?_, fun other level => ?_,
    fun other driving => ?_⟩
  · cases p <;> simp [Part.Same, h_def] at unlisted ⊢
  · rw [same (policyMode_code_inj (code.trans held.symm))]
    cases p <;> simp [Part.Same, h_def] at unlisted ⊢
  · by_cases e : m = s.policy.mode
    · rw [same e]
      simp [h_def]
    · rw [new e, fullDecision_of_parked (by simpa [v_def, h_def] using parked)]
      simp [v_def, h_def]
  · have e : m ≠ s.policy.mode := fun e => other (by rw [← code, e])
    obtain ⟨follows, decided⟩ := demandThenDecision (s := v) (by exact level)
    have handed : blowerHanded (demandByTable (decide (s.drive.vehicle = .parked)) s.policy.purging m s.policy.basis s.policy.comfort)
        s.blower = (atLevel v.demandDue v).blower := by
      rw [demandDue_eq]
      rfl
    rw [new e]
    simp only [sendReply_keeps, fullDecision_policyKeeps, recomputeDemand_policy]
    refine ⟨follows.replied _ _ _, (decided.replied _ _ _).reading ⟨s.policy.demand, s.policy.purging, s.policy.openSince, ?_⟩ ?_ ?_ ?_ ?_
      ?_ rfl handed ?_⟩
    · simp [atLevel, decisionReads, v_def]
    all_goals simp [atLevel, decisionReads, v_def, h_def]
  · have e : m ≠ s.policy.mode := fun e => other (by rw [← code, e])
    set w := recomputeDemand v with w_def
    have policy : w.policy = { v.policy with demand := v.demandDue } := recomputeDemand_policy v
    obtain ⟨-, -, decided⟩ := fullDecision_decided w
    obtain ⟨-, -, -, -, -, -, fresh, recirc, recircCeiling, defrost, ⟨stays, moves⟩, demand⟩ :=
      decided (by simpa [w_def, v_def, h_def] using driving)
    have wMode : w.policy.mode = m := by rw [policy]; rfl
    have wCeiling : w.policy.ceilingFlag = s.policy.ceilingFlag := by rw [policy]; rfl
    have wTarget : w.policy.target = s.policy.target := by rw [policy]; rfl
    rw [new e]
    simp only [sendReply_keeps]
    refine ⟨fun one => ?_, fun two clear => ?_, fun two set => ?_, fun three => ?_, fun moved => ?_, fun stood => ?_⟩
    · exact fresh (wMode.trans (policyMode_code_inj (code.trans one)))
    · exact recirc (wMode.trans (policyMode_code_inj (code.trans two))) (wCeiling.trans clear)
    · exact recircCeiling (wMode.trans (policyMode_code_inj (code.trans two))) (wCeiling.trans set)
    · have isDefrost : m = .defrost := policyMode_code_inj (code.trans three)
      obtain ⟨target, basis, -⟩ := defrost (wMode.trans isDefrost)
      refine ⟨target, basis, ?_⟩
      rw [demand]
      simp [wMode, isDefrost, demandByTable]
    · have dated := (moves (by rwa [wTarget])).1
      simpa [w_def, v_def, h_def] using dated
    · have last := (stays (by rwa [wTarget])).1
      rw [last, policy]
      rfl

end Sys2Proof.Machine
end

section
/-! The leaving of PARKED by WAKE or by DRIVE with engine RUN (R27, R33, R103), and the obligation O17. -/

namespace Sys2Proof.Machine

section
variable {s : State}

/-- The vehicle state on leaving PARKED, the stop that starts and the one that ends (R103, R148, R177). -/
theorem leaveStanding_eq (s : State) :
    (leaveStanding s).drive = { s.drive with
        vehicle := if 5 < s.drive.reportedSpeed then .moving else if s.drive.drv.isOpen ∨ s.drive.krb.isOpen then .atStop else .halted,
        stopFlag := if 5 < s.drive.reportedSpeed then false
          else if s.drive.drv.isOpen ∨ s.drive.krb.isOpen then true else s.drive.stopFlag }
      ∧ (leaveStanding s).tally = (if (s.drive.drv.isOpen = true ∨ s.drive.krb.isOpen = true) ∧ s.drive.stopFlag = false then
          stopCounted s.tally else s.tally)
      ∧ ∀ n, (leaveStanding s).watch.get n
          = if (s.watch.get n).scope = .stop ∧ 5 < s.drive.reportedSpeed
              ∧ (s.drive.stopFlag = true ∨ s.drive.drv.isOpen = true ∨ s.drive.krb.isOpen = true) then
              { s.watch.get n with scope := .off, armed := false }
            else s.watch.get n := by
  have opens : s.drive.anyOpen = true ↔ s.drive.drv.isOpen = true ∨ s.drive.krb.isOpen = true := by simp [Drive.anyOpen]
  obtain ⟨opened, closed, tally⟩ := enterStanding_eq s
  have speed : (enterStanding s).drive.reportedSpeed = s.drive.reportedSpeed := by
    cases anyOpen : s.drive.anyOpen
    · rw [closed anyOpen]
      rfl
    · rw [opened anyOpen]
      rfl
  have flag : (enterStanding s).drive.stopFlag = true ↔ s.drive.stopFlag = true ∨ s.drive.anyOpen = true := by
    cases anyOpen : s.drive.anyOpen
    · simp [closed anyOpen]
    · simp [opened anyOpen]
  unfold leaveStanding
  simp only [speed, ← opens]
  by_cases fast : 5 < s.drive.reportedSpeed
  · obtain ⟨drive, watch⟩ := enterMoving_eq (enterStanding s)
    simp only [fast, if_true, drive, enterMoving_keeps, tally, watch, enterStanding_keeps, flag, WatchSlot.atStopEnd, true_and]
    refine ⟨?_, fun n => ?_⟩
    · cases anyOpen : s.drive.anyOpen
      · rw [closed anyOpen]
      · rw [opened anyOpen]
    · by_cases ends : s.drive.stopFlag = true ∨ s.drive.anyOpen = true
      · simp [ends]
      · simp [ends]
  · simp only [fast, if_false, tally, enterStanding_keeps, false_and, and_false]
    refine ⟨?_, trivial, fun _ => trivial⟩
    cases anyOpen : s.drive.anyOpen
    · rw [closed anyOpen]
      simp
    · rw [opened anyOpen]
      simp

/-- What the leaving of PARKED leaves beside the vehicle state: the timers loaded, the estimator restarted, the demand handed on and a
decision run (R27, R33, R103). -/
theorem leaveParked_eq (s : State) :
    (leaveParked s).drive = (leaveStanding s).drive ∧ (leaveParked s).tally = (leaveStanding s).tally
      ∧ (leaveParked s).watch = (leaveStanding s).watch
      ∧ (leaveParked s).timers = { s.timers with
          est := some 1000, dec := some (s.policy.limits.decisionPeriod * 1000), ckpt := some s.journal.checkpointInterval }
      ∧ (leaveParked s).est = { s.est with
          snapPm := true, snapCo2 := true, snapAh := true, divPm := 0, divCo2 := 0, divAh := 0, pmAbove := 0 } := by
  simp [leaveParked, policyWake, estimatorWake, loadPaced]

/-- The leaving of PARKED hands the demand on and runs a decision that reads it. -/
theorem leaveParked_decides (level : s.blower.level = s.policy.demand) :
    BlowerFollows s (leaveParked s)
      ∧ Decided (atLevel (demandByTable false s.policy.purging s.policy.mode s.policy.basis s.policy.comfort)
          (decisionReads s.policy s (leaveParked s))) (leaveParked s) := by
  set v := estimatorWake (loadPaced (leaveStanding s)) with v_def
  have kept : v.policy = s.policy ∧ v.blower = s.blower ∧ v.flap = s.flap := by simp [v_def, estimatorWake, loadPaced]
  obtain ⟨policy, blower, flap⟩ := kept
  have driving : v.drive.vehicle ≠ .parked := leaveStanding_driving s
  have runs : leaveParked s = fullDecision (recomputeDemand v) := rfl
  obtain ⟨follows, decided⟩ := demandThenDecision (s := v) (by rw [blower, policy]; exact level)
  have handed : (atLevel (demandByTable false s.policy.purging s.policy.mode s.policy.basis s.policy.comfort)
      (decisionReads s.policy s (fullDecision (recomputeDemand v)))).blower = (atLevel v.demandDue v).blower := by
    rw [demandDue_eq, policy, decide_eq_false driving]
    simp [atLevel, decisionReads, blower]
  rw [runs]
  refine ⟨?_, decided.reading ⟨s.policy.demand, s.policy.purging, s.policy.openSince, ?_⟩ ?_ ?_ ?_ ?_ ?_ ?_ handed ?_⟩
  · unfold BlowerFollows at follows ⊢
    rwa [blower] at follows
  · simp [atLevel, decisionReads, policy]
  all_goals simp [atLevel, decisionReads, flap]

theorem leaveParked_time (s : State) : (leaveParked s).uptime = s.uptime := by simp

/-- On leaving PARKED the vehicle state is the one the reported speed asks for, so that the speed moves it no further. -/
theorem leaveParked_settled (s : State) : vehicleSpeed (leaveParked s) = leaveParked s := by
  have drive : (leaveParked s).drive = _ := (leaveParked_eq s).1.trans (leaveStanding_eq s).1
  have speed : (leaveParked s).drive.reportedSpeed = s.drive.reportedSpeed := by
    rw [drive]
    rfl
  by_cases fast : 5 < s.drive.reportedSpeed
  · rw [vehicleSpeed_fast (by rw [speed]; exact fast), if_neg (by rw [drive]; simp [fast])]
  · rw [vehicleSpeed_slow (by rw [speed]; omega), if_neg]
    rw [drive]
    simp only [fast, if_false]
    split <;> simp

end

/-- The leaving of PARKED and the delivery of the speed it leaves, where that is not the old one. -/
def leftParked (old : Nat) (s : State) : State := speedDelivered old (leaveParked s)

section
variable {s : State} {old : Nat}

theorem leaveParked_speed (s : State) : (leaveParked s).drive.reportedSpeed = s.drive.reportedSpeed := by
  rw [(leaveParked_eq s).1, (leaveStanding_eq s).1]
  rfl

theorem leftParked_same (same : s.drive.reportedSpeed = old) : leftParked old s = leaveParked s :=
  speedDelivered_same (by rwa [leaveParked_speed])

theorem leftParked_new (new : s.drive.reportedSpeed ≠ old) :
    leftParked old s = deliver .speed s.drive.reportedSpeed (leaveParked s) := by
  rw [leftParked, speedDelivered_new (by rwa [leaveParked_speed]), leaveParked_settled, leaveParked_speed]

theorem leftParked_eq (old : Nat) (s : State) :
    (leftParked old s).drive = (leaveStanding s).drive ∧ (leftParked old s).tally = (leaveStanding s).tally
      ∧ (leftParked old s).timers = (leaveParked s).timers ∧ (leftParked old s).est = (leaveParked s).est := by
  by_cases same : s.drive.reportedSpeed = old
  · rw [leftParked_same same, (leaveParked_eq s).1, (leaveParked_eq s).2.1]
    exact ⟨rfl, rfl, rfl, rfl⟩
  · rw [leftParked_new same, ← (leaveParked_eq s).1, ← (leaveParked_eq s).2.1]
    simp

/-- A stop end turns a STOP slot OFF before a changed speed is delivered (R172, R177, log 31). -/
theorem leftParked_watch (old : Nat) (s : State) (n : SlotNumber) : (leftParked old s).watch.get n =
    if (s.watch.get n).scope = .stop ∧ 5 < s.drive.reportedSpeed
        ∧ (s.drive.stopFlag = true ∨ s.drive.drv.isOpen = true ∨ s.drive.krb.isOpen = true) then
      { s.watch.get n with scope := .off, armed := false }
    else if (s.watch.get n).quantity = .speed ∧ s.drive.reportedSpeed ≠ old then
      slotEvaluated (s.watch.get n) (s.drive.reportedSpeed : Int) s.uptime
    else s.watch.get n := by
  obtain ⟨-, -, stands⟩ := leaveStanding_eq s
  have slot := congrArg (WatchUnit.get · n) (leaveParked_eq s).2.2.1
  simp only [stands] at slot
  by_cases same : s.drive.reportedSpeed = old
  · rw [leftParked_same same, slot, if_neg (c := (s.watch.get n).quantity = .speed ∧ _) (by simp [same])]
  · rw [leftParked_new same, deliver_get, slot, leaveParked_time]
    split
    · next ends =>
      rw [slotEvaluated_off rfl, ite_self]
    · simp [same]

/-- The demand handed on and the decision stand as a changed speed is delivered after them. -/
theorem leftParked_decides (old : Nat) (level : s.blower.level = s.policy.demand) :
    BlowerFollows s (leftParked old s)
      ∧ Decided (atLevel (demandByTable false s.policy.purging s.policy.mode s.policy.basis s.policy.comfort)
          (decisionReads s.policy s (leftParked old s))) (leftParked old s) := by
  obtain ⟨follows, decided⟩ := leaveParked_decides level
  by_cases same : s.drive.reportedSpeed = old
  · rw [leftParked_same same]
    exact ⟨follows, decided⟩
  · rw [leftParked_new same]
    have keeps : KeepsPending [.watch] (leaveParked s) (deliver .speed s.drive.reportedSpeed (leaveParked s)) :=
      (deliver_raisesOnly _ _ _).1
    refine ⟨?_, (decided.then (by simp) (by simp) fun n kind =>
      keeps.pends (fun watch => by simp at kind watch; simp [watch] at kind)).reading
      ⟨s.policy.demand, s.policy.purging, s.policy.openSince, ?_⟩ ?_ ?_ ?_ ?_ ?_ ?_ ?_ ?_⟩
    · obtain ⟨blower, notes⟩ := follows
      unfold BlowerFollows
      simp only [deliver_keeps]
      exact ⟨blower, fun sound fault => keeps.pends (by simp [Notice.kind]) (notes sound fault)⟩
    all_goals simp [atLevel, decisionReads]

end

/-- Settles O17: WAKE and DRIVE RUN as the leaving of PARKED from the report they give. -/
theorem parkedIsLeft : Obligations.ParkedIsLeft := by
  refine ⟨fun s free driving => ?_, fun drive s free parked speed known => ?_⟩
  · refine onlyAnswered (result := .refusedState) rfl free ?_ rfl
    simp [serveRequest, serveWake, State.isParked, driving, Request.code]
  set old := s.drive.reportedSpeed with old_def
  set r : Request := drive.elim .wake fun v => .drive v 0#8 with r_def
  set c : Instr := drive.elim .wake fun v => .drive v 0#8 with c_def
  set d : Drive := if drive = none then s.drive
    else { s.drive with lastSpeed := speed, engine := some .run, ageMs := 0, freshness := .fresh } with d_def
  set b := (s.atHead r).withDrive d with b_def
  set result : ResultCode := drive.elim .done fun v => doneOr (clamps 0 250 v) with result_def
  have reported : b.drive.reportedSpeed = speed := by
    cases drive with
    | none => exact known.symm
    | some v => rfl
  have served : serveRequest r (s.atHead r) = sendReply r.code result [] (leftParked old b) := by
    cases drive with
    | none =>
      rw [leftParked_same (by exact reported.trans known)]
      simp [r_def, serveRequest, serveWake, State.isParked, parked, b_def, d_def, result_def, Request.code]
      rfl
    | some v =>
      have run : Engine.ofCode 0 = some .run := rfl
      have clampedTo : field 0 250 v = speed := by
        rw [field_eq v (by decide), toRange, Nat.zero_max, known]
        rfl
      simp [r_def, serveRequest, serveDrive, run, takeDrive, State.isParked, parked, Request.code, clampedTo, leftParked, b_def, d_def,
        result_def, old_def]
  have code : result.code = BitVec.ofNat 8 (drive.elim 0 fun v => if 250 < v.toNat then 1 else 0) := by
    cases drive with
    | none => rfl
    | some v => simp [result_def, doneOr_code, clamps]
  have ⟨stop, drv, krb⟩ : d.stopFlag = s.drive.stopFlag ∧ d.drv = s.drive.drv ∧ d.krb = s.drive.krb := by
    cases drive with
    | none => exact ⟨rfl, rfl, rfl⟩
    | some v => exact ⟨rfl, rfl, rfl⟩
  have request : requestOf c = some r := by
    cases drive <;> rfl
  obtain ⟨next, answered⟩ := takenAnswer (c := c) request free served (by simp [leftParked, b_def]) code
  obtain ⟨drives, tally, timers, est⟩ := leftParked_eq old b
  obtain ⟨left, leftTally, -⟩ := leaveStanding_eq b
  have watch := leftParked_watch old b
  have decides := leftParked_decides (s := b) old
  rw [left] at drives
  rw [leftTally] at tally
  rw [(leaveParked_eq b).2.2.2.1] at timers
  rw [(leaveParked_eq b).2.2.2.2] at est
  have bDrive : b.drive = d := rfl
  simp only [reported] at drives tally timers est watch
  simp only [bDrive, drv, krb, stop] at drives tally watch
  refine ⟨_, next, answered, ?_, ?_, ?_, ?_, fun n => ?_, ?_, ?_, fun level => ?_, ⟨by simp [leftParked, b_def], fun p unlisted => ?_⟩⟩
  · simp only [sendReply_keeps, drives, ← drv, ← krb]
  · simp only [sendReply_keeps, drives]
  · simp only [sendReply_keeps, drives]
  · simp only [sendReply_keeps, tally]
    rfl
  · simp only [sendReply_keeps, watch n]
    rfl
  · simp only [sendReply_keeps, timers]
    rfl
  · simp only [sendReply_keeps, est]
    rfl
  · obtain ⟨follows, decided⟩ := decides (by exact level)
    refine ⟨follows.replied _ _ _, (decided.replied _ _ _).reading ⟨s.policy.demand, s.policy.purging, s.policy.openSince, ?_⟩ ?_ ?_ ?_
      ?_ ?_ ?_ ?_ ?_⟩
    all_goals simp [atLevel, decisionReads, b_def]
  · cases p <;> simp [Part.Same, leftParked, b_def] at unlisted ⊢

end Sys2Proof.Machine
end

section
/-! The slots that WATCH SET and WATCH CLEAR write afresh (R178, R179), and the obligation O25. -/

namespace Sys2Proof.Machine

section
variable {s t : State}

/-- A cleared slot evaluated is the slot written afresh (R178, R179). -/
theorem slotEvaluated_cleared (w : WatchSlot) (v : Int) (uptime : Nat) :
    slotEvaluated w.cleared v uptime = slotAfresh w v uptime := by
  obtain ⟨q, kind, level, hysteresis, scope, armed, hit⟩ := w
  have off : ∀ k, slotEvaluated (WatchSlot.cleared ⟨q, k, level, hysteresis, .off, armed, hit⟩) v uptime
      = slotAfresh ⟨q, k, level, hysteresis, .off, armed, hit⟩ v uptime := fun _ => rfl
  have on : ∀ x, x ≠ .off → slotEvaluated (WatchSlot.cleared ⟨q, kind, level, hysteresis, x, armed, hit⟩) v uptime
      = slotAfresh ⟨q, kind, level, hysteresis, x, armed, hit⟩ v uptime := by
    intro x notOff
    cases kind with
    | above =>
      rw [slotEvaluated_above notOff rfl]
      cases x <;> simp [WatchSlot.cleared, slotAfresh, apply_ite] at notOff ⊢
    | below =>
      rw [slotEvaluated_below notOff rfl]
      cases x <;> simp [WatchSlot.cleared, slotAfresh, apply_ite] at notOff ⊢
    | crossUp =>
      rw [slotEvaluated_crossUp notOff rfl]
      by_cases back : v ≤ level - hysteresis <;> cases x <;> simp [WatchSlot.cleared, slotAfresh, back] at notOff ⊢
    | crossDown =>
      rw [slotEvaluated_crossDown notOff rfl]
      by_cases back : level + hysteresis ≤ v <;> cases x <;> simp [WatchSlot.cleared, slotAfresh, back] at notOff ⊢
  cases scope with
  | off => exact off kind
  | stop => exact on .stop (by simp)
  | always => exact on .always (by simp)

/-- A quantity's present value reads the estimator, the channels, the flap and the drive state alone. -/
theorem present_congr (est : t.est = s.est) (channels : t.channels = s.channels) (drive : t.drive = s.drive) (q : Quantity) :
    t.present q = s.present q := by
  cases q <;> simp [State.present, State.usable, est, channels, drive]

theorem writeSlot_get (n m : SlotNumber) (w : WatchSlot) (s : State) :
    (writeSlot n w s).watch.get m = if m = n then slotAfresh w (s.present w.quantity) s.uptime else s.watch.get m := by
  unfold writeSlot evaluatePresent
  rw [evaluateSlot_get]
  simp only [State.withWatch_watch, WatchUnit.get_set, if_true]
  split
  · rw [← slotEvaluated_cleared]
    rfl
  · rfl

theorem clearSlot_eq (n : SlotNumber) (s : State) : clearSlot n s = writeSlot n (s.watch.get n) s := rfl

/-- A clear writes each slot of its set afresh, with the slot's own fields (R179). -/
theorem clearSlots_get {l : List SlotNumber} (once : l.Nodup) (m : SlotNumber) (s : State) :
    (clearSlots l s).watch.get m
      = if m ∈ l then slotAfresh (s.watch.get m) (s.present (s.watch.get m).quantity) s.uptime else s.watch.get m := by
  induction l generalizing s with
  | nil => simp [clearSlots]
  | cons n l ih =>
    obtain ⟨new, once⟩ := List.nodup_cons.mp once
    have rest : clearSlots (n :: l) s = clearSlots l (clearSlot n s) := rfl
    have present : ∀ q, (clearSlot n s).present q = s.present q := present_congr (by simp) (by simp) (by simp)
    have time : (clearSlot n s).uptime = s.uptime := by simp
    rw [rest, ih once, present, time, clearSlot_eq, writeSlot_get]
    by_cases same : m = n
    · rw [if_pos same, if_neg (by rwa [same]), if_pos (by simp [same]), same]
    · simp [same]

/-- A slot written afresh that stays unhit raises nothing; one that hits raises WATCH with its number (R176). -/
theorem writeSlot_notices (n : SlotNumber) (w : WatchSlot) (s : State) :
    (((writeSlot n w s).watch.get n).firstHit = none → (writeSlot n w s).notices = s.notices)
      ∧ (((writeSlot n w s).watch.get n).firstHit.isSome = true →
          ∃ p ∈ (writeSlot n w s).notices.pending, ∃ l, p.notice = .watch l ∧ n ∈ l) := by
  set u := s.withWatch (s.watch.set n w.cleared) with u_def
  have slot : u.watch.get n = w.cleared := by simp [u_def, WatchUnit.get_set]
  have writes : writeSlot n w s = evaluateSlot n (u.present w.quantity) u := by
    rw [writeSlot, evaluatePresent, ← u_def, slot]
    rfl
  have unhit : (u.watch.get n).firstHit = none := by rw [slot]; rfl
  have evaluated : (evaluateSlot n (u.present w.quantity) u).watch.get n
      = slotEvaluated (u.watch.get n) (u.present w.quantity) u.uptime := by rw [evaluateSlot_get, if_pos rfl]
  rw [writes, evaluated]
  refine ⟨fun none => ?_, fun hit => ?_⟩
  · rw [evaluateSlot_of_no_first (none.trans unhit.symm)]
    rfl
  · have first : (slotEvaluated (u.watch.get n) (u.present w.quantity) u.uptime).firstHit ≠ (u.watch.get n).firstHit := by
      rw [unhit]
      exact Option.isSome_iff_ne_none.mp hit
    have on : (u.watch.get n).scope ≠ .off := fun off => first (by rw [slotEvaluated_off off])
    rw [evaluateSlot_of_first on first]
    exact raise_watch n _

/-! ### The requests' codes -/

theorem slotNumber_ofCode (n : Nat) :
    (n = 0 ∨ 4 < n → SlotNumber.ofCode n = none) ∧ ∀ k : SlotNumber, n = k.toNat → SlotNumber.ofCode n = some k := by
  refine ⟨fun unknown => ?_, fun k code => ?_⟩
  · match n with
    | 0 => rfl
    | 1 | 2 | 3 | 4 => omega
    | n + 5 => rfl
  · subst code
    cases k <;> rfl

theorem quantity_ofCode (q : Quantity) : Quantity.ofCode q.code = some q := by
  cases q with
  | channel c => cases c <;> rfl
  | _ => rfl

theorem watchKind_ofCode (k : WatchKind) : WatchKind.ofCode k.code = some k := by
  cases k <;> rfl

theorem watchScope_ofCode (x : WatchScope) : WatchScope.ofCode x.code = some x := by
  cases x <;> rfl

theorem slotsOf_mem (set : Byte) (n : SlotNumber) : n ∈ slotsOf set ↔ set.getLsbD (n.toNat - 1) = true := by
  cases n <;> simp [slotsOf, SlotNumber.all]

theorem slotsOf_nodup (set : Byte) : (slotsOf set).Nodup := by
  have all : SlotNumber.all.Nodup := by decide
  exact all.filter _

end

/-- Settles O25: the slots that the two requests write, by `writeSlot_get` and `clearSlots_get`. -/
theorem watchSlotsWritten : Obligations.WatchSlotsWritten := by
  refine ⟨fun f s free unknown => ?_, fun f n q k x s free slot quantity kind scope => ?_, fun set s free high => ?_,
    fun set s free low => ?_⟩
  · refine onlyAnswered (result := .refusedValue) rfl free ?_ rfl
    have refused : SlotNumber.ofCode f.slot.toNat = none ∨ watchSlotOf f = none := by
      rcases unknown with zero | many | scope
      · exact .inl ((slotNumber_ofCode _).1 (.inl zero))
      · exact .inl ((slotNumber_ofCode _).1 (.inr many))
      · right
        simp [watchSlotOf, scope, WatchScope.ofCode]
    rcases refused with h | h <;> simp [serveRequest, serveWatchSet, h, Request.code]
  · set w : WatchSlot := {
        quantity := q, kind := k, level := f.level.toInt, hysteresis := f.hysteresis.toNat, scope := x, armed := false, firstHit := none }
      with w_def
    have known : SlotNumber.ofCode f.slot.toNat = some n := (slotNumber_ofCode _).2 n slot
    have written : watchSlotOf f = some w := by
      simp [watchSlotOf, quantity, kind, scope, quantity_ofCode, watchKind_ofCode, watchScope_ofCode, w_def]
    set h := s.atHead (.watchSet f) with h_def
    obtain ⟨next, answered⟩ := takenAnswer (c := .watchSet f) (result := .done) (n := 0) (u := writeSlot n w h) (body := []) rfl free
      (by simp [serveRequest, serveWatchSet, known, written, Request.code, h_def]) (by simp [h_def]) rfl
    have present : h.present q = s.present q := present_congr (by simp [h_def]) (by simp [h_def]) (by simp [h_def]) q
    have get := fun m => writeSlot_get n m w h
    obtain ⟨unhit, hit⟩ := writeSlot_notices n w h
    refine ⟨_, next, answered, ⟨by simp [h_def], fun p unlisted => ?_⟩, ?_, fun m other => ?_, ?_, ?_⟩
    · cases p <;> simp [Part.Same, h_def] at unlisted ⊢
    · simp only [sendReply_keeps]
      rw [get, if_pos rfl, ← present]
      rfl
    · simp only [sendReply_keeps]
      rw [get, if_neg other]
      rfl
    · simp only [sendReply_keeps]
      exact unhit
    · simpa only [sendReply_keeps] using hit
  · refine onlyAnswered (result := .refusedValue) rfl free ?_ rfl
    have unknown : 16 ≤ set.toNat := by omega
    simp [serveRequest, serveWatchClear, unknown, Request.code]
  · set h := s.atHead (.watchClear set) with h_def
    have known : ¬16 ≤ set.toNat := by omega
    obtain ⟨next, answered⟩ := takenAnswer (c := .watchClear set) (result := .done) (n := 0) (u := clearSlots (slotsOf set) h) (body := []) rfl
      free (by simp [serveRequest, serveWatchClear, known, Request.code, h_def]) (by simp [h_def]) rfl
    refine ⟨_, next, answered, ⟨by simp [h_def], fun p unlisted => ?_⟩, fun n => ?_⟩
    · cases p <;> simp [Part.Same, h_def] at unlisted ⊢
    · simp only [sendReply_keeps]
      rw [clearSlots_get (slotsOf_nodup set)]
      simp only [slotsOf_mem]
      rw [present_congr (s := s) (by simp [h_def]) (by simp [h_def]) (by simp [h_def])]
      simp [h_def]

end Sys2Proof.Machine
end

section
/-! What a raising makes of the pending notices, what NOTICE FETCH takes and reports, what NOTICE MASK and CONDITIONS state (chapter 10),
and the obligations O28 and O29. -/

namespace Sys2Proof.Machine

/-! ### The pending notices -/

section
variable {l : List PendingNotice} {n : Notice} {p q : PendingNotice}

/-- The pending notices stand by rising priority number (R181). -/
def ByPriority (l : List PendingNotice) : Prop := l.Pairwise fun a b => a.notice.kind.priority < b.notice.kind.priority

/-- Of each kind at most one notice is pending (R181). -/
theorem ByPriority.kind_inj (sorted : ByPriority l) (hp : p ∈ l) (hq : q ∈ l) (same : p.notice.kind = q.notice.kind) : p = q := by
  have once : (l.map fun x => x.notice.kind).Nodup :=
    List.pairwise_map.mpr (sorted.imp fun less => fun equal => by rw [equal] at less; exact lt_irrefl _ less)
  exact List.inj_on_of_nodup_map once hp hq same

/-- A raising of a kind that is not pending adds it with the repeated flag clear (R182). -/
theorem raiseIn_new (other : ∀ p ∈ l, p.notice.kind ≠ n.kind) (q : PendingNotice) : q ∈ raiseIn n l ↔ q ∈ l ∨ q = ⟨n, false⟩ := by
  induction l with
  | nil => simp [raiseIn]
  | cons a l ih =>
    rw [raiseIn, if_neg (other a (by simp))]
    split
    · simp only [List.mem_cons]
      tauto
    · rw [List.mem_cons, List.mem_cons, ih (fun p hp => other p (by simp [hp])), or_assoc]

/-- A raising of a pending kind merges its detail and sets the repeated flag (R182). -/
theorem raiseIn_merges (sorted : ByPriority l) (hp : p ∈ l) (kind : p.notice.kind = n.kind) (q : PendingNotice) :
    q ∈ raiseIn n l ↔ q ∈ l ∧ q ≠ p ∨ q = ⟨p.notice.merge n, true⟩ := by
  induction l with
  | nil => simp at hp
  | cons a l ih =>
    have ⟨first, rest⟩ := List.pairwise_cons.mp sorted
    by_cases head : a.notice.kind = n.kind
    · obtain rfl : a = p := sorted.kind_inj (by simp) hp (head.trans kind.symm)
      have fresh : a ∉ l := fun again => lt_irrefl _ (first a again)
      rw [raiseIn, if_pos head, List.mem_cons, List.mem_cons]
      constructor
      · rintro (merged | later)
        · exact .inr merged
        · exact .inl ⟨.inr later, fun same => fresh (same ▸ later)⟩
      · rintro (⟨same | later, other⟩ | merged)
        · exact absurd same other
        · exact .inr later
        · exact .inl merged
    · have later : p ∈ l := (List.mem_cons.mp hp).resolve_left fun same => head (same ▸ kind)
      have notBefore : ¬n.kind.priority < a.notice.kind.priority := by
        rw [← kind]
        exact (first p later).asymm
      have other : a ≠ p := fun same => head (same ▸ kind)
      rw [raiseIn, if_neg head, if_neg notBefore, List.mem_cons, List.mem_cons, ih rest later]
      constructor
      · rintro (same | ⟨later, different⟩ | merged)
        · exact .inl ⟨.inl same, same ▸ other⟩
        · exact .inl ⟨.inr later, different⟩
        · exact .inr merged
      · rintro (⟨same | later, different⟩ | merged)
        · exact .inl same
        · exact .inr (.inl ⟨later, different⟩)
        · exact .inr (.inr merged)

/-- The first of the notices that qualify, in order of priority, is the one that stands first of all. -/
theorem find_first {f : PendingNotice → Bool} (sorted : ByPriority l) (hp : p ∈ l) (qualifies : f p = true)
    (first : ∀ q ∈ l, f q = true → p.notice.kind.priority ≤ q.notice.kind.priority) : l.find? f = some p := by
  cases found : l.find? f with
  | none => exact absurd qualifies (List.find?_eq_none.mp found p hp)
  | some q =>
    have hq := List.mem_of_find?_eq_some found
    obtain ⟨-, before, after, rfl, none⟩ := List.find?_eq_some_iff_append.mp found
    congr 1
    by_contra other
    have later : p ∈ after := by
      rcases List.mem_append.mp hp with earlier | rest
      · have := none p earlier
        simp [qualifies] at this
      · exact (List.mem_cons.mp rest).resolve_left (Ne.symm other)
    have less := (List.pairwise_cons.mp (List.pairwise_append.mp sorted).2.1).1 p later
    have le := first q hq (List.find?_some found)
    omega

/-- A set's field of four bytes has a member's bit set (R191). -/
theorem setField_testBit {α : Type} [DecidableEq α] {bit : α → Nat} (inj : Function.Injective bit) (members : List α) {x : α}
    (small : bit x < 32) : (fieldAt (out32 (bitsOf bit members)) 0 4).testBit (bit x) = decide (x ∈ members) := by
  rw [fieldAt_out32, toNat_emod_pow, bitsOf_testBit_mod bit members small]
  exact decide_eq_decide.mpr ⟨fun ⟨y, mem, same⟩ => inj same ▸ mem, fun mem => ⟨x, mem, rfl⟩⟩

/-- The detail of a notice in the body of its fetch (R181, R191, R199). -/
theorem noticeBody_detail (p : PendingNotice) : DetailAt (noticeBody p) 2 p.notice := by
  have within : ∀ k m, fieldAt (noticeBody p) (2 + k) m = fieldAt p.notice.detail k m := fun k m => by
    rw [noticeBody, fieldAt_append_right _ _ (by simp)]
    simp
  have whole : fieldAt (noticeBody p) 2 4 = fieldAt p.notice.detail 0 4 := within 0 4
  obtain ⟨notice, repeated⟩ := p
  cases notice with
  | flapFault c =>
    refine whole.trans ((fieldAt_out32_of_lt (x := c.code) ?_))
    cases c <;> decide
  | filter d =>
    refine whole.trans ((fieldAt_out32_of_lt (x := d.code) ?_))
    cases d <;> decide
  | blowerFault => exact whole.trans (fieldAt_out32_of_lt (x := 0) (by decide))
  | journalFail => exact whole.trans (fieldAt_out32_of_lt (x := 0) (by decide))
  | ventLimited => exact whole.trans (fieldAt_out32_of_lt (x := 0) (by decide))
  | co2Ceiling x => exact whole.trans (fieldAt_out32 x)
  | fogAlert x => exact whole.trans (fieldAt_out32 x)
  | moveDone x => exact whole.trans (fieldAt_out32 x)
  | plumeLong k =>
    refine whole.trans ((fieldAt_out32 _).trans ?_)
    omega
  | plumeOpen k d =>
    constructor
    · refine (within 0 2).trans ?_
      simp only [Notice.detail, List.append_assoc]
      rw [fieldAt_append_left _ (by simp), fieldAt_out16]
      omega
    · refine (within 3 1).trans ?_
      simp only [Notice.detail]
      rw [fieldAt_append_right _ _ (by simp)]
      simp only [List.length_append, out16_length, List.length_singleton, Nat.sub_self, fieldAt_out8]
      cases d <;> rfl
  | sensorLost l =>
    intro c
    rw [whole]
    exact setField_testBit (fun a b => channel_code_inj) l (by have := channel_code_lt c; omega)
  | watch l =>
    intro m
    rw [whole]
    refine setField_testBit (bit := fun m : SlotNumber => m.toNat - 1) (fun a b same => ?_) l (by cases m <;> decide)
    cases a <;> cases b <;> simp_all [SlotNumber.toNat]
  | condition l =>
    intro k
    rw [whole]
    refine setField_testBit (bit := ConditionKind.code) (fun a b same => ?_) l (by cases k <;> decide)
    cases a <;> cases b <;> simp_all [ConditionKind.code]

theorem noticeBody_head (p : PendingNotice) :
    (noticeBody p).length = 6 ∧ fieldAt (noticeBody p) 0 1 = p.notice.kind.priority
      ∧ fieldAt (noticeBody p) 1 1 = if p.repeated then 1 else 0 := by
  have kind : fieldAt (noticeBody p) 0 1 = fieldAt (out8 p.notice.kind.priority) 0 1 := by
    simp only [noticeBody, List.append_assoc]
    simp [fieldAt_append_left]
  have repeated : fieldAt (noticeBody p) 1 1 = fieldAt (out8 p.repeated.toNat) 0 1 := by
    simp only [noticeBody, List.append_assoc]
    simp [fieldAt_append_right, fieldAt_append_left]
  refine ⟨noticeBody_length p, ?_, ?_⟩
  · rw [kind, fieldAt_out8]
    cases p.notice.kind <;> rfl
  · rw [repeated, fieldAt_out8]
    cases p.repeated <;> rfl

theorem noticeKindsOf_mem (set : Word16) (k : NoticeKind) : k ∈ noticeKindsOf set ↔ set.getLsbD (k.priority - 1) = true := by
  have all : k ∈ NoticeKind.all := by cases k <;> decide
  simp [noticeKindsOf, all]

end

/-- What a fetch takes: the notice leaves, and the attention line follows (R184, R185). -/
theorem fetched_pending {s : State} (sound : NoticesSound s) {p : PendingNotice} (pends : p ∈ s.notices.pending) (q : PendingNotice) :
    q ∈ (s.notices.fetched p.notice.kind).pending ↔ q ∈ s.notices.pending ∧ q ≠ p := by
  obtain ⟨sorted, -⟩ := sound
  simp only [Notices.fetched, Notices.update, List.mem_filter, decide_eq_true_eq]
  exact and_congr_right fun hq => not_congr ⟨ByPriority.kind_inj sorted hq pends, fun same => same ▸ rfl⟩

/-- A fetch with its flag known chooses the first notice among the unmasked, or among all (R185). -/
theorem chosen_first {s : State} (sound : NoticesSound s) {flag : Bool} {p : PendingNotice} (pends : p ∈ s.notices.pending)
    (qualifies : flag = true ∨ p.notice.kind ∉ s.notices.masked)
    (first : ∀ q ∈ s.notices.pending, flag = true ∨ q.notice.kind ∉ s.notices.masked →
      p.notice.kind.priority ≤ q.notice.kind.priority) : s.notices.chosen flag = some p :=
  find_first sound.1 pends (by simpa using qualifies) fun q hq allowed => first q hq (by simpa using allowed)

theorem chosen_none {s : State} {flag : Bool} (none : ∀ p ∈ s.notices.pending, flag = false ∧ p.notice.kind ∈ s.notices.masked) :
    s.notices.chosen flag = .none := by
  refine List.find?_eq_none.mpr fun p hp => ?_
  obtain ⟨clear, masked⟩ := none p hp
  simp [clear, masked]

/-- A raising makes its kind pending and works the attention line out again (R182, R184). -/
theorem raise_raised (n : Notice) {s : State} (sound : NoticesSound s) :
    OnlyChanges [.notices] s (raise n s) ∧ (raise n s).notices.masked = s.notices.masked
      ∧ ((raise n s).notices.attention = true ↔ ∃ q ∈ (raise n s).notices.pending, q.notice.kind ∉ s.notices.masked)
      ∧ ((∀ p ∈ s.notices.pending, p.notice.kind ≠ n.kind) →
          ∀ q, q ∈ (raise n s).notices.pending ↔ q ∈ s.notices.pending ∨ q = ⟨n, false⟩)
      ∧ ∀ p ∈ s.notices.pending, p.notice.kind = n.kind →
          ∃ m, Merged p.notice n m
            ∧ ∀ q, q ∈ (raise n s).notices.pending ↔ q ∈ s.notices.pending ∧ q ≠ p ∨ q = ⟨m, true⟩ := by
  refine ⟨⟨by simp, fun p unlisted => ?_⟩, rfl, attentionDue_iff _ _, raiseIn_new, fun p pends kind =>
    ⟨_, merge_merged, raiseIn_merges sound.1 pends kind⟩⟩
  cases p <;> simp [Part.Same] at unlisted ⊢

/-- Settles O28: the fetch, the masks and the raisings, each by its rule. -/
theorem noticesFetchedAndMasked : Obligations.NoticesFetchedAndMasked := by
  refine ⟨fun s free sound => ⟨fun f unknown => ?_, fun f known empty => ?_, fun f p known pends qualifies first => ?_,
    fun k high => ?_, fun k low => ?_⟩, fun n s sound => raise_raised n sound⟩
  · refine onlyAnswered (result := .refusedValue) rfl free ?_ rfl
    simp [serveRequest, serveNoticeFetch, Nat.not_le.mpr unknown, Request.code]
  · refine onlyAnswered (result := .empty) rfl free ?_ rfl
    have nothing : s.notices.chosen (decide (f.toNat = 1)) = none := chosen_none fun p hp => by
      obtain ⟨clear, masked⟩ := empty p hp
      exact ⟨by simp [clear], masked⟩
    simp [serveRequest, serveNoticeFetch, known, fetchNotice, nothing, Request.code]
  · set h := s.atHead (.noticeFetch f) with h_def
    have chosen : s.notices.chosen (decide (f.toNat = 1)) = some p :=
      chosen_first sound pends (by simpa using qualifies) fun q hq allowed => first q hq (by simpa using allowed)
    obtain ⟨next, answered⟩ := takenAnswer (c := .noticeFetch f) (result := .done) (n := 0) (body := noticeBody p)
      (u := h.withNotices (s.notices.fetched p.notice.kind)) rfl free
      (by simp [serveRequest, serveNoticeFetch, known, fetchNotice, chosen, h_def, Request.code]) (by simp [h_def]) rfl
    obtain ⟨length, kind, repeated⟩ := noticeBody_head p
    refine ⟨_, _, next, answered, ⟨by simp [h_def], fun x unlisted => ?_⟩, length, kind, repeated, noticeBody_detail p,
      fun q => ?_, ?_, ?_, ?_⟩
    · cases x <;> simp [Part.Same, h_def] at unlisted ⊢
    · simp only [sendReply_keeps]
      exact fetched_pending sound pends q
    · simp only [sendReply_keeps]
      exact attentionDue_iff _ _
    · simp only [sendReply_keeps]
      rfl
    · simp only [sendReply_keeps]
      rfl
  · refine onlyAnswered (result := .refusedValue) rfl free ?_ rfl
    have unknown : 8192 ≤ k.toNat := by omega
    simp [serveRequest, serveNoticeMask, unknown, Request.code]
  · set h := s.atHead (.noticeMask k) with h_def
    have known : ¬8192 ≤ k.toNat := by omega
    obtain ⟨next, answered⟩ := takenAnswer (c := .noticeMask k) (result := .done) (n := 0) (body := [])
      (u := h.withNotices (h.notices.update (noticeKindsOf k) h.notices.pending)) rfl free
      (by simp [serveRequest, serveNoticeMask, known, h_def, Request.code]) (by simp [h_def]) rfl
    refine ⟨_, next, answered, ⟨by simp [h_def], fun x unlisted => ?_⟩, fun x => ?_, ?_, ?_, ?_⟩
    · cases x <;> simp [Part.Same, h_def] at unlisted ⊢
    · simp only [sendReply_keeps]
      exact noticeKindsOf_mem k x
    · simp only [sendReply_keeps]
      rfl
    · simp only [sendReply_keeps]
      refine (attentionDue_iff _ _).trans ?_
      simp only [noticeKindsOf_mem, Bool.not_eq_true]
      rfl
    · simp only [sendReply_keeps]
      rfl

/-! ### CONDITIONS -/

theorem conditionCode_inj : Function.Injective ConditionKind.code := fun a b same => by
  cases a <;> cases b <;> simp_all [ConditionKind.code]

theorem conditionKindsOf_mem (set : Byte) (k : ConditionKind) : k ∈ conditionKindsOf set ↔ set.getLsbD k.code = true := by
  have all : k ∈ ConditionKind.all := by cases k <;> decide
  simp [conditionKindsOf, all]

/-- The two flag bytes of a CONDITIONS reply (R188). -/
theorem conditionsBody_flags (s : State) (k : ConditionKind) :
    (fieldAt (conditionsBody s) 0 1).testBit k.code = decide (k ∈ s.notices.conditionFlags)
      ∧ (fieldAt (conditionsBody s) 1 1).testBit k.code = decide (k ∈ s.notices.conditionMasked) := by
  have small : k.code < 8 := by cases k <;> decide
  have flags : fieldAt (conditionsBody s) 0 1 = fieldAt (out8 (bitsOf ConditionKind.code s.notices.conditionFlags)) 0 1 := by
    simp only [conditionsBody, List.append_assoc]
    simp [fieldAt_append_left]
  have masks : fieldAt (conditionsBody s) 1 1 = fieldAt (out8 (bitsOf ConditionKind.code s.notices.conditionMasked)) 0 1 := by
    simp only [conditionsBody, List.append_assoc]
    simp [fieldAt_append_right, fieldAt_append_left]
  have member : ∀ l : List ConditionKind,
      (fieldAt (out8 (bitsOf ConditionKind.code l)) 0 1).testBit k.code = decide (k ∈ l) := fun l => by
    rw [fieldAt_out8, bitsOf_testBit_mod _ _ small]
    exact decide_eq_decide.mpr ⟨fun ⟨y, mem, same⟩ => conditionCode_inj same ▸ mem, fun mem => ⟨k, mem, rfl⟩⟩
  rw [flags, masks]
  exact ⟨member _, member _⟩

/-- The last-condition record in a CONDITIONS reply (R188, R199). -/
theorem conditionsBody_record (s : State) :
    fieldAt (conditionsBody s) 2 1 = (if s.notices.lastCondition.isSome then 1 else 0)
      ∧ ∀ r, s.notices.lastCondition = some r →
          fieldAt (conditionsBody s) 3 1 = r.kind.code
            ∧ fieldAt (conditionsBody s) 4 1 = (r.quantity.map (·.code)).getD 255
            ∧ fieldAt (conditionsBody s) 5 4 = r.uptime % 2 ^ 32
            ∧ fieldAt (conditionsBody s) 9 4 = (r.value % 2 ^ 32).toNat := by
  have within : ∀ k m, fieldAt (conditionsBody s) (2 + k) m = fieldAt (conditionRecordBody s.notices.lastCondition) k m := fun k m => by
    rw [conditionsBody, fieldAt_append_right _ _ (by simp)]
    simp
  refine ⟨(within 0 1).trans ?_, fun r found => ?_⟩
  · cases s.notices.lastCondition with
    | none =>
      simp only [conditionRecordBody, List.append_assoc]
      rw [fieldAt_append_left _ (by simp), fieldAt_out8]
      rfl
    | some r =>
      simp only [conditionRecordBody, List.append_assoc]
      rw [fieldAt_append_left _ (by simp), fieldAt_out8]
      rfl
  · obtain ⟨kind, quantity, uptime, value⟩ := r
    refine ⟨(within 1 1).trans ?_, (within 2 1).trans ?_, (within 3 4).trans ?_, (within 7 4).trans ?_⟩ <;>
      simp only [found, conditionRecordBody, List.append_assoc]
    · simp only [fieldAt_append_right, fieldAt_append_left, out8_length, le_refl, Nat.sub_self, fieldAt_out8]
      cases kind <;> rfl
    · simp only [fieldAt_append_right, fieldAt_append_left, out8_length, Nat.reduceLeDiff, Nat.reduceSub, fieldAt_out8]
      cases quantity with
      | none => rfl
      | some q =>
        cases q with
        | channel c => cases c <;> rfl
        | _ => rfl
    · simp [fieldAt_append_right, fieldAt_append_left, fieldAt_out32]
      omega
    · simp [fieldAt_append_right, fieldAt_out32]

theorem conditionMaskKnown_iff (m : Option Byte) : conditionMaskKnown m = true ↔ ∀ x, m = some x → x.toNat ≤ 63 := by
  cases m with
  | none => simp [conditionMaskKnown]
  | some x =>
    simp only [conditionMaskKnown, decide_eq_true_eq, Option.some.injEq, forall_eq']
    omega

/-- Settles O29: the request's three steps, and an occurrence by the lemmas about `occur`. -/
theorem conditionsTaken : Obligations.ConditionsTaken := by
  refine ⟨fun c m s free => ⟨fun unknown => ?_, fun clear masks => ?_⟩, fun k q v s => ?_⟩
  · refine onlyAnswered (result := .refusedValue) rfl free ?_ rfl
    have refused : ¬(c.toNat ≤ 1 ∧ conditionMaskKnown m = true) := by
      rw [conditionMaskKnown_iff]
      rintro ⟨clear, masks⟩
      rcases unknown with high | ⟨x, given, high⟩
      · omega
      · have := masks x given
        omega
    simp [serveRequest, serveConditions, refused, Request.code]
  · set h := s.atHead (.conditions c m) with h_def
    have taken : c.toNat ≤ 1 ∧ conditionMaskKnown m = true := ⟨clear, (conditionMaskKnown_iff m).mpr masks⟩
    set t := maskConditions m h with t_def
    set u := clearConditions (decide (c.toNat = 1)) t with u_def
    have stored : t.notices = { s.notices with conditionMasked := (m.map conditionKindsOf).getD s.notices.conditionMasked } := by
      cases m <;> rfl
    have cleared : u.notices = { t.notices with conditionFlags := if c.toNat = 1 then [] else t.notices.conditionFlags } := by
      by_cases one : c.toNat = 1 <;> simp [u_def, clearConditions, one]
    obtain ⟨next, answered⟩ := takenAnswer (c := .conditions c m) (result := .done) (n := 0) (body := conditionsBody t) (u := u) rfl free
      (by simp [serveRequest, serveConditions, taken, u_def, t_def, h_def, Request.code]) (by simp [u_def, t_def, h_def]) rfl
    rw [stored] at cleared
    refine ⟨_, _, next, answered, ⟨by simp [u_def, t_def, h_def], fun x unlisted => ?_⟩, conditionsBody_length t, fun k => ?_, ?_, ?_, ?_,
      ?_, ?_, ?_, ?_, ?_⟩
    · cases x <;> simp [Part.Same, u_def, t_def, h_def] at unlisted ⊢
    · obtain ⟨flags, masked⟩ := conditionsBody_flags t k
      simp only [sendReply_keeps]
      rw [flags, masked, cleared, stored]
      exact ⟨rfl, rfl⟩
    · simp only [sendReply_keeps]
      rw [cleared]
    · rintro rfl
      simp only [sendReply_keeps]
      rw [cleared]
      rfl
    · rintro x rfl k
      simp only [sendReply_keeps]
      rw [cleared]
      exact conditionKindsOf_mem x k
    · simp only [sendReply_keeps]
      rw [cleared]
    · simp only [sendReply_keeps]
      rw [cleared]
    · simp only [sendReply_keeps]
      rw [cleared]
    · simp only [sendReply_keeps]
      rw [cleared]
    · have record := conditionsBody_record t
      rw [stored] at record
      exact record
  · refine ⟨⟨by simp, fun p unlisted => ?_⟩, fun k' => occur_flags k k' q v s, (occur_masks k q v s).2, fun masked =>
      occur_masked masked q v, fun unmasked => occur_unmasked unmasked q v⟩
    cases p <;> simp [Part.Same] at unlisted ⊢

end Sys2Proof.Machine
end

section
/-! What an event leaves of a condition kind it does not occur in, and the recomputation of the fog margin with its two lookups (R23,
R25). -/

namespace Sys2Proof.Machine

/-! ### A kind that does not occur -/

/-- From s to t the condition kind k has not occurred, and where it was noted it still is. -/
def KindStands (k : ConditionKind) (s t : State) : Prop :=
  (k ∈ t.notices.conditionFlags ↔ k ∈ s.notices.conditionFlags) ∧ t.notices.conditionMasked = s.notices.conditionMasked
    ∧ (NotesCondition k s → NotesCondition k t)

section
variable {s t u : State} {k : ConditionKind} {kinds : List NoticeKind}

theorem KindStands.refl (s : State) : KindStands k s s := ⟨Iff.rfl, rfl, id⟩

theorem KindStands.trans (first : KindStands k s t) (second : KindStands k t u) : KindStands k s u := by
  obtain ⟨flags, masks, noted⟩ := first
  obtain ⟨flags', masks', noted'⟩ := second
  exact ⟨flags'.trans flags, masks'.trans masks, noted' ∘ noted⟩

theorem RaisesOnly.kindStands (h : RaisesOnly kinds s t) (other : .condition ∉ kinds) : KindStands k s t := by
  obtain ⟨keeps, -, flags, masks, -⟩ := h
  exact ⟨by rw [flags], masks, fun noted => noted.of_keeps keeps other⟩

/-- A raising of another kind. -/
theorem raise_kindStands {n : Notice} (other : n.kind ≠ .condition) (s : State) : KindStands k s (raise n s) :=
  (raise_raisesOnly n s).kindStands (by simpa using Ne.symm other)

theorem KindStands.of_eq (same : t.notices = s.notices) : KindStands k s t := RaisesOnly.kindStands (kinds := []) (.of_eq same) (by simp)

theorem noteLookup_kindStands (other : k ≠ .tableClamped) (c : Channel) (x : Int) (s : State) : KindStands k s (noteLookup c x s) :=
  ⟨noteLookup_flags other c x s, noteLookup_masks c x s, fun noted => noted.lookup c x⟩

theorem deliver_kindStands (q : Quantity) (v : Int) (s : State) : KindStands k s (deliver q v s) :=
  (deliver_raisesOnly q v s).kindStands (by simp)

/-- A full decision brings about no other condition than TABLE-CLAMPED (R36). -/
theorem decideByMode_kindStands (other : k ≠ .tableClamped) (s : State) : KindStands k s (decideByMode s) := by
  by_cases made : s.policy.mode = .auto ∧ s.policy.fogFlag = false
  · obtain ⟨-, below, -⟩ := decideByMode_bases s
    rw [below made.1 made.2]
    exact ((noteLookup_kindStands other _ _ s).trans (noteLookup_kindStands other _ _ _)).trans
      ((autoBelowFog_raisesOnly _).kindStands (by simp))
  · have raises : RaisesOnly [.moveDone, .ventLimited] s (decideByMode s) := by
      unfold decideByMode
      split
      · next auto =>
        have fog : s.policy.fogFlag = true := by simpa [auto] using made
        rw [if_pos fog]
        exact applyNow_raisesOnly _ _ s
      · exact applyNow_raisesOnly _ _ s
      · split
        · exact applyNow_raisesOnly _ _ s
        · exact applyNow_raisesOnly _ _ s
      · exact applyNow_raisesOnly _ _ s
    exact raises.kindStands (by simp)

theorem fullDecision_kindStands (other : k ≠ .tableClamped) (s : State) : KindStands k s (fullDecision s) := by
  unfold fullDecision
  split
  · exact .refl s
  · exact (((fogTest_raisesOnly s).kindStands (by simp)).trans (decideByMode_kindStands other _)).trans
      ((recomputeDemand_raisesOnly _).kindStands (by simp))

/-- What happens besides keeps what has occurred. -/
theorem Occurred.stands {happens : Prop} (h : Occurred k happens s t) (stands : KindStands k t u) : Occurred k happens s u := by
  obtain ⟨flags, notes⟩ := h
  obtain ⟨flags', -, noted⟩ := stands
  exact ⟨by rw [flags', flags], fun now unmasked => noted (notes now unmasked)⟩

end

/-! ### The fog margin -/

section
variable {s t : State} {c : Channel}

theorem marginByRules_congr (channels : t.channels = s.channels) : marginByRules t = marginByRules s := by
  simp [marginByRules, State.usable, channels]

theorem marginOf_eq (s : State) : marginOf (s.usable .stm) (s.usable .ctm) (s.usable .crh) = marginByRules s := by
  simp [marginOf, measuredAh, sat_eq, marginByRules]

/-- The state once the two lookups of the margin are noted and the margin is stored (R23, R25). -/
def marginStored (s : State) : State :=
  let t := noteLookup .stm (s.usable .stm) (noteLookup .ctm (s.usable .ctm) s)
  t.withEst { t.est with fogMargin := marginByRules s }

theorem recomputeMargin_eq (s : State) : recomputeMargin s = deliver .fog (marginByRules s) (marginStored s) := by
  simp only [recomputeMargin, marginOf_eq]
  rfl

/-- A recomputation stores the margin, makes the two lookups, and delivers it to the slots that watch it (R25). -/
theorem recomputeMargin_margin (s : State) :
    (recomputeMargin s).est = { s.est with fogMargin := marginByRules s }
      ∧ LookupsNoted .ctm .stm True s (recomputeMargin s)
      ∧ ∀ n, (recomputeMargin s).watch.get n = if (s.watch.get n).quantity = .fog then
          slotEvaluated (s.watch.get n) (marginByRules s) s.uptime else s.watch.get n := by
  have noted : marginStored s = { s with
      est := { s.est with fogMargin := marginByRules s },
      notices := (noteLookup .stm (s.usable .stm) (noteLookup .ctm (s.usable .ctm) s)).notices } := by
    rw [marginStored, noteLookup_eq .stm, noteLookup_eq .ctm]
    rfl
  rw [recomputeMargin_eq]
  refine ⟨by simp [noted], ?_, fun n => ?_⟩
  · have same : RaisesOnly [] (noteLookup .stm (s.usable .stm) (noteLookup .ctm (s.usable .ctm) s)) (marginStored s) := .of_eq rfl
    exact ((noteLookups_noted .ctm .stm s).then same (by simp) rfl).then (deliver_raisesOnly _ _ _) (by simp) (by simp)
  · rw [deliver_get, noted]

theorem recomputeMargin_keepsPending (s : State) : KeepsPending [.condition, .watch] s (recomputeMargin s) := by
  rw [recomputeMargin_eq]
  have lookups : KeepsPending [.condition] s (marginStored s) :=
    (noteLookup_keepsPending .ctm (s.usable .ctm) s).trans (noteLookup_keepsPending .stm (s.usable .stm) _)
  exact (lookups.mono (by simp)).trans ((deliver_raisesOnly _ _ _).1.mono (by simp))

theorem recomputeMargin_kindStands {k : ConditionKind} (other : k ≠ .tableClamped) (s : State) : KindStands k s (recomputeMargin s) := by
  rw [recomputeMargin_eq]
  have lookups : KindStands k s (marginStored s) :=
    (noteLookup_kindStands other .ctm (s.usable .ctm) s).trans (noteLookup_kindStands other .stm (s.usable .stm) _)
  exact lookups.trans (deliver_kindStands _ _ _)

/-! ### The margin in a channel's event -/

/-- The state once the margin is recomputed, where this channel is one it is worked out from (R25). -/
def remargined (c : Channel) (s : State) : State := if c = .crh ∨ c = .ctm ∨ c = .stm then recomputeMargin s else s

@[simp] theorem remargined_keeps (c : Channel) (s : State) :
    (remargined c s).policy = s.policy ∧ (remargined c s).tracker = s.tracker ∧ (remargined c s).channels = s.channels
      ∧ (remargined c s).drive = s.drive ∧ (remargined c s).timers = s.timers ∧ (remargined c s).uptime = s.uptime
      ∧ (remargined c s).secondMs = s.secondMs ∧ (remargined c s).flap = s.flap ∧ (remargined c s).blower = s.blower
      ∧ (remargined c s).filter = s.filter ∧ (remargined c s).tally = s.tally ∧ (remargined c s).journal = s.journal
      ∧ (remargined c s).flash = s.flash ∧ (remargined c s).link = s.link ∧ (remargined c s).freeCount = s.freeCount
      ∧ (remargined c s).pending = s.pending := by
  unfold remargined
  split <;> simp

/-- What the recomputation in a channel's event leaves. -/
theorem remargined_margin (c : Channel) (s : State) :
    (GivesMargin c → (remargined c s).est = { s.est with fogMargin := marginByRules s })
      ∧ (¬GivesMargin c → (remargined c s).est = s.est)
      ∧ LookupsNoted .ctm .stm (GivesMargin c) s (remargined c s)
      ∧ ∀ n, (remargined c s).watch.get n = if (s.watch.get n).quantity = .fog ∧ (c = .crh ∨ c = .ctm ∨ c = .stm) then
          slotEvaluated (s.watch.get n) (marginByRules s) s.uptime else s.watch.get n := by
  by_cases gives : c = .crh ∨ c = .ctm ∨ c = .stm
  · have runs : remargined c s = recomputeMargin s := if_pos gives
    obtain ⟨est, lookups, watch⟩ := recomputeMargin_margin s
    rw [runs]
    have given : GivesMargin c := gives
    refine ⟨fun _ => est, fun no => absurd gives no, lookups.congr (by simp [given]), fun n => ?_⟩
    rw [watch n]
    simp [gives]
  · have stands : remargined c s = s := if_neg gives
    rw [stands]
    exact ⟨fun yes => absurd yes gives, fun _ => rfl, .none gives (.refl (kinds := []) s), fun n => by simp [gives]⟩

theorem remargined_keepsPending (c : Channel) (s : State) : KeepsPending [.condition, .watch] s (remargined c s) := by
  unfold remargined
  split
  · exact recomputeMargin_keepsPending s
  · exact .refl s

theorem remargined_kindStands {k : ConditionKind} (other : k ≠ .tableClamped) (c : Channel) (s : State) :
    KindStands k s (remargined c s) := by
  unfold remargined
  split
  · exact recomputeMargin_kindStands other s
  · exact .refl s

end

end Sys2Proof.Machine
end

section
/-! What the hold machine takes of an opening and a closing, and what a sample and a loss do at their detector (R47, R63 to R69). -/

namespace Sys2Proof.Machine

/-! ### The hold machine -/

section
variable {s t u : State} {d : DetectorId}

/-- With detector d QUIET an episode is open exactly where the other's is. -/
theorem anyOpen_iff_other (quiet : (s.tracker.detector d).openEpisode = none) :
    s.tracker.anyOpen = true ↔ ∃ d', d' ≠ d ∧ (s.tracker.detector d').openEpisode.isSome = true := by
  cases d with
  | pm =>
    have pm : s.tracker.pm.openEpisode = none := quiet
    refine ⟨fun any => ⟨.gas, by simp, by simpa [Tracker.anyOpen, pm, Tracker.detector] using any⟩, fun ⟨d', other, opens⟩ => ?_⟩
    cases d' with
    | pm => exact absurd rfl other
    | gas => simpa [Tracker.anyOpen, pm, Tracker.detector] using opens
  | gas =>
    have gas : s.tracker.gas.openEpisode = none := quiet
    refine ⟨fun any => ⟨.pm, by simp, by simpa [Tracker.anyOpen, gas, Tracker.detector] using any⟩, fun ⟨d', other, opens⟩ => ?_⟩
    cases d' with
    | gas => exact absurd rfl other
    | pm => simpa [Tracker.anyOpen, gas, Tracker.detector] using opens

theorem holdEpisodeOpens_took (s : State) : HoldTookOpening s (holdEpisodeOpens s) := by
  unfold HoldTookOpening holdEpisodeOpens
  cases s.policy.hold with
  | idle | trailing => exact holdMove_moved _ _ s
  | holding | lapsed => exact ⟨rfl, rfl, rfl, rfl⟩

theorem holdEpisodeCloses_took (quiet : (s.tracker.detector d).openEpisode = none) : HoldTookClosing d s (holdEpisodeCloses s) := by
  have any := anyOpen_iff_other quiet
  refine ⟨fun d' other opens => ?_, fun closed => ?_⟩
  · rw [holdEpisodeCloses, if_pos (any.mpr ⟨d', other, opens⟩)]
    exact ⟨rfl, rfl, rfl, rfl⟩
  · have none : ¬s.tracker.anyOpen = true := fun yes => by
      obtain ⟨d', other, opens⟩ := any.mp yes
      simp [closed d' other] at opens
    rw [holdEpisodeCloses, if_neg none]
    cases s.policy.hold with
    | holding =>
      dsimp only
      split
      · exact holdMove_moved _ _ s
      · exact holdMove_moved _ _ s
    | lapsed => exact holdMove_moved _ _ s
    | idle | trailing => exact ⟨rfl, rfl, rfl, rfl⟩

/-- What the hold machine takes keeps the notices that no decision raises, and brings about no condition but TABLE-CLAMPED. -/
theorem holdMove_keepsPending (h : HoldState) (timer : Option Nat) (s : State) :
    KeepsPending [.fogAlert, .moveDone, .ventLimited, .condition, .blowerFault] s (holdMove h timer s) :=
  fullDecision_keepsPending ((s.withTimers { s.timers with hold := timer }).withPolicy { s.policy with hold := h })

theorem holdMove_kindStands {k : ConditionKind} (other : k ≠ .tableClamped) (h : HoldState) (timer : Option Nat) (s : State) :
    KindStands k s (holdMove h timer s) := by
  have decides := fullDecision_kindStands other ((s.withTimers { s.timers with hold := timer }).withPolicy { s.policy with hold := h })
  exact decides

theorem holdEpisodeOpens_keepsPending (s : State) :
    KeepsPending [.fogAlert, .moveDone, .ventLimited, .condition, .blowerFault] s (holdEpisodeOpens s) := by
  unfold holdEpisodeOpens
  cases s.policy.hold with
  | idle | trailing => exact holdMove_keepsPending _ _ s
  | holding | lapsed => exact .refl s

theorem holdEpisodeCloses_keepsPending (s : State) :
    KeepsPending [.fogAlert, .moveDone, .ventLimited, .condition, .blowerFault] s (holdEpisodeCloses s) := by
  unfold holdEpisodeCloses
  split
  · exact .refl s
  · cases s.policy.hold with
    | holding =>
      dsimp only
      split
      · exact holdMove_keepsPending _ _ s
      · exact holdMove_keepsPending _ _ s
    | lapsed => exact holdMove_keepsPending _ _ s
    | idle | trailing => exact .refl s

theorem holdEpisodeOpens_kindStands {k : ConditionKind} (other : k ≠ .tableClamped) (s : State) :
    KindStands k s (holdEpisodeOpens s) := by
  unfold holdEpisodeOpens
  cases s.policy.hold with
  | idle | trailing => exact holdMove_kindStands other _ _ s
  | holding | lapsed => exact .refl s

theorem holdEpisodeCloses_kindStands {k : ConditionKind} (other : k ≠ .tableClamped) (s : State) :
    KindStands k s (holdEpisodeCloses s) := by
  unfold holdEpisodeCloses
  split
  · exact .refl s
  · cases s.policy.hold with
    | holding =>
      dsimp only
      split
      · exact holdMove_kindStands other _ _ s
      · exact holdMove_kindStands other _ _ s
    | lapsed => exact holdMove_kindStands other _ _ s
    | idle | trailing => exact .refl s

end

/-! ### What follows leaves the hold machine's account as it is -/

/-- From t to u what a decision has left stands, and what it reads, EGS and its snap apart; the notices it may raise stay pending. -/
structure HoldStands (t u : State) : Prop where
  policy : u.policy = t.policy
  timers : u.timers = t.timers
  flap : u.flap = t.flap
  blower : u.blower = t.blower
  est : u.est = { t.est with egs := u.est.egs, gasSnapArmed := u.est.gasSnapArmed }
  tracker : u.tracker = t.tracker
  channels : u.channels = t.channels
  drive : u.drive = t.drive
  uptime : u.uptime = t.uptime
  filter : u.filter = t.filter
  keeps : KeepsPending [.watch] t u

section
variable {s t u : State} {d : DetectorId} {h : HoldState} {timer : Option Nat}

theorem HoldStands.trans {v : State} (first : HoldStands t u) (second : HoldStands u v) : HoldStands t v where
  policy := second.policy.trans first.policy
  timers := second.timers.trans first.timers
  flap := second.flap.trans first.flap
  blower := second.blower.trans first.blower
  est := by rw [second.est, first.est]
  tracker := second.tracker.trans first.tracker
  channels := second.channels.trans first.channels
  drive := second.drive.trans first.drive
  uptime := second.uptime.trans first.uptime
  filter := second.filter.trans first.filter
  keeps := first.keeps.trans second.keeps

theorem deliver_holdStands (q : Quantity) (v : Int) (t : State) : HoldStands t (deliver q v t) := by
  constructor
  case keeps => exact (deliver_raisesOnly q v t).1
  all_goals simp

/-- A decision reads nothing of EGS. -/
theorem Decided.egs (decided : Decided s t) (egs : Int) (armed : Bool) :
    Decided { s with est := { s.est with egs := egs, gasSnapArmed := armed } } t := decided

theorem HoldMoved.then (moved : HoldMoved h timer s t) (stands : HoldStands t u) : HoldMoved h timer s u := by
  obtain ⟨timers, decided⟩ := moved
  refine ⟨stands.timers.trans timers, ?_⟩
  have left := (decided.egs u.est.egs u.est.gasSnapArmed).then stands.policy stands.flap fun n kind =>
    stands.keeps.pends fun watch => by simp at kind watch; simp [watch] at kind
  exact left.reading ⟨_, _, _, rfl⟩ stands.est stands.tracker stands.channels stands.drive stands.uptime rfl rfl stands.filter

theorem PolicyStands.then (same : PolicyStands s t) (stands : HoldStands t u) : PolicyStands s u := by
  obtain ⟨policy, timers, flap, blower⟩ := same
  exact ⟨stands.policy.trans policy, stands.timers.trans timers, stands.flap.trans flap, stands.blower.trans blower⟩

theorem HoldTookOpening.then (took : HoldTookOpening s t) (stands : HoldStands t u) : HoldTookOpening s u := by
  unfold HoldTookOpening at took ⊢
  cases hold : s.policy.hold with
  | idle | trailing =>
    simp only [hold] at took
    exact took.then stands
  | holding | lapsed =>
    simp only [hold] at took
    exact took.then stands

theorem HoldTookClosing.then (took : HoldTookClosing d s t) (stands : HoldStands t u) : HoldTookClosing d s u := by
  obtain ⟨others, alone⟩ := took
  refine ⟨fun d' other opens => (others d' other opens).then stands, fun closed => ?_⟩
  have taken := alone closed
  cases hold : s.policy.hold with
  | holding =>
    simp only [hold] at taken
    by_cases now : s.policy.limits.releaseDelay = 0
    · simp only [now, if_true] at taken ⊢
      exact taken.then stands
    · simp only [now, if_false] at taken ⊢
      exact taken.then stands
  | lapsed | idle | trailing =>
    simp only [hold] at taken
    exact taken.then stands

end

/-! ### Openings and closings -/

section
variable {s : State} {d : DetectorId}

/-- A closing ends the detector's OPEN record and takes the hold machine along (R67 to R69). -/
theorem closeEpisode_closed (d : DetectorId) (cause : EndCause) (s : State) :
    (closeEpisode d cause s).tracker = { s.tracker.setDetector d { s.tracker.detector d with openEpisode := none, release := 0 } with
        table := updateRecord d (Episode.closed s.uptime cause) s.tracker.table }
      ∧ HoldTookClosing d s (closeEpisode d cause s) := by
  set x : Tracker := { s.tracker.setDetector d { s.tracker.detector d with openEpisode := none, release := 0 } with
    table := updateRecord d (Episode.closed s.uptime cause) s.tracker.table } with x_def
  have runs : closeEpisode d cause s = holdEpisodeCloses (s.withTracker x) := rfl
  have detectors : ∀ d', x.detector d' = if d' = d then { s.tracker.detector d with openEpisode := none, release := 0 }
      else s.tracker.detector d' := fun d' => (detector_withTable _ _ _ d').trans (detector_setDetector _ d d' _)
  obtain ⟨others, alone⟩ := holdEpisodeCloses_took (s := s.withTracker x) (d := d)
    (by simp only [State.withTracker_tracker, detectors, if_true])
  rw [runs]
  refine ⟨by simp, fun d' other opens => others d' other ?_, fun closed => alone fun d' other => ?_⟩
  · simp only [State.withTracker_tracker, detectors, if_neg other]
    exact opens
  · simp only [State.withTracker_tracker, detectors, if_neg other]
    exact closed d' other

theorem closeEpisode_keepsPending (d : DetectorId) (cause : EndCause) (s : State) :
    KeepsPending [.fogAlert, .moveDone, .ventLimited, .condition, .blowerFault] s (closeEpisode d cause s) :=
  holdEpisodeCloses_keepsPending (s.withTracker
    { s.tracker.setDetector d { s.tracker.detector d with openEpisode := none, release := 0 } with
      table := updateRecord d (Episode.closed s.uptime cause) s.tracker.table })

theorem closeEpisode_kindStands {k : ConditionKind} (other : k ≠ .tableClamped) (d : DetectorId) (cause : EndCause) (s : State) :
    KindStands k s (closeEpisode d cause s) := by
  have closes := holdEpisodeCloses_kindStands other (s.withTracker
    { s.tracker.setDetector d { s.tracker.detector d with openEpisode := none, release := 0 } with
      table := updateRecord d (Episode.closed s.uptime cause) s.tracker.table })
  exact closes

/-- A loss unsets the detector's baseline and closes its open episode (R68). -/
theorem detectorLost_closed (d : DetectorId) (s : State) : LossClosed d s (detectorLost d s) := by
  set u := s.withTracker (s.tracker.setDetector d { s.tracker.detector d with baseline := none }) with u_def
  have detectors : ∀ d', u.tracker.detector d' = if d' = d then { s.tracker.detector d with baseline := none }
      else s.tracker.detector d' := fun d' => detector_setDetector _ d d' _
  cases opened : (s.tracker.detector d).openEpisode with
  | none =>
    have runs : detectorLost d s = u := by simp [detectorLost, opened, u_def]
    rw [runs]
    refine ⟨by simp [detectors], by simp [detectors, opened], fun d' other => by simp [detectors, other], by simp [u_def],
      fun _ => ⟨by simp [u_def], rfl, rfl, rfl, rfl⟩, fun pre e post _ some => by simp [opened] at some⟩
  | some n =>
    have runs : detectorLost d s = closeEpisode d .channelLost u := by simp [detectorLost, opened, u_def]
    obtain ⟨tracker, took⟩ := closeEpisode_closed d .channelLost u
    have left : ∀ d', (closeEpisode d .channelLost u).tracker.detector d'
        = if d' = d then { s.tracker.detector d with baseline := none, openEpisode := none, release := 0 } else s.tracker.detector d' := by
      intro d'
      rw [tracker]
      refine (detector_withTable _ _ _ d').trans ((detector_setDetector _ d d' _).trans ?_)
      simp only [detectors, if_true]
      split <;> rfl
    rw [runs]
    refine ⟨by simp [left], by simp [left], fun d' other => by simp [left, other], by rw [tracker]; simp [u_def],
      fun none => by simp [opened] at none, fun pre e post stands _ => ⟨?_, by simp [left], by simp [left], by simp [left], ?_, ?_⟩⟩
    · rw [tracker]
      have table : u.tracker.table = s.tracker.table := by simp [u_def]
      exact (congrArg _ table).trans (updateRecord_at stands _)
    · intro d' other opens
      exact took.1 d' other (by simpa only [detectors, if_neg other] using opens)
    · intro closed
      exact took.2 fun d' other => by simpa only [detectors, if_neg other] using closed d' other

theorem detectorLost_keepsPending (d : DetectorId) (s : State) :
    KeepsPending [.fogAlert, .moveDone, .ventLimited, .condition, .blowerFault] s (detectorLost d s) := by
  unfold detectorLost
  dsimp only
  split
  · exact closeEpisode_keepsPending d .channelLost
      (s.withTracker (s.tracker.setDetector d { s.tracker.detector d with baseline := none }))
  · exact .refl s

theorem detectorLost_kindStands {k : ConditionKind} (other : k ≠ .tableClamped) (d : DetectorId) (s : State) :
    KindStands k s (detectorLost d s) := by
  unfold detectorLost
  dsimp only
  split
  · have closes := closeEpisode_kindStands other d .channelLost
      (s.withTracker (s.tracker.setDetector d { s.tracker.detector d with baseline := none }))
    exact closes
  · exact KindStands.of_eq rfl

end

/-! ### A sample at its detector -/

/-- The tracker with an episode of detector d opened on the sample `value`, v in internal units, over the baseline b (R61, R62, R65). -/
def Tracker.opening (d : DetectorId) (value v b : Int) (uptime : Nat) (x : Tracker) : Tracker :=
  { x.setDetector d { x.detector d with openEpisode := some x.nextNumber, release := 0 } with
    table := joinTable
      { number := x.nextNumber, source := d, start := uptime, ending := none, peak := value, baselineAtOpen := b / 16,
        dose := saturatingAdd max32 0 (excess v b) } x.table,
    nextNumber := nextEpisodeNumber x.nextNumber }

/-- The tracker with a sample of an open episode taken (R66). -/
def Tracker.sampling (d : DetectorId) (value v b : Int) (x : Tracker) : Tracker :=
  { x.setDetector d { x.detector d with release := releaseAfter (x.detector d) v b } with
    table := updateRecord d (Episode.sampled value v b) x.table }

section
variable {s : State} {d : DetectorId} {value v b : Int}

theorem openEpisode_eq (d : DetectorId) (value v b : Int) (s : State) : openEpisode d value v b s
    = tallyEpisode (holdEpisodeOpens (raise (.plumeOpen s.tracker.nextNumber d)
        (s.withTracker (s.tracker.opening d value v b s.uptime)))) := rfl

/-- A sample of an open episode that closes it (R67). -/
theorem sampleOpen_closes {cause : EndCause} (closes : closingCause (s.tracker.detector d).settings
      (releaseAfter (s.tracker.detector d) v b) ((startOf d s.tracker.table).getD s.uptime) s.uptime = some cause) :
    sampleOpen d value v b s = closeEpisode d cause (s.withTracker (s.tracker.sampling d value v b)) := by
  simp only [sampleOpen, closes]
  rfl

/-- A sample of an open episode that goes on (R66). -/
theorem sampleOpen_goes_on (goesOn : closingCause (s.tracker.detector d).settings
      (releaseAfter (s.tracker.detector d) v b) ((startOf d s.tracker.table).getD s.uptime) s.uptime = none) :
    sampleOpen d value v b s = s.withTracker (s.tracker.sampling d value v b) := by
  simp only [sampleOpen, goesOn]
  rfl

theorem detectorSample_first (unset : (s.tracker.detector d).baseline = none) :
    detectorSample d value s = s.withTracker (s.tracker.setDetector d { s.tracker.detector d with baseline := some (value * 16) }) := by
  simp [detectorSample, unset]

theorem detectorSample_quiet (set : (s.tracker.detector d).baseline = some b) (quiet : (s.tracker.detector d).openEpisode = none) :
    detectorSample d value s = sampleQuiet d value (value * 16) b s := by
  simp [detectorSample, set, quiet]

theorem detectorSample_open {n : Nat} (set : (s.tracker.detector d).baseline = some b)
    (opened : (s.tracker.detector d).openEpisode = some n) : detectorSample d value s = sampleOpen d value (value * 16) b s := by
  simp [detectorSample, set, opened]

theorem sampleQuiet_opens (opens : (s.tracker.detector d).settings.opens v b = true) :
    sampleQuiet d value v b s = openEpisode d value v b s := by
  simp [sampleQuiet, opens]

theorem sampleQuiet_moves (stays : (s.tracker.detector d).settings.opens v b = false) : sampleQuiet d value v b s
    = s.withTracker (s.tracker.setDetector d { s.tracker.detector d with baseline := some (b + truncated (v - b) 64) }) := by
  simp [sampleQuiet, stays]

variable {k : ConditionKind}

theorem withTracker_kindStands (x : Tracker) (s : State) : KindStands k s (s.withTracker x) := .of_eq rfl

theorem tallyEpisode_notices (s : State) : (tallyEpisode s).notices = s.notices := by
  unfold tallyEpisode
  split <;> rfl

theorem openEpisode_kindStands (other : k ≠ .tableClamped) (d : DetectorId) (value v b : Int) (s : State) :
    KindStands k s (openEpisode d value v b s) := by
  set t := s.withTracker (s.tracker.opening d value v b s.uptime) with t_def
  have raised : KindStands k t (raise (.plumeOpen s.tracker.nextNumber d) t) := raise_kindStands (by simp [Notice.kind]) t
  rw [openEpisode_eq]
  exact (((withTracker_kindStands _ s).trans raised).trans (holdEpisodeOpens_kindStands other _)).trans
    (.of_eq (tallyEpisode_notices _))

/-- A sample at its detector brings about no other condition than TABLE-CLAMPED. -/
theorem detectorSample_kindStands (other : k ≠ .tableClamped) (d : DetectorId) (value : Int) (s : State) :
    KindStands k s (detectorSample d value s) := by
  cases set : (s.tracker.detector d).baseline with
  | none =>
    rw [detectorSample_first set]
    exact withTracker_kindStands _ s
  | some b =>
    cases opened : (s.tracker.detector d).openEpisode with
    | none =>
      rw [detectorSample_quiet set opened]
      cases opens : (s.tracker.detector d).settings.opens (value * 16) b with
      | true =>
        rw [sampleQuiet_opens opens]
        exact openEpisode_kindStands other _ _ _ _ s
      | false =>
        rw [sampleQuiet_moves opens]
        exact withTracker_kindStands _ s
    | some n =>
      rw [detectorSample_open set opened]
      cases closes : closingCause (s.tracker.detector d).settings (releaseAfter (s.tracker.detector d) (value * 16) b)
          ((startOf d s.tracker.table).getD s.uptime) s.uptime with
      | none =>
        rw [sampleOpen_goes_on closes]
        exact withTracker_kindStands _ s
      | some cause =>
        rw [sampleOpen_closes closes]
        exact (withTracker_kindStands _ s).trans (closeEpisode_kindStands other d cause _)

end

end Sys2Proof.Machine
end

section
/-! What a sample, an expiry of its age and a reading of the position feedback do to a channel and what takes it (chapter 4), and the
obligations O35 to O38. -/

namespace Sys2Proof.Machine

/-! ### The loss of a channel -/

/-- SENSOR-LOST is pending with this channel in its set. -/
def NotesLoss (c : Channel) (s : State) : Prop := ∃ p ∈ s.notices.pending, ∃ l, p.notice = .sensorLost l ∧ c ∈ l

theorem raiseIn_loss (c : Channel) (l : List PendingNotice) :
    ∃ p ∈ raiseIn (.sensorLost [c]) l, ∃ m, p.notice = .sensorLost m ∧ c ∈ m := by
  induction l with
  | nil => exact ⟨⟨.sensorLost [c], false⟩, by simp [raiseIn], [c], rfl, by simp⟩
  | cons q rest ih =>
    rw [raiseIn]
    split
    · next same =>
      refine ⟨⟨q.notice.merge (.sensorLost [c]), true⟩, by simp, ?_⟩
      obtain ⟨q, r⟩ := q
      cases q <;> simp_all [Notice.kind, Notice.merge, unionIn, channel_mem_all]
    · split
      · exact ⟨⟨.sensorLost [c], false⟩, by simp, [c], rfl, by simp⟩
      · obtain ⟨p, mem, noted⟩ := ih
        exact ⟨p, by simp [mem], noted⟩

/-- What happens at the detector, or to the margin, as a channel is lost. -/
theorem consumeLoss_eq (c : Channel) (s : State) :
    (∀ d : DetectorId, c.code = d.code → consumeLoss c s = detectorLost d s)
      ∧ (c ≠ .opm → c ≠ .ogs → consumeLoss c s = remargined c s) := by
  cases c with
  | opm => exact ⟨fun d code => by cases d <;> first | rfl | simp [Channel.code, DetectorId.code] at code, fun no => absurd rfl no⟩
  | ogs => exact ⟨fun d code => by cases d <;> first | rfl | simp [Channel.code, DetectorId.code] at code, fun _ no => absurd rfl no⟩
  | cpm | cco | crh | ctm | orh | otm | stm | fpos =>
    exact ⟨fun d code => by cases d <;> simp [Channel.code, DetectorId.code] at code, fun _ _ => rfl⟩

/-- A channel has a detector or the margin's recomputation take its events. -/
theorem detector_or_margin (c : Channel) : (∃ d : DetectorId, c.code = d.code ∧ ¬GivesMargin c) ∨ (c ≠ .opm ∧ c ≠ .ogs) := by
  cases c with
  | opm => exact .inl ⟨.pm, rfl, by simp [GivesMargin]⟩
  | ogs => exact .inl ⟨.gas, rfl, by simp [GivesMargin]⟩
  | cpm | cco | crh | ctm | orh | otm | stm | fpos => exact .inr (by simp)

/-- The recomputation of the margin in a channel's event, and the delivery of the channel's usable value after it (R25, R172). -/
theorem deliver_remargined (c : Channel) (t : State) :
    Delivered (.channel c) (t.usable c) t (deliver (.channel c) (t.usable c) (remargined c t))
      ∧ (GivesMargin c → (deliver (.channel c) (t.usable c) (remargined c t)).est
          = { t.est with fogMargin := marginByRules (deliver (.channel c) (t.usable c) (remargined c t)) })
      ∧ (¬GivesMargin c → (deliver (.channel c) (t.usable c) (remargined c t)).est = t.est)
      ∧ LookupsNoted .ctm .stm (GivesMargin c) t (deliver (.channel c) (t.usable c) (remargined c t))
      ∧ (GivesMargin c → Delivered .fog (deliver (.channel c) (t.usable c) (remargined c t)).est.fogMargin t
          (deliver (.channel c) (t.usable c) (remargined c t)))
      ∧ KindStands .inputClamped t (deliver (.channel c) (t.usable c) (remargined c t)) := by
  set u := remargined c t with u_def
  set v := t.usable c with v_def
  obtain ⟨gives, stands, lookups, watch⟩ := remargined_margin c t
  rw [← u_def] at gives stands lookups watch
  have after := deliver_raisesOnly (.channel c) v u
  have reads : marginByRules (deliver (.channel c) v u) = marginByRules t := marginByRules_congr (by simp [u_def])
  refine ⟨fun n watches => ?_, fun yes => ?_, fun no => ?_, lookups.then after (by simp) (by simp), fun yes n watches => ?_,
    (remargined_kindStands (by simp) c t).trans (deliver_kindStands _ _ _)⟩
  · have slot : u.watch.get n = t.watch.get n := by
      rw [watch n, if_neg]
      rintro ⟨fog, -⟩
      cases fog.symm.trans watches
    rw [deliver_get, slot, if_pos watches]
    simp [u_def]
  · rw [reads]
    simp only [deliver_keeps]
    exact gives yes
  · simp only [deliver_keeps]
    exact stands no
  · have fog : (u.watch.get n) = slotEvaluated (t.watch.get n) (marginByRules t) t.uptime := by rw [watch n, if_pos ⟨watches, yes⟩]
    have other : ¬(u.watch.get n).quantity = .channel c := by
      rw [fog, slotEvaluated_quantity, watches]
      simp
    rw [deliver_get, if_neg other, fog]
    simp only [deliver_keeps]
    rw [gives yes]

/-- From s to t the channel c has entered LOST, and everything that takes its loss has (R25, R68, R83). -/
def LostFollows (c : Channel) (s t : State) : Prop :=
  NotesLoss c t ∧ Delivered (.channel c) (t.usable c) s t
    ∧ MarginFollows c s t ∧ (GivesMargin c → Delivered .fog t.est.fogMargin s t)
    ∧ (.inputClamped ∈ t.notices.conditionFlags ↔ .inputClamped ∈ s.notices.conditionFlags)
    ∧ ∀ d : DetectorId, c.code = d.code → LossClosed d s t

theorem LossClosed.then {d : DetectorId} {s t u : State} (closed : LossClosed d s t) (stands : HoldStands t u) : LossClosed d s u := by
  obtain ⟨baseline, quiet, others, number, none, some⟩ := closed
  unfold LossClosed
  rw [stands.tracker]
  refine ⟨baseline, quiet, others, number, fun was => ⟨(none was).1, (none was).2.then stands⟩, fun pre e post found was => ?_⟩
  obtain ⟨table, quiet, release, settings, took⟩ := some pre e post found was
  unfold EpisodeClosed
  rw [stands.tracker]
  exact ⟨table, quiet, release, settings, took.then stands⟩

/-- The channel's record enters LOST, and the other records stand. -/
theorem enterLost_channels (c : Channel) (s : State) :
    (enterLost c s).channels = s.channels.set c { s.channels.get c with state := .lost } := by
  simp [enterLost, State.setChannel]

theorem enterLost_follows (c : Channel) (s : State) : LostFollows c s (enterLost c s) := by
  set t := raise (.sensorLost [c]) (s.setChannel c { s.channels.get c with state := .lost }) with t_def
  set u := consumeLoss c t with u_def
  set v := t.usable c with v_def
  have runs : enterLost c s = deliver (.channel c) v u := rfl
  have channels : u.channels = t.channels := by simp [u_def]
  have noted : NotesLoss c t := raiseIn_loss c s.notices.pending
  have raised : RaisesOnly [.sensorLost] s t := raise_raisesOnly (.sensorLost [c]) (s.setChannel c _)
  have after := deliver_raisesOnly (.channel c) v u
  have value : (deliver (.channel c) v u).usable c = v := by
    rw [v_def]
    simp [State.usable, channels]
  obtain ⟨detected, margin⟩ := consumeLoss_eq c t
  have keepsLoss : ∀ {kinds x}, KeepsPending kinds t x → .sensorLost ∉ kinds → NotesLoss c x := fun keeps other => by
    obtain ⟨p, mem, l, shape, inside⟩ := noted
    exact ⟨p, keeps p mem (by rw [shape]; exact other), l, shape, inside⟩
  have still : ∀ {kinds}, KeepsPending kinds t u → .sensorLost ∉ kinds → .watch ∈ kinds → NotesLoss c (deliver (.channel c) v u) :=
    fun keeps other watch => keepsLoss (keeps.trans (after.1.mono (by simpa using watch))) other
  rw [runs]
  unfold LostFollows
  rw [value]
  rcases detector_or_margin c with ⟨d, code, gives⟩ | ⟨notPm, notGas⟩
  · have lost : u = detectorLost d t := detected d code
    have watch : u.watch = s.watch := by simp [lost, t_def, State.setChannel]
    have time : u.uptime = s.uptime := by simp [lost, t_def, State.setChannel]
    refine ⟨still (((detectorLost_keepsPending d t).mono (by simp)).trans (lost ▸ .refl u) :
        KeepsPending [.fogAlert, .moveDone, .ventLimited, .condition, .blowerFault, .watch] t u) (by simp) (by simp), fun n watches => ?_,
      ⟨fun yes => absurd yes gives, fun _ => ?_, fun notPm notGas => ?_⟩, fun yes => absurd yes gives, ?_, fun d' same => ?_⟩
    · rw [deliver_get, watch, if_pos watches, time]
    · simp [lost, t_def, State.setChannel]
    · cases c <;> simp at notPm notGas <;> cases d <;> simp [Channel.code, DetectorId.code] at code
    · have stands : KindStands .inputClamped t u := by
        rw [lost]
        exact detectorLost_kindStands (by simp) d t
      rw [after.2.2.1, stands.1, raised.2.2.1]
    · have same : d' = d := by cases d <;> cases d' <;> simp_all [DetectorId.code]
      have closed := detectorLost_closed d t
      rw [← lost] at closed
      have moved := closed.then (deliver_holdStands (.channel c) v u)
      rw [same]
      exact moved
  · have taken : u = remargined c t := margin notPm notGas
    obtain ⟨delivered, gives, stands, lookups, fog, clamped⟩ := deliver_remargined c t
    rw [← taken, ← v_def] at delivered gives stands lookups fog clamped
    refine ⟨still (((remargined_keepsPending c t).mono (by simp)).trans (taken ▸ .refl u) : KeepsPending [.condition, .watch] t u)
        (by simp) (by simp), delivered, ⟨gives, stands, fun _ _ => lookups.after raised.2 rfl⟩, fog, ?_, fun d code => ?_⟩
    · rw [clamped.1, raised.2.2.1]
    · cases c <;> simp at notPm notGas <;> cases d <;> simp [Channel.code, DetectorId.code] at code

/-! ### A sample at its channel -/

section
variable {s t u : State} {c : Channel}

theorem channel_ofCode (n : Nat) : (9 < n → Channel.ofCode n = none) ∧ ∀ c : Channel, n = c.code → Channel.ofCode n = some c := by
  refine ⟨fun unknown => ?_, fun c code => ?_⟩
  · match n with
    | n + 10 => rfl
  · subst code
    cases c <;> rfl

theorem quality_ofCode (n : Nat) (unknown : 2 < n) : Quality.ofCode n = none := by
  match n with
  | n + 3 => rfl

theorem channel_clamp_eq (c : Channel) (x : Int) : c.clamp x = max c.range.1 (min c.range.2 x) :=
  clampInt_eq x (by cases c <;> decide)

/-- A value is clamped exactly where it lies outside the channel's range (R1). -/
theorem channel_clamp_ne_iff (c : Channel) (x : Int) : c.clamp x ≠ x ↔ x < c.range.1 ∨ c.range.2 < x := by
  have range : c.range.1 ≤ c.range.2 := by cases c <;> decide
  rw [channel_clamp_eq]
  omega

/-- The state with INPUT-CLAMPED noted where the sample is clamped (R80). -/
def clampNoted (c : Channel) (raw : Int) (s : State) : State :=
  if c.clamp raw = raw then s else occur .inputClamped (some (.channel c)) raw s

/-- The state with the accepted value in the channel's record (R79). -/
def sampleStored (c : Channel) (raw : Int) (s : State) : State :=
  (clampNoted c raw s).setChannel c ((s.channels.get c).accepted (c.clamp raw))

@[simp] theorem clampNoted_keeps (c : Channel) (raw : Int) (s : State) :
    (clampNoted c raw s).est = s.est ∧ (clampNoted c raw s).policy = s.policy ∧ (clampNoted c raw s).tracker = s.tracker
      ∧ (clampNoted c raw s).channels = s.channels ∧ (clampNoted c raw s).drive = s.drive
      ∧ (clampNoted c raw s).timers = s.timers ∧ (clampNoted c raw s).uptime = s.uptime
      ∧ (clampNoted c raw s).secondMs = s.secondMs ∧ (clampNoted c raw s).flap = s.flap
      ∧ (clampNoted c raw s).blower = s.blower ∧ (clampNoted c raw s).filter = s.filter ∧ (clampNoted c raw s).tally = s.tally
      ∧ (clampNoted c raw s).journal = s.journal ∧ (clampNoted c raw s).flash = s.flash ∧ (clampNoted c raw s).watch = s.watch
      ∧ (clampNoted c raw s).link = s.link ∧ (clampNoted c raw s).freeCount = s.freeCount
      ∧ (clampNoted c raw s).pending = s.pending := by
  unfold clampNoted
  split <;> simp

theorem clampNoted_occurred (c : Channel) (raw : Int) (s : State) :
    Occurred .inputClamped (raw < c.range.1 ∨ c.range.2 < raw) s (clampNoted c raw s) := by
  have iff := channel_clamp_ne_iff c raw
  unfold clampNoted
  split
  · next within => exact .none (fun outside => iff.mpr outside within) Iff.rfl
  · next outside => exact (occur_occurred _ _ _ s).congr (by simp [iff.mp outside])

/-- The noting of a clamped sample leaves every other kind and the masks. -/
theorem clampNoted_flags {k : ConditionKind} (other : k ≠ .inputClamped) (c : Channel) (raw : Int) (s : State) :
    (k ∈ (clampNoted c raw s).notices.conditionFlags ↔ k ∈ s.notices.conditionFlags)
      ∧ (clampNoted c raw s).notices.conditionMasked = s.notices.conditionMasked := by
  unfold clampNoted
  split
  · exact ⟨Iff.rfl, rfl⟩
  · exact ⟨by simp [occur_flags, other], (occur_masks _ _ _ s).2⟩

theorem acceptSample_eq (c : Channel) (raw : Int) (s : State) :
    acceptSample c raw s = deliver (.channel c) (c.clamp raw) (consumeSample c (c.clamp raw) (sampleStored c raw s)) := by
  have channels : (clampNoted c raw s).channels = s.channels := by simp
  unfold sampleStored
  rw [← channels]
  rfl

/-- An accepted sample replaces its channel's record and no other (R79). -/
theorem acceptSample_channels (c : Channel) (raw : Int) (s : State) :
    (acceptSample c raw s).channels = s.channels.set c ((s.channels.get c).accepted (c.clamp raw)) := by
  rw [acceptSample_eq]
  simp [sampleStored, State.setChannel]

/-- The state with the fresh measurement that an accepted sample stores (R3). -/
def freshStored (v : Int) (s : State) : Channel → State
  | .cpm => s.withEst { s.est with freshCpm := some v }
  | .cco => s.withEst { s.est with freshCco := some v }
  | .crh => s.withEst { s.est with freshCrh := some v }
  | .opm | .ogs | .ctm | .orh | .otm | .stm | .fpos => s

@[simp] theorem freshStored_keeps (v : Int) (s : State) (c : Channel) :
    (freshStored v s c).policy = s.policy ∧ (freshStored v s c).tracker = s.tracker ∧ (freshStored v s c).channels = s.channels
      ∧ (freshStored v s c).drive = s.drive ∧ (freshStored v s c).timers = s.timers ∧ (freshStored v s c).uptime = s.uptime
      ∧ (freshStored v s c).secondMs = s.secondMs ∧ (freshStored v s c).flap = s.flap ∧ (freshStored v s c).blower = s.blower
      ∧ (freshStored v s c).filter = s.filter ∧ (freshStored v s c).tally = s.tally ∧ (freshStored v s c).journal = s.journal
      ∧ (freshStored v s c).flash = s.flash ∧ (freshStored v s c).watch = s.watch ∧ (freshStored v s c).notices = s.notices
      ∧ (freshStored v s c).link = s.link ∧ (freshStored v s c).freeCount = s.freeCount
      ∧ (freshStored v s c).pending = s.pending := by
  cases c <;> simp [freshStored]

/-- A channel without a detector stores its fresh measurement and has the margin recomputed (R3, R25). -/
theorem consumeSample_eq (notPm : c ≠ .opm) (notGas : c ≠ .ogs) (v : Int) (s : State) :
    consumeSample c v s = remargined c (freshStored v s c) := by
  cases c with
  | opm => exact absurd rfl notPm
  | ogs => exact absurd rfl notGas
  | cpm | cco | crh | ctm | orh | otm | stm | fpos => rfl

/-! ### The slots after a sample -/

/-- A delivery after another quantity's: each slot takes the value of the quantity it watches (R172). -/
theorem deliver_get_after {q : Quantity} {v x : Int} {taken : Prop} [Decidable taken] {n : SlotNumber}
    (other : taken → (s.watch.get n).quantity ≠ q) (time : u.uptime = s.uptime)
    (slot : u.watch.get n = if taken then slotEvaluated (s.watch.get n) x s.uptime else s.watch.get n) :
    (deliver q v u).watch.get n = if (s.watch.get n).quantity = q then slotEvaluated (s.watch.get n) v s.uptime
      else if taken then slotEvaluated (s.watch.get n) x s.uptime else s.watch.get n := by
  rw [deliver_get, time, slot]
  by_cases now : taken
  · simp only [now, if_true, slotEvaluated_quantity]
    rw [if_neg (other now), if_neg (other now)]
  · simp only [now, if_false]

/-- The gas snap stores EGS once and delivers it (R20). -/
theorem gasSnap_snapped (v : Int) (s : State) :
    (gasSnap v s).est = (if s.est.gasSnapArmed = true ∧ s.drive.vehicle ≠ .parked then
        { s.est with egs := v * 16, gasSnapArmed := false } else s.est)
      ∧ RaisesOnly [.watch] s (gasSnap v s)
      ∧ ∀ n, (gasSnap v s).watch.get n =
          if (s.watch.get n).quantity = .egs ∧ s.est.gasSnapArmed = true ∧ s.drive.vehicle ≠ .parked then
            slotEvaluated (s.watch.get n) (v * 16) s.uptime else s.watch.get n := by
  by_cases snaps : s.est.gasSnapArmed = true ∧ s.drive.vehicle ≠ .parked
  · have runs : gasSnap v s = deliver .egs (v * 16) (s.withEst { s.est with egs := v * 16, gasSnapArmed := false }) := by
      simp [gasSnap, State.isParked, snaps]
    rw [runs]
    refine ⟨by simp [snaps], (deliver_raisesOnly .egs _ _).after (by simp), fun n => ?_⟩
    rw [deliver_get]
    simp [snaps]
    rfl
  · have stands : gasSnap v s = s := by
      rw [gasSnap, if_neg]
      simpa [State.isParked] using snaps
    rw [stands]
    exact ⟨by simp [snaps], .refl s, fun n => by simp [snaps]⟩

end

/-! ### The obligations -/

theorem deliver_est (q : Quantity) (v : Int) (s : State) : (deliver q v s).est = s.est := by simp

section
variable {s : State} {c : Channel}

theorem takeSample_good (c : Channel) (raw : Int) (s : State) : exec (.sample c.code raw 0) s = .next (acceptSample c raw s) := by
  have decodes : Channel.ofCode c.code = some c := (channel_ofCode _).2 c rfl
  show Host.Outcome.next (sampleArrives c.code raw 0 s) = _
  simp [sampleArrives, decodes, Quality.ofCode, takeSample]

/-- A sample that is not GOOD changes its channel's record alone (R79). -/
theorem setChannel_only (c : Channel) (r : ChannelRecord) (s : State) :
    OnlyChanges [.channels] s (s.setChannel c r) ∧ (s.setChannel c r).channels.get c = r
      ∧ ∀ c', c' ≠ c → (s.setChannel c r).channels.get c' = s.channels.get c' := by
  refine ⟨⟨rfl, fun p unlisted => ?_⟩, ?_, fun c' other => ?_⟩
  · cases p <;> simp [Part.Same, State.setChannel] at unlisted ⊢
  · exact (channels_get_set _ _ _ _).trans (if_pos rfl)
  · exact (channels_get_set _ _ _ _).trans (if_neg other)

end

/-- What came before the lookups has left TABLE-CLAMPED and the masks. -/
theorem LookupsNoted.since {a b : Channel} {made : Prop} {s t u : State} (h : LookupsNoted a b made t u)
    (flags : .tableClamped ∈ t.notices.conditionFlags ↔ .tableClamped ∈ s.notices.conditionFlags)
    (masks : t.notices.conditionMasked = s.notices.conditionMasked) (time : t.uptime = s.uptime) : LookupsNoted a b made s u := by
  unfold LookupsNoted Occurred at h ⊢
  rwa [flags, masks, time] at h

/-- An accepted sample of a channel without a detector: the fresh measurement, the margin and the slots (R3, R25, R172). -/
theorem acceptSample_margin {c : Channel} (notPm : c ≠ .opm) (notGas : c ≠ .ogs) (raw : Int) (s : State) :
    Occurred .inputClamped (raw < c.range.1 ∨ c.range.2 < raw) s (acceptSample c raw s)
      ∧ (GivesMargin c → (acceptSample c raw s).est
          = { (freshStored (c.clamp raw) s c).est with fogMargin := marginByRules (acceptSample c raw s) })
      ∧ (¬GivesMargin c → (acceptSample c raw s).est = (freshStored (c.clamp raw) s c).est)
      ∧ LookupsNoted .ctm .stm (GivesMargin c) s (acceptSample c raw s)
      ∧ (∀ n, (acceptSample c raw s).watch.get n =
          if (s.watch.get n).quantity = .channel c then slotEvaluated (s.watch.get n) (c.clamp raw) s.uptime
          else if (s.watch.get n).quantity = .fog ∧ (c = .crh ∨ c = .ctm ∨ c = .stm) then
            slotEvaluated (s.watch.get n) (acceptSample c raw s).est.fogMargin s.uptime
          else s.watch.get n)
      ∧ OnlyChanges [.channels, .est, .watch, .notices] s (acceptSample c raw s) := by
  set u := freshStored (c.clamp raw) (sampleStored c raw s) c with u_def
  set v := remargined c u with v_def
  have runs : acceptSample c raw s = deliver (.channel c) (c.clamp raw) v := by
    rw [acceptSample_eq, consumeSample_eq notPm notGas]
  obtain ⟨gives, stands, lookups, watch⟩ := remargined_margin c u
  have after := deliver_raisesOnly (.channel c) (c.clamp raw) v
  have est : u.est = (freshStored (c.clamp raw) s c).est := by
    rw [u_def]
    cases c <;> simp [freshStored, sampleStored, State.setChannel]
  have slots : u.watch = s.watch := by simp [u_def, sampleStored, State.setChannel]
  have time : u.uptime = s.uptime := by simp [u_def, sampleStored, State.setChannel]
  have notices : u.notices = (clampNoted c raw s).notices := by simp [u_def, sampleStored, State.setChannel]
  have margin : marginByRules (deliver (.channel c) (c.clamp raw) v) = marginByRules u := marginByRules_congr (by simp [v_def])
  rw [← v_def] at gives stands lookups watch
  have fog : GivesMargin c → (deliver (.channel c) (c.clamp raw) v).est
      = { (freshStored (c.clamp raw) s c).est with fogMargin := marginByRules (deliver (.channel c) (c.clamp raw) v) } := fun yes => by
    rw [deliver_est, gives yes, margin, est]
  rw [runs]
  refine ⟨?_, fog, fun no => by rw [deliver_est, stands no, est], ?_, fun n => ?_, ⟨?_, fun p unlisted => ?_⟩⟩
  · have noted : Occurred .inputClamped (raw < c.range.1 ∨ c.range.2 < raw) s u := by
      unfold Occurred
      rw [notices]
      exact clampNoted_occurred c raw s
    exact (noted.stands (remargined_kindStands (by simp) c u)).stands (after.kindStands (by simp))
  · refine (lookups.then after (by simp) (by simp)).since ?_ ?_ time
    · rw [notices]
      exact (clampNoted_flags (by simp) c raw s).1
    · rw [notices]
      exact (clampNoted_flags (k := .tableClamped) (by simp) c raw s).2
  · rw [slots, time] at watch
    rw [deliver_get_after (s := s) (q := .channel c) (fun both => by rw [both.1]; simp) (by simp [v_def, time]) (watch n)]
    by_cases both : (s.watch.get n).quantity = .fog ∧ (c = .crh ∨ c = .ctm ∨ c = .stm)
    · rw [if_pos both, if_pos both, fog both.2, margin]
    · rw [if_neg both, if_neg both]
  · simp [v_def, u_def, sampleStored, State.setChannel]
  · cases p <;> simp [Part.Same, v_def, u_def, sampleStored, State.setChannel] at unlisted ⊢

/-- An accepted sample of a channel with a detector: the estimator stands, but for the gas snap, and the slots (R20, R172). -/
theorem acceptSample_detector {c : Channel} (detects : c = .opm ∨ c = .ogs) (raw : Int) (s : State) :
    Occurred .inputClamped (raw < c.range.1 ∨ c.range.2 < raw) s (acceptSample c raw s)
      ∧ (acceptSample c raw s).est = (if c = .ogs ∧ s.est.gasSnapArmed = true ∧ s.drive.vehicle ≠ .parked then
          { s.est with egs := c.clamp raw * 16, gasSnapArmed := false } else s.est)
      ∧ ∀ n, (acceptSample c raw s).watch.get n =
          if (s.watch.get n).quantity = .channel c then slotEvaluated (s.watch.get n) (c.clamp raw) s.uptime
          else if (s.watch.get n).quantity = .egs ∧ c = .ogs ∧ s.est.gasSnapArmed = true ∧ s.drive.vehicle ≠ .parked then
            slotEvaluated (s.watch.get n) (c.clamp raw * 16) s.uptime
          else s.watch.get n := by
  set u := sampleStored c raw s with u_def
  have noted : Occurred .inputClamped (raw < c.range.1 ∨ c.range.2 < raw) s u := clampNoted_occurred c raw s
  have ⟨est, slots, time, drive⟩ : u.est = s.est ∧ u.watch = s.watch ∧ u.uptime = s.uptime ∧ u.drive = s.drive := by
    simp [u_def, sampleStored, State.setChannel]
  have runs := acceptSample_eq c raw s
  have after := deliver_kindStands (k := .inputClamped) (.channel c) (c.clamp raw) (consumeSample c (c.clamp raw) u)
  rw [runs, ← u_def]
  rcases detects with rfl | rfl
  · have consumes : consumeSample .opm (Channel.opm.clamp raw) u = detectorSample .pm (Channel.opm.clamp raw) u := rfl
    rw [consumes] at after ⊢
    refine ⟨(noted.stands (detectorSample_kindStands (by simp) _ _ u)).stands after, by simp [est], fun n => ?_⟩
    rw [deliver_get]
    simp [slots, time]
  · set w := detectorSample .gas (Channel.ogs.clamp raw) u with w_def
    have ⟨wEst, wSlots, wTime, wDrive⟩ : w.est = s.est ∧ w.watch = s.watch ∧ w.uptime = s.uptime ∧ w.drive = s.drive := by
      simp [w_def, est, slots, time, drive]
    have consumes : consumeSample .ogs (Channel.ogs.clamp raw) u = gasSnap (Channel.ogs.clamp raw) w := rfl
    obtain ⟨snapped, raises, watch⟩ := gasSnap_snapped (Channel.ogs.clamp raw) w
    rw [wEst, wDrive] at snapped watch
    rw [wSlots, wTime] at watch
    rw [consumes] at after ⊢
    refine ⟨((noted.stands (detectorSample_kindStands (by simp) _ _ u)).stands (raises.kindStands (by simp))).stands after,
      by rw [deliver_est, snapped]; simp, fun n => ?_⟩
    rw [deliver_get_after (s := s) (q := .channel .ogs) (fun both => by rw [both.1]; simp) (by simp [wTime]) (watch n)]
    simp

/-- Settles O36: the reading as a sample of FPOS, and the position that it gives. -/
theorem fposReadTaken : Obligations.FposReadTaken := by
  intro s
  refine ⟨fun x => ?_, ?_⟩
  · have record : (acceptSample .fpos x s).channels.fpos = { s.channels.fpos with
        state := .live, lastValue := max 0 (min 1000 x), ageMs := some 0, faultFlag := false, lastQuality := some .good } := by
      rw [acceptSample_channels, channel_clamp_eq]
      rfl
    have flap : (acceptSample .fpos x s).flap = s.flap := by
      rw [acceptSample_eq]
      simp [consumeSample, sampleStored, State.setChannel]
    refine ⟨acceptSample .fpos x s, rfl, ⟨by simp, fun p unlisted => ?_⟩, record, fun follows notFault notDisabled => ?_, fun stopped => ?_⟩
    · rw [acceptSample_eq]
      cases p <;> simp [Part.Same, consumeSample, sampleStored, State.setChannel] at unlisted ⊢
    · have usable : (acceptSample .fpos x s).usable .fpos = max 0 (min 1000 x) := by
        show (acceptSample .fpos x s).channels.fpos.usable = _
        rw [record]
        rfl
      rw [State.flapPosition, flap, usable]
      cases state : s.flap.state <;> simp [state] at notFault notDisabled <;>
        rcases follows with mode | mode <;> simp [Flap.position, state, mode]
    · rw [State.flapPosition, flap]
      rcases stopped with state | state <;> simp [Flap.position, state]
  · obtain ⟨only, record, -⟩ := setChannel_only .fpos { s.channels.fpos with lastQuality := some .fault, faultFlag := true } s
    exact ⟨_, rfl, only, record⟩

/-- Settles O37: the expiry by the two times, and the return by a GOOD sample. -/
theorem staleEntered : Obligations.StaleEntered := by
  intro c s
  refine ⟨fun live less => ?_, fun live same => ?_, fun other => ?_, fun raw _ => ⟨_, takeSample_good c raw s, ?_, ?_⟩⟩
  · set r : ChannelRecord := { s.channels.get c with state := .stale, ageMs := some ((s.channels.get c).staleTime * 1000) } with r_def
    have runs : staleExpired c s = s.setChannel c r := by
      simp [staleExpired, live, Nat.ne_of_gt less, r_def]
    obtain ⟨only, record, others⟩ := setChannel_only c r s
    refine ⟨s.setChannel c r, congrArg Host.Outcome.next runs, only, record, ?_, others⟩
    simp only [State.usable, record]
    simp [ChannelRecord.usable, r_def, live]
  · refine ⟨staleExpired c s, rfl, ?_⟩
    simp [staleExpired, lostExpired, live, same, enterLost_channels, channels_get_set]
  · show Host.Outcome.next (staleExpired c s) = _
    cases state : (s.channels.get c).state <;> simp [staleExpired, state] at other ⊢
  · simp [acceptSample_channels, channels_get_set, ChannelRecord.accepted]
  · simp [acceptSample_channels, channels_get_set, ChannelRecord.accepted]

/-- Settles O38: the loss at the lost time, by `enterLost_follows`. -/
theorem lostEntered : Obligations.LostEntered := by
  intro c s
  refine ⟨fun running => ?_, fun still => ?_⟩
  · set u := s.setChannel c { s.channels.get c with ageMs := some ((s.channels.get c).lostTime * 1000) } with u_def
    have runs : lostExpired c s = enterLost c u := by
      rcases running with h | h <;> simp [lostExpired, h, u_def]
    have follows : LostFollows c s (enterLost c u) := enterLost_follows c u
    obtain ⟨noted, delivered, margin, fog, clamped, lost⟩ := follows
    have channels : (enterLost c u).channels = s.channels.set c
        { s.channels.get c with state := .lost, ageMs := some ((s.channels.get c).lostTime * 1000) } := by
      rw [enterLost_channels, u_def]
      cases c <;> rfl
    refine ⟨enterLost c u, congrArg Host.Outcome.next runs, ?_, fun c' other => ?_, ?_, noted, delivered, margin, fog, clamped, lost,
      fun notPm notGas => ⟨by simp [u_def, State.setChannel], fun p unlisted => ?_⟩, ⟨by simp [u_def, State.setChannel], fun p unlisted => ?_⟩⟩
    · simp [channels, channels_get_set]
    · simp [channels, channels_get_set, other]
    · simp [State.usable, channels, channels_get_set, ChannelRecord.usable]
    · have taken := (consumeLoss_eq c (raise (.sensorLost [c]) (u.setChannel c { u.channels.get c with state := .lost }))).2 notPm notGas
      rw [enterLost, taken]
      cases p <;> simp [Part.Same, u_def, State.setChannel] at unlisted ⊢
    · cases p <;> simp [Part.Same, u_def, State.setChannel] at unlisted ⊢
  · show Host.Outcome.next (lostExpired c s) = _
    rcases still with h | h <;> simp [lostExpired, h]

/-- What an accepted sample leaves of its channel's record and of the others (R79). -/
theorem acceptSample_record (c : Channel) (raw : Int) (s : State) :
    (acceptSample c raw s).channels.get c = { s.channels.get c with
        state := .live, lastValue := max c.range.1 (min c.range.2 raw), ageMs := some 0, faultFlag := false, lastQuality := some .good }
      ∧ (acceptSample c raw s).usable c = max c.range.1 (min c.range.2 raw)
      ∧ ∀ c', c' ≠ c → (acceptSample c raw s).channels.get c' = s.channels.get c' := by
  have record := channels_get_set s.channels c c ((s.channels.get c).accepted (c.clamp raw))
  rw [if_pos rfl, ← acceptSample_channels, ChannelRecord.accepted, channel_clamp_eq] at record
  refine ⟨record, by rw [State.usable, record]; rfl, fun c' other => ?_⟩
  rw [acceptSample_channels, channels_get_set, if_neg other]

theorem acceptSample_only (c : Channel) (raw : Int) (s : State) :
    OnlyChanges [.channels, .est, .policy, .tracker, .timers, .flap, .blower, .watch, .notices, .tally] s (acceptSample c raw s)
      ∧ (c = .orh ∨ c = .otm ∨ c = .fpos → OnlyChanges [.channels, .watch, .notices] s (acceptSample c raw s)) := by
  refine ⟨⟨by simp, fun p unlisted => ?_⟩, fun plain => ⟨by simp, fun p unlisted => ?_⟩⟩
  · cases p <;> simp [Part.Same] at unlisted ⊢
  · rw [acceptSample_eq]
    rcases plain with rfl | rfl | rfl <;>
      cases p <;> simp [Part.Same, consumeSample, sampleStored, State.setChannel] at unlisted ⊢

/-- A channel has a detector, or it has none and its event is the margin's. -/
theorem channel_detects (c : Channel) : c = .opm ∨ c = .ogs ∨ (c ≠ .opm ∧ c ≠ .ogs) := by
  by_cases pm : c = .opm
  · exact .inl pm
  · by_cases gas : c = .ogs
    · exact .inr (.inl gas)
    · exact .inr (.inr ⟨pm, gas⟩)

theorem takeSample_warming (c : Channel) (raw : Int) (s : State) : exec (.sample c.code raw 1) s
    = .next (s.setChannel c { s.channels.get c with lastQuality := some .warming }) := by
  show Host.Outcome.next (sampleArrives c.code raw 1 s) = _
  simp [sampleArrives, (channel_ofCode _).2 c rfl, Quality.ofCode, takeSample]

theorem takeSample_fault (c : Channel) (raw : Int) (s : State) : exec (.sample c.code raw 2) s
    = .next (s.setChannel c { s.channels.get c with lastQuality := some .fault, faultFlag := true }) := by
  show Host.Outcome.next (sampleArrives c.code raw 2 s) = _
  simp [sampleArrives, (channel_ofCode _).2 c rfl, Quality.ofCode, takeSample]

/-- Settles O35: a GOOD sample by its channel, and the samples that reach no consumer. -/
theorem sampleTaken : Obligations.SampleTaken := by
  refine ⟨fun c raw s => ⟨_, takeSample_good c raw s, ?_⟩, fun c raw s => ⟨_, takeSample_warming c raw s, setChannel_only c _ s⟩,
    fun c raw s => ⟨_, takeSample_fault c raw s, setChannel_only c _ s⟩, fun code quality raw s unknown => ?_⟩
  · obtain ⟨record, usable, others⟩ := acceptSample_record c raw s
    obtain ⟨only, plain⟩ := acceptSample_only c raw s
    have clamped := channel_clamp_eq c raw
    rcases channel_detects c with rfl | rfl | ⟨notPm, notGas⟩
    · obtain ⟨occurred, est, watch⟩ := acceptSample_detector (.inl rfl) raw s
      rw [clamped] at est watch
      refine ⟨record, usable, others, occurred, by simp, by simp, by simp, by simp, fun _ => ?_, by simp, by simp, fun n => ?_, plain,
        by simp, only⟩
      · simpa using est
      · rw [watch n]
        simp
    · obtain ⟨occurred, est, watch⟩ := acceptSample_detector (.inr rfl) raw s
      rw [clamped] at est watch
      refine ⟨record, usable, others, occurred, by simp, by simp, by simp, by simp, by simp, by simp, fun _ => ?_, fun n => ?_, plain,
        by simp, only⟩
      · simpa [Channel.range] using est
      · rw [watch n, est]
        by_cases snaps : (s.watch.get n).quantity = .egs ∧ s.est.gasSnapArmed = true ∧ s.drive.vehicle ≠ .parked
        · simp [snaps]
        · simp [snaps]
    · obtain ⟨occurred, margin, noMargin, lookups, watch, within⟩ := acceptSample_margin notPm notGas raw s
      rw [clamped] at margin noMargin watch
      refine ⟨record, usable, others, occurred, ?_, ?_, ?_, fun gives => ?_, fun plain => ?_, fun _ _ => lookups,
        fun gas => absurd gas notGas, fun n => ?_, plain, fun _ => within, only⟩
      · rintro rfl
        exact noMargin (by simp [GivesMargin])
      · rintro rfl
        exact noMargin (by simp [GivesMargin])
      · rintro rfl
        exact margin (by simp [GivesMargin])
      · rcases gives with rfl | rfl <;> exact margin (by simp [GivesMargin])
      · rcases plain with rfl | rfl | rfl | rfl
        · exact absurd rfl notPm
        all_goals exact noMargin (by simp [GivesMargin])
      · rw [watch n]
        simp [notGas]
  · show Host.Outcome.next (sampleArrives code raw quality s) = _
    rcases unknown with code | quality
    · simp [sampleArrives, (channel_ofCode _).1 code]
    · simp [sampleArrives, quality_ofCode _ quality]

end Sys2Proof.Machine
end

section
/-! What CHANNEL makes of its channel: the stored record, the state a running age takes from it, and what takes a changed substitute or a
loss (R86, R89 to R91), with the obligation O18. -/

namespace Sys2Proof.Machine

/-- A channel's record with a CHANNEL request's substitute and times, and the state a running age takes from them (R89, R90). -/
def ChannelRecord.restated (substitute : Option Int) (stale lost : Nat) (r : ChannelRecord) : ChannelRecord :=
  { r with
    substitute := substitute, staleTime := stale, lostTime := lost,
    state := if r.onSubstitute = true ∨ (stale = r.staleTime ∧ lost = r.lostTime) then r.state
      else ChannelRecord.stateOfAge { r with substitute := substitute, staleTime := stale, lostTime := lost } }

section
variable {s : State} {c : Channel} {substitute : Option Int} {stale lost : Nat}

theorem onSubstitute_iff (r : ChannelRecord) :
    (r.onSubstitute = true ↔ r.state = .none ∨ r.state = .lost) ∧ (r.onSubstitute = false ↔ r.state = .live ∨ r.state = .stale) := by
  cases state : r.state <;> simp [ChannelRecord.onSubstitute, state]

/-- The state of a running age under the record's times (R90). -/
theorem stateOfAge_eq (r : ChannelRecord) : r.stateOfAge = if r.lostTime * 1000 ≤ r.ageMs.getD 0 then .lost
    else if r.staleTime * 1000 ≤ r.ageMs.getD 0 then .stale else .live := rfl

theorem recheckAge_lost (running : (s.channels.get c).onSubstitute = false) (late : (s.channels.get c).stateOfAge = .lost) :
    recheckAge c s = enterLost c s := by
  rcases (onSubstitute_iff _).2.mp running with h | h <;> simp [recheckAge, h, late]

theorem recheckAge_stands (running : (s.channels.get c).onSubstitute = false) (early : (s.channels.get c).stateOfAge ≠ .lost) :
    recheckAge c s = s.setChannel c { s.channels.get c with state := (s.channels.get c).stateOfAge } := by
  rcases (onSubstitute_iff _).2.mp running with h | h <;>
    cases age : (s.channels.get c).stateOfAge <;> simp [age] at early <;> simp [recheckAge, h, age]

theorem substituteChanged_eq (c : Channel) (s : State) :
    substituteChanged c s = deliver (.channel c) (s.usable c) (remargined c s) := by
  cases c <;> rfl

/-- A channel on its substitute whose substitute stands: the record is stored, and nothing follows (R91). -/
theorem storeChannel_same (on : (s.channels.get c).onSubstitute = true) (same : substitute = (s.channels.get c).substitute) :
    storeChannel c substitute stale lost s = s.setChannel c ((s.channels.get c).restated substitute stale lost) := by
  simp [storeChannel, on, same, ChannelRecord.restated]

/-- A channel on its substitute that gets a new one (R91). -/
theorem storeChannel_changed (on : (s.channels.get c).onSubstitute = true) (new : substitute ≠ (s.channels.get c).substitute) :
    storeChannel c substitute stale lost s
      = substituteChanged c (s.setChannel c ((s.channels.get c).restated substitute stale lost)) := by
  simp [storeChannel, on, new, ChannelRecord.restated]

/-- A running channel that the new times leave in LIVE or STALE (R90). -/
theorem storeChannel_runs (running : (s.channels.get c).onSubstitute = false)
    (state : ((s.channels.get c).restated substitute stale lost).state ≠ .lost) :
    storeChannel c substitute stale lost s = s.setChannel c ((s.channels.get c).restated substitute stale lost) := by
  by_cases times : stale = (s.channels.get c).staleTime ∧ lost = (s.channels.get c).lostTime
  · simp [storeChannel, running, times, ChannelRecord.restated]
  · set t := s.setChannel c { s.channels.get c with substitute := substitute, staleTime := stale, lostTime := lost } with t_def
    have record : t.channels.get c = { s.channels.get c with substitute := substitute, staleTime := stale, lostTime := lost } :=
      (channels_get_set _ _ _ _).trans (if_pos rfl)
    have rechecks : storeChannel c substitute stale lost s = recheckAge c t := by simp [storeChannel, running, times, t_def]
    simp only [ChannelRecord.restated, running, times, or_false, Bool.false_eq_true, if_false] at state
    rw [rechecks, recheckAge_stands (by rw [record]; exact running) (by rw [record]; exact state), record]
    simp only [ChannelRecord.restated, running, times, or_false, Bool.false_eq_true, if_false]
    cases c <;> rfl

/-- A running channel that the new times bring to LOST (R83, R90). -/
theorem storeChannel_loses (running : (s.channels.get c).onSubstitute = false)
    (state : ((s.channels.get c).restated substitute stale lost).state = .lost) : storeChannel c substitute stale lost s = enterLost c
      (s.setChannel c { s.channels.get c with substitute := substitute, staleTime := stale, lostTime := lost }) := by
  set t := s.setChannel c { s.channels.get c with substitute := substitute, staleTime := stale, lostTime := lost } with t_def
  have record : t.channels.get c = { s.channels.get c with substitute := substitute, staleTime := stale, lostTime := lost } :=
    (channels_get_set _ _ _ _).trans (if_pos rfl)
  have times : ¬(stale = (s.channels.get c).staleTime ∧ lost = (s.channels.get c).lostTime) := fun times => by
    have live := (onSubstitute_iff _).2.mp running
    simp [ChannelRecord.restated, times] at state
    simp [state] at live
  have rechecks : storeChannel c substitute stale lost s = recheckAge c t := by simp [storeChannel, running, times, t_def]
  simp only [ChannelRecord.restated, running, times, or_false, Bool.false_eq_true, if_false] at state
  rw [rechecks, recheckAge_lost (by rw [record]; exact running) (by rw [record]; exact state)]

/-- The channel's record is the restated one, and the others stand (R89, R90). -/
theorem storeChannel_channels (c : Channel) (substitute : Option Int) (stale lost : Nat) (s : State) :
    (storeChannel c substitute stale lost s).channels
      = s.channels.set c ((s.channels.get c).restated substitute stale lost) := by
  cases on : (s.channels.get c).onSubstitute with
  | true =>
    by_cases same : substitute = (s.channels.get c).substitute
    · rw [storeChannel_same on same]
      rfl
    · rw [storeChannel_changed on same]
      simp [State.setChannel]
  | false =>
    by_cases state : ((s.channels.get c).restated substitute stale lost).state = .lost
    · rw [storeChannel_loses on state, enterLost_channels]
      have record : (s.channels.get c).restated substitute stale lost
          = { s.channels.get c with substitute := substitute, staleTime := stale, lostTime := lost, state := .lost } := by
        rw [← state]
        rfl
      rw [record]
      cases c <;> rfl
    · rw [storeChannel_runs on state]
      rfl

/-- What follows a changed substitute (R25, R91, R172). -/
theorem substituteChanged_follows (c : Channel) (s : State) :
    Delivered (.channel c) ((substituteChanged c s).usable c) s (substituteChanged c s) ∧ MarginFollows c s (substituteChanged c s)
      ∧ LookupsNoted .ctm .stm (GivesMargin c) s (substituteChanged c s)
      ∧ (GivesMargin c → Delivered .fog (substituteChanged c s).est.fogMargin s (substituteChanged c s))
      ∧ KindStands .inputClamped s (substituteChanged c s) := by
  have usable : (substituteChanged c s).usable c = s.usable c := by simp [State.usable]
  obtain ⟨delivered, gives, stands, lookups, fog, clamped⟩ := deliver_remargined c s
  rw [usable]
  rw [← substituteChanged_eq] at delivered gives stands lookups fog clamped
  exact ⟨delivered, ⟨gives, stands, fun _ _ => lookups⟩, lookups, fog, clamped⟩

theorem MarginFollows.est {t : State} (follows : MarginFollows c s t) : t.est = { s.est with fogMargin := t.est.fogMargin } := by
  obtain ⟨gives, stands, -⟩ := follows
  by_cases given : GivesMargin c
  · rw [gives given]
  · rw [stands given]

/-- A CHANNEL request touches no estimate, nor the flag of INPUT-CLAMPED. -/
theorem storeChannel_beside (c : Channel) (substitute : Option Int) (stale lost : Nat) (s : State) :
    (storeChannel c substitute stale lost s).est
        = { s.est with fogMargin := (storeChannel c substitute stale lost s).est.fogMargin }
      ∧ (.inputClamped ∈ (storeChannel c substitute stale lost s).notices.conditionFlags
          ↔ .inputClamped ∈ s.notices.conditionFlags) := by
  cases on : (s.channels.get c).onSubstitute with
  | true =>
    by_cases same : substitute = (s.channels.get c).substitute
    · rw [storeChannel_same on same]
      exact ⟨rfl, Iff.rfl⟩
    · rw [storeChannel_changed on same]
      have ⟨_, margin, _, _, clamped, _⟩ := substituteChanged_follows c
        (s.setChannel c ((s.channels.get c).restated substitute stale lost))
      exact ⟨margin.est, clamped⟩
  | false =>
    by_cases state : ((s.channels.get c).restated substitute stale lost).state = .lost
    · rw [storeChannel_loses on state]
      have ⟨_, _, margin, _, clamped, _⟩ := enterLost_follows c
        (s.setChannel c { s.channels.get c with substitute := substitute, staleTime := stale, lostTime := lost })
      exact ⟨margin.est, clamped⟩
    · rw [storeChannel_runs on state]
      exact ⟨rfl, Iff.rfl⟩

end

/-- A substitute field is clamped exactly where it lies outside the channel's range; that of FPOS decides nothing (R86, R89). -/
theorem substituteClamps_iff (c : Channel) (x : Word16) :
    substituteClamps c x = true ↔ c ≠ .fpos ∧ (x.toInt < c.range.1 ∨ c.range.2 < x.toInt) := by
  have clamps := channel_clamp_ne_iff c x.toInt
  cases c <;> simp [substituteClamps, substituteOf] at clamps ⊢ <;> exact clamps

theorem substituteOf_eq (c : Channel) (x : Word16) :
    substituteOf c x = if c = .fpos then none else some (max c.range.1 (min c.range.2 x.toInt)) := by
  have clamped := channel_clamp_eq c x.toInt
  cases c <;> simp [substituteOf] at clamped ⊢ <;> exact clamped

/-- A closing stands as the reply goes out, and looks back to the state before the request took the head and the record. -/
theorem LossClosed.replied {d : DetectorId} {s t : State} {r : Request} {c : Channel} {x : ChannelRecord}
    (closed : LossClosed d ((s.atHead r).setChannel c x) t) (code : Byte) (result : ResultCode) (body : List Byte) :
    LossClosed d s (sendReply code result body t) := by
  have stands : HoldStands t (sendReply code result body t) := by
    constructor
    case keeps => exact fun p mem _ => by simpa using mem
    all_goals simp
  have before : LossClosed d s t := closed
  exact before.then stands

/-- Settles O18: the stored record, and what follows by the state it had and the one it takes. -/
theorem channelStored : Obligations.ChannelStored := by
  intro f s free
  refine ⟨fun unknown => ?_, fun c code => ?_⟩
  · exact onlyAnswered (result := .refusedValue) rfl free
      (by simp [serveRequest, serveChannel, (channel_ofCode _).1 unknown, Request.code]) rfl
  set h := s.atHead (.channel f) with h_def
  set substitute := substituteOf c f.substitute with substitute_def
  set stale := field 1 60 f.staleTime with stale_def
  set lost := field stale 600 f.lostTime with lost_def
  set u := storeChannel c substitute stale lost h with u_def
  set clamped := substituteClamps c f.substitute || clamps 1 60 f.staleTime || clamps stale 600 f.lostTime with clamped_def
  have staleTime : stale = toRange 1 60 f.staleTime.toNat := field_eq _ (by decide)
  have lostTime : lost = toRange (toRange 1 60 f.staleTime.toNat) 600 f.lostTime.toNat := by
    rw [← staleTime]
    exact field_eq _ (by have := field_le f.staleTime (show 1 ≤ 60 by decide); omega)
  have served : serveRequest (.channel f) h = sendReply 0x07#8 (doneOr clamped) [] u := by
    simp [serveRequest, serveChannel, (channel_ofCode _).2 c code, u_def, clamped_def, substitute_def, lost_def, stale_def]
  obtain ⟨next, answered⟩ := takenAnswer (c := .channel f) rfl free served (by simp [u_def, h_def]) (doneOr_result clamped)
  have result := toNat_result (clamped := clamped)
    (p := (c ≠ .fpos ∧ (f.substitute.toInt < c.range.1 ∨ c.range.2 < f.substitute.toInt)) ∨ Outside 1 60 f.staleTime.toNat
      ∨ Outside (toRange 1 60 f.staleTime.toNat) 600 f.lostTime.toNat)
    (by rw [← staleTime]; simp only [clamped_def, Bool.or_eq_true, substituteClamps_iff, clamps_iff, or_assoc])
  set r := s.channels.get c with r_def
  have channels : u.channels = s.channels.set c (r.restated substitute stale lost) := storeChannel_channels c substitute stale lost h
  have record : u.channels.get c = r.restated substitute stale lost := by rw [channels, channels_get_set, if_pos rfl]
  obtain ⟨est, noted⟩ := storeChannel_beside c substitute stale lost h
  obtain ⟨on, running⟩ := onSubstitute_iff r
  simp only [Request.code] at next answered
  refine ⟨_, clamped.toNat, next, answered, result.1, result.2, ?_⟩
  simp only [sendReply_keeps, record]
  refine ⟨fun c' other => by rw [channels, channels_get_set, if_neg other], ⟨by simp [u_def, h_def], fun p unlisted => ?_⟩, est, noted,
    substituteOf_eq c f.substitute, staleTime, lostTime, rfl, fun still => ?_, fun still new => ?_, fun runs loses => ?_,
    fun still same => ?_, fun runs stays => ?_, fun runs sameStale sameLost => ?_, fun runs new => ?_⟩
  · cases p <;> simp [Part.Same, u_def, h_def] at unlisted ⊢
  · simp [ChannelRecord.restated, on.mpr still]
  · have changes : u = substituteChanged c (h.setChannel c (r.restated substitute stale lost)) := storeChannel_changed (on.mpr still) new
    have ⟨delivered, margin, lookups, fog, _⟩ := substituteChanged_follows c (h.setChannel c (r.restated substitute stale lost))
    rw [← changes] at delivered margin lookups fog
    exact ⟨delivered, margin, lookups, fog⟩
  · have enters : u = enterLost c (h.setChannel c { r with substitute := substitute, staleTime := stale, lostTime := lost }) :=
      storeChannel_loses (running.mpr runs) loses
    have ⟨noted, delivered, margin, fog, _, closed⟩ :=
      enterLost_follows c (h.setChannel c { r with substitute := substitute, staleTime := stale, lostTime := lost })
    rw [← enters] at noted delivered margin fog closed
    refine ⟨noted, delivered, margin, fog, fun notPm notGas => ⟨by simp [u_def, h_def], fun p unlisted => ?_⟩,
      fun d same => (closed d same).replied _ _ _⟩
    have taken := fun t => (consumeLoss_eq c t).2 notPm notGas
    rw [enters, enterLost, taken]
    cases p <;> simp [Part.Same, h_def, State.setChannel] at unlisted ⊢
  · have stores : u = h.setChannel c (r.restated substitute stale lost) := storeChannel_same (on.mpr still) same
    refine ⟨by simp [u_def, h_def], fun p unlisted => ?_⟩
    rw [stores]
    cases p <;> simp [Part.Same, h_def, State.setChannel] at unlisted ⊢
  · have stores : u = h.setChannel c (r.restated substitute stale lost) := storeChannel_runs (running.mpr runs) stays
    refine ⟨by simp [u_def, h_def], fun p unlisted => ?_⟩
    rw [stores]
    cases p <;> simp [Part.Same, h_def, State.setChannel] at unlisted ⊢
  · have times : stale = r.staleTime ∧ lost = r.lostTime := ⟨sameStale, sameLost⟩
    simp [ChannelRecord.restated, times]
  · have times : ¬(stale = r.staleTime ∧ lost = r.lostTime) := new
    simp only [ChannelRecord.restated, running.mpr runs, times, or_false, Bool.false_eq_true, if_false, stateOfAge_eq]

end Sys2Proof.Machine
end

section
/-! The numbering of episodes and the two orders in which the two detectors' events may come (R61, R62, R74), and the obligation O39. -/

namespace Sys2Proof.Machine

/-! ### A sample that reaches its detector -/

/-- The channel that a detector watches (R57). -/
def DetectorId.channel : DetectorId → Channel
  | .pm => .opm
  | .gas => .ogs

section
variable {s t : State} {d : DetectorId} {value v b : Int}

/-- The state in which an accepted sample reaches its detector (R79, R81). -/
def sampleReaches (d : DetectorId) (x : Nat) (s : State) : State :=
  s.setChannel d.channel ((s.channels.get d.channel).accepted x)

/-- What follows at the detector is all that a sample does to the tracker, the policy and the tally (R81). -/
theorem sample_atDetector (d : DetectorId) {x : Nat} (range : x ≤ if d = .pm then 1000 else 2000) (s : State) :
    ∃ t, exec (.sample d.code x 0) s = .next t ∧ HoldStands (detectorSample d x (sampleReaches d x s)) t
      ∧ t.tally = (detectorSample d x (sampleReaches d x s)).tally := by
  refine ⟨acceptSample d.channel x s, ?_, ?_⟩
  · have code : d.code = d.channel.code := by cases d <;> rfl
    rw [code]
    exact takeSample_good d.channel x s
  have clamped : d.channel.clamp x = x := by
    rw [channel_clamp_eq]
    cases d with
    | pm =>
      simp only [if_true] at range
      simp only [DetectorId.channel, Channel.range]
      omega
    | gas =>
      simp only [reduceCtorEq, if_false] at range
      simp only [DetectorId.channel, Channel.range]
      omega
  have reaches : sampleStored d.channel x s = sampleReaches d x s := by
    simp [sampleStored, clampNoted, clamped, sampleReaches]
  rw [acceptSample_eq, clamped, reaches]
  set u := detectorSample d x (sampleReaches d x s) with u_def
  cases d with
  | pm =>
    have consumes : consumeSample (DetectorId.channel .pm) x (sampleReaches .pm x s) = u := rfl
    rw [consumes]
    exact ⟨deliver_holdStands _ _ u, by simp⟩
  | gas =>
    have consumes : consumeSample (DetectorId.channel .gas) x (sampleReaches .gas x s) = gasSnap x u := rfl
    obtain ⟨est, raises, -⟩ := gasSnap_snapped x u
    have snaps : HoldStands u (gasSnap x u) := by
      constructor
      case est =>
        rw [est]
        split <;> rfl
      case keeps => exact raises.1
      all_goals simp
    rw [consumes]
    exact ⟨snaps.trans (deliver_holdStands _ _ _), by simp⟩

@[simp] theorem tallyEpisode_tally (s : State) : (tallyEpisode s).tally
    = if s.tally.active then { s.tally with episodes := min 65535 (s.tally.episodes + 1) } else s.tally := by
  unfold tallyEpisode
  split
  · simp [saturatingAdd_eq]
  · rfl

/-- An opening: its record, its number, PLUME-OPEN, the tally's count and the hold machine (R47, R61, R62, R65, R148). -/
theorem openEpisode_opened (d : DetectorId) (value v b : Int) (s : State) :
    (openEpisode d value v b s).tracker = s.tracker.opening d value v b s.uptime
      ∧ Pends (.plumeOpen s.tracker.nextNumber d) (openEpisode d value v b s)
      ∧ (openEpisode d value v b s).tally
          = (if s.tally.active then { s.tally with episodes := min 65535 (s.tally.episodes + 1) } else s.tally)
      ∧ HoldTookOpening s (openEpisode d value v b s) := by
  set n : Notice := .plumeOpen s.tracker.nextNumber d with n_def
  set u := raise n (s.withTracker (s.tracker.opening d value v b s.uptime)) with u_def
  have runs : openEpisode d value v b s = tallyEpisode (holdEpisodeOpens u) := openEpisode_eq d value v b s
  have took : HoldTookOpening s (holdEpisodeOpens u) := holdEpisodeOpens_took u
  have pends : Pends n u := raise_pends n _ (by simp [NoticeKind.single, Notice.kind, n_def])
  have stands : HoldStands (holdEpisodeOpens u) (tallyEpisode (holdEpisodeOpens u)) := by
    constructor
    case keeps => exact fun p mem _ => by rwa [tallyEpisode_notices]
    all_goals simp
  rw [runs]
  refine ⟨by simp [u_def], ?_, by simp [u_def], took.then stands⟩
  exact stands.keeps.pends (by simp [n_def, Notice.kind])
    ((holdEpisodeOpens_keepsPending u).pends (by simp [n_def, Notice.kind]) pends)

/-- The opening's changes to the detectors and the numbering (R61, R65). -/
theorem opening_fields (d : DetectorId) (value v b : Int) (uptime : Nat) (x : Tracker) :
    ((x.opening d value v b uptime).detector d = { x.detector d with openEpisode := some x.nextNumber, release := 0 })
      ∧ (∀ d', d' ≠ d → (x.opening d value v b uptime).detector d' = x.detector d')
      ∧ (x.opening d value v b uptime).nextNumber = if x.nextNumber = 65535 then 1 else x.nextNumber + 1 := by
  have detectors : ∀ d', (x.opening d value v b uptime).detector d'
      = if d' = d then { x.detector d with openEpisode := some x.nextNumber, release := 0 } else x.detector d' := fun d' =>
    (detector_withTable _ _ _ d').trans (detector_setDetector _ d d' _)
  exact ⟨by simp [detectors], fun d' other => by simp [detectors, other], rfl⟩

/-- The level or the jump test (R64). -/
theorem opens_iff (r : DetectorSettings) (x : Nat) (b : Int) :
    r.opens ((x : Int) * 16) b = true ↔ r.level ≤ x ∨ b + r.jump * 16 ≤ (x : Int) * 16 := by
  simp only [DetectorSettings.opens, Bool.or_eq_true, decide_eq_true_eq]
  omega

/-- The start of the detector's OPEN record (R67). -/
theorem startOf_open {pre post table : List Episode} {e : Episode} (found : OpenRecordAt d pre e post table) :
    startOf d table = some e.start := by
  obtain ⟨rfl, source, opened, closed⟩ := found
  have first : (pre ++ e :: post).find? (Episode.isOpenOf d) = some e := by
    rw [List.find?_append, List.find?_eq_none.mpr, Option.none_or, List.find?_cons_of_pos ((isOpenOf_iff d e).mpr ⟨source, opened⟩)]
    intro p mem is
    obtain ⟨same, opens⟩ := (isOpenOf_iff d p).mp is
    simpa [opens] using closed p mem same
  rw [startOf, first]
  rfl

/-- A sample of an open episode: peak, dose and release count (R66). -/
theorem sampling_fields {pre post : List Episode} {e : Episode} {x : Tracker} (found : OpenRecordAt d pre e post x.table) (n : Nat)
    (b : Int) :
    (x.sampling d n ((n : Int) * 16) b).table = pre ++ recordSampled n b e :: post
      ∧ (x.sampling d n ((n : Int) * 16) b).detector d = { x.detector d with release := releaseByRules (x.detector d) n b }
      ∧ (∀ d', d' ≠ d → (x.sampling d n ((n : Int) * 16) b).detector d' = x.detector d')
      ∧ (x.sampling d n ((n : Int) * 16) b).nextNumber = x.nextNumber := by
  have detectors : ∀ d', (x.sampling d n ((n : Int) * 16) b).detector d'
      = if d' = d then { x.detector d with release := releaseByRules (x.detector d) n b } else x.detector d' := fun d' =>
    (detector_withTable _ _ _ d').trans (detector_setDetector _ d d' _)
  refine ⟨?_, by simp [detectors], fun d' other => by simp [detectors, other], by simp [Tracker.sampling]⟩
  rw [← sampled_eq]
  exact updateRecord_at found _

end

/-! ### The four cases of a sample at its detector -/

section
variable {s : State} {d : DetectorId} {x : Nat} {b : Int}

/-- A QUIET detector without a baseline takes the sample (R63). -/
theorem sample_first (range : x ≤ if d = .pm then 1000 else 2000) (unset : (s.tracker.detector d).baseline = none) :
    ∃ t, exec (.sample d.code x 0) s = .next t
      ∧ HoldStands ((sampleReaches d x s).withTracker
          (s.tracker.setDetector d { s.tracker.detector d with baseline := some ((x : Int) * 16) })) t ∧ t.tally = s.tally := by
  obtain ⟨t, next, stands, tally⟩ := sample_atDetector d range s
  rw [detectorSample_first (by exact unset)] at stands tally
  exact ⟨t, next, stands, tally⟩

/-- A sample of a QUIET detector that passes neither test moves its baseline (R64). -/
theorem sample_moves (range : x ≤ if d = .pm then 1000 else 2000) (baseline : (s.tracker.detector d).baseline = some b)
    (quiet : (s.tracker.detector d).openEpisode = none) (stays : (s.tracker.detector d).settings.opens ((x : Int) * 16) b = false) :
    ∃ t, exec (.sample d.code x 0) s = .next t
      ∧ HoldStands ((sampleReaches d x s).withTracker (s.tracker.setDetector d
          { s.tracker.detector d with baseline := some (b + Int.tdiv ((x : Int) * 16 - b) 64) })) t ∧ t.tally = s.tally := by
  obtain ⟨t, next, stands, tally⟩ := sample_atDetector d range s
  rw [detectorSample_quiet (by exact baseline) (by exact quiet), sampleQuiet_moves (by exact stays)] at stands tally
  exact ⟨t, next, stands, tally⟩

/-- A sample of a QUIET detector that opens an episode (R64, R65). -/
theorem sample_opens (range : x ≤ if d = .pm then 1000 else 2000) (baseline : (s.tracker.detector d).baseline = some b)
    (quiet : (s.tracker.detector d).openEpisode = none) (opens : (s.tracker.detector d).settings.opens ((x : Int) * 16) b = true) :
    ∃ t, exec (.sample d.code x 0) s = .next t ∧ t.tracker = s.tracker.opening d x ((x : Int) * 16) b s.uptime
      ∧ Pends (.plumeOpen s.tracker.nextNumber d) t
      ∧ t.tally = (if s.tally.active then { s.tally with episodes := min 65535 (s.tally.episodes + 1) } else s.tally)
      ∧ HoldTookOpening s t := by
  obtain ⟨t, next, stands, tally⟩ := sample_atDetector d range s
  rw [detectorSample_quiet (by exact baseline) (by exact quiet), sampleQuiet_opens (by exact opens)] at stands tally
  obtain ⟨tracker, pends, counted, took⟩ := openEpisode_opened d x ((x : Int) * 16) b (sampleReaches d x s)
  exact ⟨t, next, stands.tracker.trans tracker, stands.keeps.pends (by simp [Notice.kind]) pends, tally.trans counted, took.then stands⟩

/-- The state in which the closing or the going on of an open episode is decided (R66). -/
def sampleGathered (d : DetectorId) (x : Nat) (b : Int) (s : State) : State :=
  (sampleReaches d x s).withTracker (s.tracker.sampling d x ((x : Int) * 16) b)

/-- A sample of an OPEN detector (R66, R67). -/
theorem sample_open {pre post : List Episode} {e : Episode} (range : x ≤ if d = .pm then 1000 else 2000)
    (baseline : (s.tracker.detector d).baseline = some b) (opened : (s.tracker.detector d).openEpisode.isSome = true)
    (found : OpenRecordAt d pre e post s.tracker.table) :
    ∃ t, exec (.sample d.code x 0) s = .next t ∧ t.tally = s.tally
      ∧ (closingCause (s.tracker.detector d).settings (releaseByRules (s.tracker.detector d) x b) e.start s.uptime = none →
          HoldStands (sampleGathered d x b s) t)
      ∧ ∀ cause, closingCause (s.tracker.detector d).settings (releaseByRules (s.tracker.detector d) x b) e.start s.uptime = some cause →
          HoldStands (closeEpisode d cause (sampleGathered d x b s)) t := by
  obtain ⟨n, number⟩ := Option.isSome_iff_exists.mp opened
  obtain ⟨t, next, stands, tally⟩ := sample_atDetector d range s
  rw [detectorSample_open (by exact baseline) (by exact number)] at stands tally
  have start : (startOf d (sampleReaches d x s).tracker.table).getD (sampleReaches d x s).uptime = e.start := by
    have named : startOf d (sampleReaches d x s).tracker.table = some e.start := startOf_open found
    rw [named]
    rfl
  have decides : closingCause ((sampleReaches d x s).tracker.detector d).settings
        (releaseAfter ((sampleReaches d x s).tracker.detector d) ((x : Int) * 16) b)
        ((startOf d (sampleReaches d x s).tracker.table).getD (sampleReaches d x s).uptime) (sampleReaches d x s).uptime
      = closingCause (s.tracker.detector d).settings (releaseByRules (s.tracker.detector d) x b) e.start s.uptime := by
    rw [start]
    rfl
  refine ⟨t, next, tally.trans ?_, fun goesOn => ?_, fun cause closes => ?_⟩
  · cases closes : closingCause (s.tracker.detector d).settings (releaseByRules (s.tracker.detector d) x b) e.start s.uptime with
    | none =>
      rw [sampleOpen_goes_on (decides.trans closes)]
      rfl
    | some cause =>
      rw [sampleOpen_closes (decides.trans closes)]
      simp [sampleReaches, State.setChannel]
  · rwa [sampleOpen_goes_on (decides.trans goesOn)] at stands
  · rwa [sampleOpen_closes (decides.trans closes)] at stands

/-- A closing by a sample (R67). -/
theorem sample_closed {pre post : List Episode} {e : Episode} (found : OpenRecordAt d pre e post s.tracker.table) (x : Nat) (b : Int)
    (cause : EndCause) {t : State} (stands : HoldStands (closeEpisode d cause (sampleGathered d x b s)) t) :
    EpisodeClosed d cause pre (recordSampled x b e) post s t ∧ (t.tracker.detector d).baseline = (s.tracker.detector d).baseline
      ∧ (∀ d', d' ≠ d → t.tracker.detector d' = s.tracker.detector d') ∧ t.tracker.nextNumber = s.tracker.nextNumber := by
  set u := sampleGathered d x b s with u_def
  obtain ⟨table, own, others, number⟩ := sampling_fields found x b
  obtain ⟨tracker, took⟩ := closeEpisode_closed d cause u
  have uTracker : u.tracker = s.tracker.sampling d x ((x : Int) * 16) b := rfl
  have closed : u.tracker.setDetector d { u.tracker.detector d with openEpisode := none, release := 0 } = u.tracker.setDetector d
      { s.tracker.detector d with openEpisode := none, release := 0 } := by rw [uTracker, own]
  have detectors : ∀ d', t.tracker.detector d' = if d' = d then { s.tracker.detector d with openEpisode := none, release := 0 }
      else u.tracker.detector d' := fun d' => by
    rw [stands.tracker, tracker, closed]
    exact (detector_withTable _ _ _ d').trans (detector_setDetector _ d d' _)
  have still : OpenRecordAt d pre (recordSampled x b e) post u.tracker.table := by
    obtain ⟨-, source, opens, before⟩ := found
    exact ⟨table, source, opens, before⟩
  refine ⟨⟨?_, by simp [detectors], by simp [detectors], by simp [detectors], ?_⟩, by simp [detectors], fun d' other => ?_, ?_⟩
  · rw [stands.tracker, tracker]
    exact updateRecord_at still _
  · obtain ⟨other, alone⟩ := took.then stands
    refine ⟨fun d' differs opens => other d' differs ?_, fun all => alone fun d' differs => ?_⟩
    · rw [uTracker, others d' differs]
      exact opens
    · rw [uTracker, others d' differs]
      exact all d' differs
  · rw [detectors, if_neg other, uTracker, others d' other]
  · rw [stands.tracker, tracker]
    exact (setDetector_nextNumber _ _ _).trans number

theorem closingCause_cases (r : DetectorSettings) (n start uptime : Nat) :
    (r.releaseCount ≤ n → closingCause r n start uptime = some .released)
      ∧ (n < r.releaseCount → (r.maxDuration : Int) ≤ (uptime : Int) - start → closingCause r n start uptime = some .limit)
      ∧ (n < r.releaseCount → (uptime : Int) - start < r.maxDuration → closingCause r n start uptime = none) := by
  unfold closingCause
  refine ⟨fun released => if_pos released, fun few long => ?_, fun few short => ?_⟩
  · rw [if_neg (by omega), if_pos long]
  · rw [if_neg (by omega), if_neg (by omega)]

end

/-! ### What the hold machine's account leaves of its state -/

section
variable {s t : State} {d : DetectorId}

theorem HoldMoved.hold {h : HoldState} {timer : Option Nat} (moved : HoldMoved h timer s t) : t.policy.hold = h := by
  obtain ⟨-, ⟨-, hold, -⟩, -⟩ := moved
  exact hold

/-- An opening takes the hold machine to HOLDING, but for one that has lapsed (R47). -/
theorem HoldTookOpening.hold (took : HoldTookOpening s t) (running : s.policy.hold ≠ .lapsed) : t.policy.hold = .holding := by
  unfold HoldTookOpening at took
  cases hold : s.policy.hold with
  | idle | trailing =>
    simp only [hold] at took
    exact took.hold
  | holding =>
    simp only [hold] at took
    obtain ⟨policy, -⟩ := took
    rw [policy, hold]
  | lapsed => exact absurd hold running

/-- A closing never lapses the hold machine, and leaves it while the other episode is open (R47, R69). -/
theorem HoldTookClosing.hold (took : HoldTookClosing d s t) :
    (s.policy.hold ≠ .lapsed → t.policy.hold ≠ .lapsed)
      ∧ ((∃ d', d' ≠ d ∧ (s.tracker.detector d').openEpisode.isSome = true) → t.policy.hold = s.policy.hold) := by
  obtain ⟨others, alone⟩ := took
  by_cases some : ∃ d', d' ≠ d ∧ (s.tracker.detector d').openEpisode.isSome = true
  · obtain ⟨d', other, opens⟩ := some
    obtain ⟨policy, -⟩ := others d' other opens
    rw [policy]
    exact ⟨id, fun _ => rfl⟩
  · have taken := alone fun d' other => by
      by_contra opens
      exact some ⟨d', other, Option.isSome_iff_ne_none.mpr opens⟩
    refine ⟨fun running => ?_, fun yes => absurd yes some⟩
    cases hold : s.policy.hold with
    | holding =>
      simp only [hold] at taken
      by_cases now : s.policy.limits.releaseDelay = 0
      · simp only [now, if_true] at taken
        simp [taken.hold]
      · simp only [now, if_false] at taken
        simp [taken.hold]
    | lapsed => exact absurd hold running
    | idle | trailing =>
      simp only [hold] at taken
      obtain ⟨policy, -⟩ := taken
      simp [policy, hold]

end

/-! ### One event of an OPEN detector, wherever its record stands -/

/-- From s to t an event of the OPEN detector c has made its record r and its table's record e', the other detector, the numbering and
the clock as they stood; the hold machine does not lapse, and stands while the other episode is open (R66 to R69). -/
def OpenEventDone (c : DetectorId) (r : DetectorRecord) (e' : Episode) (pre post : List Episode) (s t : State) : Prop :=
  t.tracker.table = pre ++ e' :: post ∧ t.tracker.detector c = r ∧ (∀ d, d ≠ c → t.tracker.detector d = s.tracker.detector d)
    ∧ t.tracker.nextNumber = s.tracker.nextNumber ∧ t.uptime = s.uptime
    ∧ (s.policy.hold ≠ .lapsed → t.policy.hold ≠ .lapsed)
    ∧ ((∃ d, d ≠ c ∧ (s.tracker.detector d).openEpisode.isSome = true) → t.policy.hold = s.policy.hold)

/-- A record that an event has made of e: the same number and source; it stays OPEN with its detector, or both have ended. -/
def RecordFollows (uptime : Nat) (r : DetectorRecord) (e e' : Episode) : Prop :=
  e'.number = e.number ∧ (e'.ending = none ∧ r.openEpisode.isSome = true
    ∨ (∃ cause, e'.ending = some ⟨uptime, cause⟩) ∧ r.openEpisode = none)

section
variable {s t : State} {c : DetectorId}

theorem EpisodeClosed.done {cause : EndCause} {pre post : List Episode} {e : Episode} {s t : State}
    (closed : EpisodeClosed c cause pre e post s t) (others : ∀ d, d ≠ c → t.tracker.detector d = s.tracker.detector d)
    (number : t.tracker.nextNumber = s.tracker.nextNumber) (time : t.uptime = s.uptime) {r : DetectorRecord}
    (baseline : (t.tracker.detector c).baseline = r.baseline) (settings : (s.tracker.detector c).settings = r.settings)
    (released : r.release = 0) (quiet : r.openEpisode = none) :
    OpenEventDone c r { e with ending := some ⟨s.uptime, cause⟩ } pre post s t := by
  obtain ⟨table, none, release, same, took⟩ := closed
  refine ⟨table, ?_, others, number, time, took.hold.1, took.hold.2⟩
  rw [settings] at same
  rw [← released] at release
  rw [← quiet] at none
  cases h : t.tracker.detector c
  cases r
  simp only [h] at baseline none release same
  simp [baseline, none, release, same]

/-- What a sample makes of an OPEN detector and its record, wherever the record stands. -/
theorem sample_openEvent {x : Nat} (range : x ≤ if c = .pm then 1000 else 2000) (r₀ : DetectorRecord) {e : Episode} (uptime : Nat)
    (opens : e.ending = none) (opened : r₀.openEpisode.isSome = true) :
    ∃ r e', RecordFollows uptime r e e' ∧ ∀ s pre post, s.tracker.detector c = r₀ → s.uptime = uptime →
      OpenRecordAt c pre e post s.tracker.table →
      ∃ t, exec (.sample c.code x 0) s = .next t ∧ OpenEventDone c r e' pre post s t := by
  cases baseline : r₀.baseline with
  | none =>
    refine ⟨{ r₀ with baseline := some ((x : Int) * 16) }, e, ⟨rfl, .inl ⟨opens, opened⟩⟩, ?_⟩
    rintro s pre post rfl rfl ⟨table, -, -, -⟩
    obtain ⟨t, next, stands, -⟩ := sample_first range baseline
    refine ⟨t, next, ?_, ?_, fun d other => ?_, ?_, stands.uptime, fun running => ?_, fun _ => ?_⟩
    · rw [stands.tracker]
      exact (setDetector_table _ _ _).trans table
    · rw [stands.tracker]
      exact (detector_setDetector _ c c _).trans (if_pos rfl)
    · rw [stands.tracker]
      exact (detector_setDetector _ c d _).trans (if_neg other)
    · rw [stands.tracker]
      exact setDetector_nextNumber _ _ _
    · rw [stands.policy]
      exact running
    · rw [stands.policy]
      rfl
  | some b =>
    cases closes : closingCause r₀.settings (releaseByRules r₀ x b) e.start uptime with
    | none =>
      refine ⟨{ r₀ with release := releaseByRules r₀ x b }, recordSampled x b e, ⟨rfl, .inl ⟨opens, opened⟩⟩, ?_⟩
      rintro s pre post rfl rfl found
      obtain ⟨t, next, -, goesOn, -⟩ := sample_open range baseline opened found
      have stands := goesOn closes
      obtain ⟨table, own, others, number⟩ := sampling_fields found x b
      refine ⟨t, next, ?_, ?_, fun d other => ?_, ?_, stands.uptime, fun running => ?_, fun _ => ?_⟩
      · rw [stands.tracker]
        exact table
      · rw [stands.tracker]
        exact own
      · rw [stands.tracker]
        exact others d other
      · rw [stands.tracker]
        exact number
      · rw [stands.policy]
        exact running
      · rw [stands.policy]
        rfl
    | some cause =>
      refine ⟨{ r₀ with release := 0, openEpisode := none }, { recordSampled x b e with ending := some ⟨uptime, cause⟩ },
        ⟨rfl, .inr ⟨⟨_, rfl⟩, rfl⟩⟩, ?_⟩
      rintro s pre post rfl rfl found
      obtain ⟨t, next, -, -, ends⟩ := sample_open range baseline opened found
      have stands := ends cause closes
      obtain ⟨closed, kept, others, number⟩ := sample_closed found x b cause stands
      exact ⟨t, next, closed.done others number (stands.uptime.trans (by simp [sampleGathered, sampleReaches, State.setChannel])) kept rfl
        rfl rfl⟩

/-- What the lost time's expiry makes of an OPEN detector and its record, wherever the record stands (R68, R83). -/
theorem loss_openEvent {ch : Channel} (watches : ch.code = c.code) (q : ChannelRecord) (r₀ : DetectorRecord) {e : Episode} (uptime : Nat)
    (opens : e.ending = none) (opened : r₀.openEpisode.isSome = true) :
    ∃ r e', RecordFollows uptime r e e' ∧ ∀ s pre post, s.tracker.detector c = r₀ → s.uptime = uptime → s.channels.get ch = q →
      OpenRecordAt c pre e post s.tracker.table → ∃ t, exec (.lostExpiry ch) s = .next t ∧ OpenEventDone c r e' pre post s t := by
  by_cases still : q.state = .none ∨ q.state = .lost
  · refine ⟨r₀, e, ⟨rfl, .inl ⟨opens, opened⟩⟩, ?_⟩
    rintro s pre post rfl rfl rfl ⟨table, -⟩
    have nothing : lostExpired ch s = s := by rcases still with h | h <;> simp [lostExpired, h]
    exact ⟨s, congrArg Host.Outcome.next nothing, table, rfl, fun _ _ => rfl, rfl, rfl, id, fun _ => rfl⟩
  · refine ⟨{ r₀ with baseline := none, release := 0, openEpisode := none }, { e with ending := some ⟨uptime, .channelLost⟩ },
      ⟨rfl, .inr ⟨⟨_, rfl⟩, rfl⟩⟩, ?_⟩
    rintro s pre post rfl rfl rfl found
    set u := s.setChannel ch { s.channels.get ch with ageMs := some ((s.channels.get ch).lostTime * 1000) } with u_def
    have runs : lostExpired ch s = enterLost ch u := by
      cases state : (s.channels.get ch).state <;> simp [state] at still <;> simp [lostExpired, state, u_def]
    have follows : LostFollows ch s (enterLost ch u) := enterLost_follows ch u
    obtain ⟨-, -, -, -, -, lost⟩ := follows
    obtain ⟨baseline, -, others, number, -, ends⟩ := lost c watches
    have closed := ends pre e post found opened
    refine ⟨enterLost ch u, congrArg Host.Outcome.next runs, closed.done others number ?_ baseline rfl rfl rfl⟩
    simp [u_def, State.setChannel]


end

/-! ### The two orders -/

section
variable {s t : State} {c d : DetectorId}

/-- An eviction passes over OPEN records (R62). -/
theorem evict_skip {l : List Episode} (opens : ∀ p ∈ l, p.ending = none) (post : List Episode) :
    evictOldestClosed (l ++ post) = l ++ evictOldestClosed post := by
  induction l with
  | nil => rfl
  | cons p l ih => simp [evictOldestClosed, opens p (by simp), ih fun q mem => opens q (by simp [mem])]

theorem sample_stands {x : Nat} (next : exec (.sample d.code x 0) s = .next t) :
    t.uptime = s.uptime ∧ ∀ c', c' ≠ d.channel → t.channels.get c' = s.channels.get c' := by
  have code : d.code = d.channel.code := by cases d <;> rfl
  rw [code, takeSample_good] at next
  cases next
  exact ⟨by simp, (acceptSample_record _ _ _).2.2⟩

/-- The detector of an OPEN record is OPEN (R57, R60). -/
theorem EpisodesSound.opened (sound : EpisodesSound s) {pre post : List Episode} {e : Episode}
    (found : OpenRecordAt c pre e post s.tracker.table) : (s.tracker.detector c).openEpisode.isSome = true := by
  obtain ⟨-, -, named⟩ := sound
  obtain ⟨table, source, opens, -⟩ := found
  have stands : e ∈ s.tracker.table.filter fun e => decide (e.source = c) && e.ending.isNone := by
    rw [table]
    simp [source, opens]
  by_contra none
  rw [Option.not_isSome_iff_eq_none] at none
  have empty := named c
  rw [none, Option.toList_none, List.map_eq_nil_iff] at empty
  simp [empty] at stands

/-- What one event of the OPEN detector c makes, wherever its record stands. -/
theorem openEvent {ch : Channel} {other : Instr} {x : Nat} (watches : ch.code = c.code) (range : x ≤ if c = .pm then 1000 else 2000)
    (which : other = .sample c.code x 0 ∨ other = .lostExpiry ch) (q : ChannelRecord) (r₀ : DetectorRecord) {e : Episode} (uptime : Nat)
    (opens : e.ending = none) (opened : r₀.openEpisode.isSome = true) :
    ∃ r e', RecordFollows uptime r e e' ∧ ∀ s pre post, s.tracker.detector c = r₀ → s.uptime = uptime → s.channels.get ch = q →
      OpenRecordAt c pre e post s.tracker.table → ∃ t, exec other s = .next t ∧ OpenEventDone c r e' pre post s t := by
  rcases which with rfl | rfl
  · obtain ⟨r, e', follows, event⟩ := sample_openEvent range r₀ uptime opens opened
    exact ⟨r, e', follows, fun s pre post detector time _ => event s pre post detector time⟩
  · exact loss_openEvent watches q r₀ uptime opens opened

/-- The record that detector d's opening on the sample y adds (R65). -/
def openedRecord (d : DetectorId) (y : Nat) (b : Int) (s : State) : Episode :=
  { number := s.tracker.nextNumber, source := d, start := s.uptime, ending := none, peak := y, baselineAtOpen := b / 16,
    dose := saturatingAdd max32 0 (excess ((y : Int) * 16) b) }

theorem opening_table (d : DetectorId) (y : Nat) (b : Int) (s : State) :
    (s.tracker.opening d y ((y : Int) * 16) b s.uptime).table = joinTable (openedRecord d y b s) s.tracker.table := rfl

/-- An event of the OPEN detector c before or after an opening of detector d, d's state the same at both (R74). -/
theorem orders_meet {ch : Channel} {other : Instr} {x y : Nat} {b : Int} {pre post : List Episode} {e : Episode} (differ : c ≠ d)
    (watches : ch.code = c.code) (rangeX : x ≤ if c = .pm then 1000 else 2000) (rangeY : y ≤ if d = .pm then 1000 else 2000)
    (which : other = .sample c.code x 0 ∨ other = .lostExpiry ch) (baseline : (s.tracker.detector d).baseline = some b)
    (quiet : (s.tracker.detector d).openEpisode = none)
    (tests : (s.tracker.detector d).settings.opens ((y : Int) * 16) b = true) (sound : EpisodesSound s)
    (found : OpenRecordAt c pre e post s.tracker.table) :
    ∃ t t' u u' r e', exec other s = .next t ∧ exec (.sample d.code y 0) t = .next t' ∧ exec (.sample d.code y 0) s = .next u
      ∧ exec other u = .next u' ∧ RecordFollows s.uptime r e e' ∧ t.tracker.detector c = r
      ∧ (∀ k : DetectorId, t'.tracker.detector k = u'.tracker.detector k) ∧ t'.tracker.nextNumber = u'.tracker.nextNumber
      ∧ t'.tracker.table = joinTable (openedRecord d y b s) (pre ++ e' :: post)
      ∧ (∀ pre' post', joinTable (openedRecord d y b s) (pre ++ e :: post) = pre' ++ e :: post' →
          (∀ p ∈ pre', p.source = c → p.ending.isSome = true) → u'.tracker.table = pre' ++ e' :: post')
      ∧ (s.policy.hold ≠ .lapsed → t'.policy.hold = .holding ∧ u'.policy.hold = .holding) := by
  have opened := sound.opened found
  have ⟨table, source, opens, before⟩ := found
  obtain ⟨r, e', follows, event⟩ := openEvent watches rangeX which (s.channels.get ch) (s.tracker.detector c) s.uptime opens opened
  obtain ⟨t, nextT, tableT, recordT, othersT, numberT, timeT, runsT, -⟩ := event s pre post rfl rfl rfl found
  have dT : t.tracker.detector d = s.tracker.detector d := othersT d (Ne.symm differ)
  obtain ⟨t', nextT', trackerT', -, -, tookT'⟩ := sample_opens (s := t) rangeY (by rw [dT]; exact baseline) (by rw [dT]; exact quiet)
    (by rw [dT]; exact tests)
  obtain ⟨u, nextU, trackerU, -, -, tookU⟩ := sample_opens rangeY baseline quiet tests
  obtain ⟨timeU, channelsU⟩ := sample_stands nextU
  obtain ⟨ownT, restT, numberT'⟩ := opening_fields d (y : Int) ((y : Int) * 16) b t.uptime t.tracker
  obtain ⟨ownU, restU, numberU⟩ := opening_fields d (y : Int) ((y : Int) * 16) b s.uptime s.tracker
  have apart : ch ≠ d.channel := fun same => differ (by
    rw [same] at watches
    cases c <;> cases d <;> simp [DetectorId.channel, Channel.code, DetectorId.code] at watches ⊢)
  obtain ⟨pre', post', sub, joined, -⟩ := joinTable_order (e := openedRecord d y b s) (x := e) (x' := e) (pre := pre) (post := post)
    (.inr (.inr ⟨opens, opens⟩))
  have closed : ∀ p ∈ pre', p.source = c → p.ending.isSome = true := fun p mem => before p (sub.subset mem)
  have foundU : ∀ pre' post', joinTable (openedRecord d y b s) (pre ++ e :: post) = pre' ++ e :: post' →
      (∀ p ∈ pre', p.source = c → p.ending.isSome = true) → OpenRecordAt c pre' e post' u.tracker.table :=
    fun _ _ joined closed => ⟨by rw [trackerU, opening_table, table]; exact joined, source, opens, closed⟩
  have sameU : u.tracker.detector c = s.tracker.detector c := by
    rw [trackerU]
    exact restU c differ
  obtain ⟨u', nextU', -, recordU', othersU', numberU', -, -, holdU'⟩ :=
    event u pre' post' sameU timeU (channelsU ch apart) (foundU pre' post' joined closed)
  refine ⟨t, t', u, u', r, e', nextT, nextT', nextU, nextU', follows, recordT, fun k => ?_, ?_, ?_,
    fun pre'' post'' joined closed => ?_, fun running => ⟨tookT'.hold (runsT running), ?_⟩⟩
  · by_cases own : k = c
    · rw [own, recordU', trackerT', restT c differ, recordT]
    · rw [othersU' k own, trackerT', trackerU]
      by_cases opener : k = d
      · rw [opener, ownT, ownU, dT, numberT]
      · rw [restT k opener, restU k opener, othersT k own]
  · rw [trackerT', numberT', numberU', trackerU, numberU, numberT]
  · have same : openedRecord d y b t = openedRecord d y b s := by simp [openedRecord, numberT, timeT]
    rw [trackerT', opening_table, same, tableT]
  · obtain ⟨u'', nextU'', tableU'', -⟩ := event u pre'' post'' sameU timeU (channelsU ch apart) (foundU pre'' post'' joined closed)
    rw [nextU'] at nextU''
    cases nextU''
    exact tableU''
  · rw [holdU' ⟨d, Ne.symm differ, by rw [trackerU, ownU]; rfl⟩]
    exact tookU.hold running

end

/-! ### The next number -/

section
variable {s t : State}

/-- The next number stands from s to t. -/
def NumberStands (s t : State) : Prop := t.tracker.nextNumber = s.tracker.nextNumber

theorem NumberStands.of_tracker (same : t.tracker = s.tracker) : NumberStands s t := congrArg Tracker.nextNumber same

theorem enterLost_number (c : Channel) (s : State) : NumberStands s (enterLost c s) := by
  set u := raise (.sensorLost [c]) (s.setChannel c { s.channels.get c with state := .lost }) with u_def
  have loss : NumberStands u (consumeLoss c u) := by
    obtain ⟨detected, margin⟩ := consumeLoss_eq c u
    rcases detector_or_margin c with ⟨d, code, -⟩ | ⟨notPm, notGas⟩
    · rw [detected d code]
      obtain ⟨-, -, -, number, -⟩ := detectorLost_closed d u
      exact number
    · rw [margin notPm notGas]
      exact .of_tracker (by simp)
  have tracker : (enterLost c s).tracker = (consumeLoss c u).tracker := by simp [enterLost, u_def]
  rw [NumberStands, tracker, loss]
  simp [u_def, State.setChannel]

theorem lostExpired_cases (c : Channel) (s : State) :
    lostExpired c s = enterLost c (s.setChannel c { s.channels.get c with ageMs := some ((s.channels.get c).lostTime * 1000) })
      ∨ lostExpired c s = s := by
  cases state : (s.channels.get c).state <;> simp [lostExpired, state]

theorem staleExpired_cases (c : Channel) (s : State) :
    staleExpired c s = lostExpired c s ∨ (∃ r, staleExpired c s = s.setChannel c r) ∨ staleExpired c s = s := by
  cases state : (s.channels.get c).state with
  | live =>
    by_cases same : (s.channels.get c).lostTime = (s.channels.get c).staleTime
    · exact .inl (by simp [staleExpired, state, same])
    · exact .inr (.inl ⟨_, by simp only [staleExpired, state, same, if_false]; rfl⟩)
  | none | stale | lost => exact .inr (.inr (by simp [staleExpired, state]))

theorem lostExpired_number (c : Channel) (s : State) : NumberStands s (lostExpired c s) := by
  rcases lostExpired_cases c s with runs | stands
  · rw [runs]
    exact enterLost_number c (s.setChannel c _)
  · rw [stands]
    rfl

theorem staleExpired_number (c : Channel) (s : State) : NumberStands s (staleExpired c s) := by
  rcases staleExpired_cases c s with runs | ⟨r, runs⟩ | stands
  · rw [runs]
    exact lostExpired_number c s
  · rw [runs]
    rfl
  · rw [stands]
    rfl

theorem storeChannel_number (c : Channel) (substitute : Option Int) (stale lost : Nat) (s : State) :
    NumberStands s (storeChannel c substitute stale lost s) := by
  cases on : (s.channels.get c).onSubstitute with
  | true =>
    by_cases same : substitute = (s.channels.get c).substitute
    · rw [storeChannel_same on same]
      rfl
    · rw [storeChannel_changed on same]
      exact .of_tracker (by simp [State.setChannel])
  | false =>
    by_cases state : ((s.channels.get c).restated substitute stale lost).state = .lost
    · rw [storeChannel_loses on state]
      exact enterLost_number c (s.setChannel c _)
    · rw [storeChannel_runs on state]
      rfl

theorem serveChannel_number (f : ChannelFields) (s : State) : NumberStands s (serveChannel f s) := by
  unfold serveChannel
  split
  · next c _ =>
    dsimp only
    have stored := storeChannel_number c (substituteOf c f.substitute) (field 1 60 f.staleTime)
      (field (field 1 60 f.staleTime) 600 f.lostTime) s
    simpa [NumberStands] using stored
  · exact .of_tracker (by simp)

theorem serveDetector_number (f : DetectorFields) (s : State) : NumberStands s (serveDetector f s) := by
  unfold serveDetector
  split <;> simp [NumberStands, storeDetector]

theorem serveRequest_number (r : Request) (s : State) : NumberStands s (serveRequest r s) := by
  cases r
  case channel f => exact serveChannel_number f s
  case detector f => exact serveDetector_number f s
  all_goals exact .of_tracker (by simp [serveRequest])

theorem serveHead_number (s : State) : NumberStands s (serveHead s) := by
  unfold serveHead
  split
  · split
    · exact serveRequest_number _ s
    · rfl
  · rfl

theorem deliverFrame_number (r : Request) (s : State) : NumberStands s (deliverFrame r s) := by
  unfold deliverFrame joinQueue
  split
  · exact serveHead_number _
  · rfl

theorem receiveByte_number (b : Byte) (s : State) : NumberStands s (receiveByte b s) := by
  unfold receiveByte
  split
  · split <;> rfl
  · split <;> rfl
  · rfl
  · rfl
  · rfl
  · split
    · exact deliverFrame_number _ s
    · rfl

theorem receiveBytes_number (bytes : List LineByte) (s : State) : NumberStands s (receiveBytes bytes s) := by
  unfold receiveBytes
  induction bytes generalizing s with
  | nil => rfl
  | cons b bytes ih =>
    refine (ih (takeLineByte s b)).trans ?_
    cases b with
    | framed b => exact receiveByte_number b s
    | noStop => rfl

theorem scanEnds_number (s : State) : NumberStands s (scanEnds s) := by
  unfold scanEnds
  split
  · exact (serveHead_number (endScan s)).trans (NumberStands.of_tracker (by simp))
  · rfl

/-- No command but a sample, a reset and the end of a reply moves the next number (R61). -/
theorem exec_number {c : Instr} (next : exec c s = .next t) (notSample : ∀ code raw quality, c ≠ .sample code raw quality)
    (notReset : ∀ lines cut, c ≠ .powerOnReset lines cut) (notSent : c ≠ .replySent) : NumberStands s t := by
  cases request : requestOf c with
  | some r =>
    rw [exec_request s request] at next
    cases next
    exact deliverFrame_number r s
  | none =>
    cases c
    case powerOnReset lines cut => exact absurd rfl (notReset lines cut)
    case sample code raw quality => exact absurd rfl (notSample code raw quality)
    case replySent => exact absurd rfl notSent
    case receiveFrame bytes => cases next; exact receiveBytes_number bytes s
    case gapTimeout => cases next; exact .of_tracker (by simp)
    case fposRead reading =>
      cases next
      cases reading with
      | none => rfl
      | some x =>
        have runs := acceptSample_eq .fpos x s
        exact .of_tracker ((congrArg State.tracker runs).trans (by simp [consumeSample, sampleStored, State.setChannel]))
    case staleExpiry ch => cases next; exact staleExpired_number ch s
    case lostExpiry ch => cases next; exact lostExpired_number ch s
    case scanEnd => cases next; exact scanEnds_number s
    case uptimeTick => cases next; rfl
    all_goals first
      | (cases next; exact .of_tracker (by simp))
      | simp [requestOf] at request

end

theorem resetModule_number (kind : ResetKind) (lines : ResetLines) (flash : Flash) (s : State) :
    (resetModule kind lines flash s).tracker.nextNumber = 1 := by
  unfold resetModule standingLines
  have start : (State.resetWith kind lines flash s.freeCount s.pending).tracker.nextNumber = 1 := rfl
  dsimp only
  split <;> split <;> simp [start]

/-- A move of the baseline by a 64th (R64). -/
theorem opens_false {r : DetectorSettings} {x : Nat} {b : Int} (level : x < r.level) (jump : (x : Int) * 16 < b + r.jump * 16) :
    r.opens ((x : Int) * 16) b = false := by
  rw [Bool.eq_false_iff]
  intro opens
  rcases (opens_iff r x b).mp opens with high | steep <;> omega

/-- Settles O39: the sample's cases at its detector, the two orders, and the commands that move the next number. -/
theorem episodeNumbered : Obligations.EpisodeNumbered := by
  refine ⟨rfl, fun d x s range b baseline quiet tests => ?_, fun d x s range unset => ?_,
    fun d x s range b baseline quiet low flat => ?_, fun d x s range b baseline opened pre e post found n count => ?_,
    fun c d ch other x y s differ watches rangeX rangeY which b baseline quiet tests sound pre e post found => ?_,
    fun c s t next notSample notReset notSent => exec_number next notSample notReset notSent, fun s t sending head next => ?_,
    fun lines cut s t next => ?_⟩
  · obtain ⟨t, next, tracker, pends, tally, took⟩ := sample_opens range baseline quiet ((opens_iff _ x b).mpr tests)
    obtain ⟨own, others, number⟩ := opening_fields d x ((x : Int) * 16) b s.uptime s.tracker
    obtain ⟨kept, joined, room⟩ := joinTable_room (openedRecord d x b s) s.tracker.table
    have sub : kept.Sublist s.tracker.table := by
      obtain ⟨kept', joined', sub, -⟩ := joinTable_eq (openedRecord d x b s) s.tracker.table
      rwa [List.append_cancel_right (joined.symm.trans joined')]
    rw [← tracker] at own others number
    refine ⟨t, kept, next, own, number, ?_, sub, room, pends, others, tally, took⟩
    rw [tracker, opening_table, joined]
    simp [openedRecord, saturatingAdd_eq, max32, excess]
  · obtain ⟨t, next, stands, tally⟩ := sample_first range unset
    have tracker : t.tracker = s.tracker.setDetector d { s.tracker.detector d with baseline := some ((x : Int) * 16) } := stands.tracker
    refine ⟨t, next, ?_, fun d' other => ?_, ?_, ?_, tally, stands.policy, stands.timers, stands.flap, stands.blower⟩
    · rw [tracker, detector_setDetector, if_pos rfl]
    · rw [tracker, detector_setDetector, if_neg other]
    · rw [tracker, setDetector_table]
    · rw [tracker, setDetector_nextNumber]
  · obtain ⟨t, next, stands, tally⟩ := sample_moves range baseline quiet (opens_false low flat)
    have tracker : t.tracker = s.tracker.setDetector d
        { s.tracker.detector d with baseline := some (b + Int.tdiv ((x : Int) * 16 - b) 64) } := stands.tracker
    refine ⟨t, next, ?_, fun d' other => ?_, ?_, ?_, tally, stands.policy, stands.timers, stands.flap, stands.blower⟩
    · rw [tracker, detector_setDetector, if_pos rfl]
    · rw [tracker, detector_setDetector, if_neg other]
    · rw [tracker, setDetector_table]
    · rw [tracker, setDetector_nextNumber]
  · obtain ⟨t, next, tally, goesOn, closes⟩ := sample_open range baseline opened found
    rw [← count] at goesOn closes
    obtain ⟨released, limit, neither⟩ := closingCause_cases (s.tracker.detector d).settings n e.start s.uptime
    have ends := fun cause (h : closingCause (s.tracker.detector d).settings n e.start s.uptime = some cause) =>
      sample_closed found x b cause (closes cause h)
    obtain ⟨table, own, others, number⟩ := sampling_fields found x b
    have stays : closingCause (s.tracker.detector d).settings n e.start s.uptime = none →
        t.tracker = s.tracker.sampling d x ((x : Int) * 16) b := fun h => (goesOn h).tracker
    have all : (∀ d', d' ≠ d → t.tracker.detector d' = s.tracker.detector d') ∧ t.tracker.nextNumber = s.tracker.nextNumber
        ∧ (t.tracker.detector d).baseline = some b := by
      cases h : closingCause (s.tracker.detector d).settings n e.start s.uptime with
      | none =>
        rw [stays h]
        exact ⟨others, number, by rw [own]; exact baseline⟩
      | some cause =>
        obtain ⟨-, kept, others, number⟩ := ends cause h
        exact ⟨others, number, kept.trans baseline⟩
    refine ⟨t, next, all.1, all.2.1, tally, all.2.2, fun enough => (ends _ (released enough)).1,
      fun few long => (ends _ (limit few long)).1, fun few short => ?_⟩
    have stands := goesOn (neither few short)
    rw [stays (neither few short)]
    exact ⟨table, by rw [own, count], stands.policy, stands.timers, stands.flap, stands.blower⟩
  · obtain ⟨t, t', u, u', r, e', nextT, nextT', nextU, nextU', ⟨same, ended⟩, record, detectors, number, tableT,
      tableU, hold⟩ :=
      orders_meet differ watches rangeX rangeY which baseline quiet ((opens_iff _ y b).mpr tests) sound found
    have ⟨table, source, opens, closed⟩ := found
    refine ⟨t, t', u, u', nextT, nextT', nextU, nextU', detectors, number, fun room => ?_, fun full ahead quietC => ?_, hold⟩
    · obtain ⟨pre', post', sub, joined, joined'⟩ := joinTable_order (e := openedRecord d y b s) (x := e) (x' := e') (pre := pre)
        (post := post) (by
          rw [← table]
          refine room.imp_right (Or.imp_right fun still => ⟨opens, ?_⟩)
          rcases ended with ⟨none, -⟩ | ⟨-, quiet⟩
          · exact none
          · rw [record, quiet] at still
            cases still)
      rw [tableT, joined', tableU pre' post' joined fun p mem => closed p (sub.subset mem)]
    · rcases ended with ⟨-, opened⟩ | ⟨⟨cause, ending⟩, -⟩
      · rw [← record, quietC] at opened
        cases opened
      refine ⟨e', openedRecord d y b s, same, ⟨cause, ending⟩, rfl, ?_, fun mid q post' split openMid closedQ => ?_⟩
      · have long : ¬(pre ++ e' :: post).length < 16 := by
          rw [table] at full
          simpa using full
        rw [tableT, joinTable, if_neg long, evict_eq ahead (by simp [ending])]
      · have long : ¬(pre ++ e :: post).length < 16 := by
          rw [table] at full
          simpa using full
        rw [tableU pre (mid ++ post' ++ [openedRecord d y b s]) ?_ closed]
        · simp
        · have first : evictOldestClosed (mid ++ q :: post') = mid ++ post' := evict_eq openMid closedQ
          have skips : evictOldestClosed (e :: (mid ++ q :: post')) = e :: (mid ++ post') := by
            simp [evictOldestClosed, opens, first]
          rw [joinTable, if_neg long, split, evict_skip ahead, skips]
          simp
  · have leaves : t = restartReset s := by
      rw [← replyLeaves_restart sending head]
      cases next
      rfl
    rw [leaves]
    exact resetModule_number _ _ _ _
  · cases next
    exact resetModule_number _ _ _ _

end Sys2Proof.Machine
end

section
/-! One millisecond of the time base: the second, and the clocks where nothing comes due (R105, log 2), with the obligation O3. -/

namespace Sys2Proof.Machine

section
variable {s : State}

/-- Only the second moves the uptime (R105). -/
theorem millisecond_second (s : State) :
    (millisecond s).uptime = (dueSecond (advanceClocks s)).uptime ∧ (millisecond s).secondMs = (dueSecond (advanceClocks s)).secondMs := by
  simp [millisecond, runDue]

/-! ### Where nothing comes due -/

theorem dueSecond_not (early : s.secondMs < 1000) : dueSecond s = s := if_neg (by omega)

theorem dueScan_not (early : s.journal.state = .scanning → s.journal.scanMs < 2000) : dueScan s = s := by
  unfold dueScan
  split
  · next late =>
    rw [scanEnds, if_neg]
    intro scanning
    have := early scanning
    omega
  · rfl

theorem dueGap_not (early : s.link.receiver ≠ .hunt → s.link.gapMs < 20) : dueGap s = s := by
  unfold dueGap
  split
  · next late =>
    have hunt : s.link.receiver = .hunt := by
      by_contra other
      have := early other
      omega
    simp [gapPassed, hunt]
  · rfl

theorem dueDebounce_not {d : Door} (early : ∀ b, (s.drive.door d).debounce = some b → b.ms < 50) : dueDebounce d s = s := by
  cases runs : (s.drive.door d).debounce with
  | none => simp [dueDebounce, runs]
  | some b =>
    have := early b runs
    simp [dueDebounce, runs, Nat.not_le.mpr this]

theorem dueDriveStale_not (early : s.drive.freshness = .fresh → s.drive.ageMs < 5000) : dueDriveStale s = s := by
  unfold dueDriveStale
  split
  · next late =>
    cases fresh : s.drive.freshness with
    | fresh =>
      have := early fresh
      omega
    | _ => simp [driveStale, fresh]
  · rfl

theorem dueDriveSilent_not (early : s.drive.freshness = .fresh ∨ s.drive.freshness = .stale → s.drive.ageMs < 30000) :
    dueDriveSilent s = s := by
  unfold dueDriveSilent
  split
  · next late =>
    cases fresh : s.drive.freshness with
    | fresh | stale =>
      have := early (by simp [fresh])
      omega
    | _ => simp [driveSilent, fresh]
  · rfl

/-- No expiry of a channel's age is due (R82, R83). -/
def ChannelRecord.NotDue (r : ChannelRecord) : Prop :=
  (r.state = .live → r.ageMs.getD 0 < r.staleTime * 1000)
    ∧ (r.state = .live ∨ r.state = .stale → r.ageMs.getD 0 < r.lostTime * 1000)

theorem dueChannel_not {c : Channel} (early : (s.channels.get c).NotDue) : dueChannel c s = s := by
  obtain ⟨live, running⟩ := early
  unfold dueChannel
  dsimp only
  cases state : (s.channels.get c).state with
  | live =>
    rw [if_neg (Nat.not_le.mpr (running (.inl state))), if_neg (Nat.not_le.mpr (live state))]
  | stale =>
    rw [if_neg (Nat.not_le.mpr (running (.inr state)))]
    simp [staleExpired, state]
  | none | lost => simp [lostExpired, staleExpired, state]

theorem dueChannels_not (early : ∀ c, (s.channels.get c).NotDue) : dueChannels s = s := by
  have each : ∀ l : List Channel, l.foldl (fun t c => dueChannel c t) s = s := fun l => by
    induction l with
    | nil => rfl
    | cons c l ih => rw [List.foldl_cons, dueChannel_not (early c), ih]
  exact each _

theorem dueDrive_not (early : ∀ d, s.flap.driveInFlight = some d → d.elapsed < d.duration) : dueDrive s = s := by
  cases runs : s.flap.driveInFlight with
  | none => simp [dueDrive, runs]
  | some d => simp [dueDrive, runs, Nat.not_le.mpr (early d runs)]

theorem dueMove_not (early : ∀ m, s.flap.moveTimer = some m → m.elapsed < m.limit) : dueMove s = s := by
  cases runs : s.flap.moveTimer with
  | none => simp [dueMove, runs]
  | some m => simp [dueMove, runs, Nat.not_le.mpr (early m runs)]

theorem dueEst_not (early : s.timers.est ≠ some 0) : dueEst s = s := if_neg early

theorem dueDec_not (early : s.timers.dec ≠ some 0) : dueDec s = s := if_neg early

theorem dueHold_not (early : s.timers.hold ≠ some 0) : dueHold s = s := if_neg early

theorem duePurge_not (early : s.timers.purge ≠ some 0) : duePurge s = s := if_neg early

/-! ### The clocks -/

theorem channelRecord_aged_eq (r : ChannelRecord) : r.aged = { r with
    ageMs := if r.state = .live ∨ r.state = .stale then r.ageMs.map (· + 1) else r.ageMs } := by
  cases state : r.state <;> simp [ChannelRecord.aged, state] <;> cases r <;> simp_all

/-- A channel whose age may run a millisecond more is not due in that millisecond. -/
theorem channelRecord_aged_notDue {r : ChannelRecord} (live : r.state = .live → r.ageMs.getD 0 + 1 < r.staleTime * 1000)
    (running : r.state = .live ∨ r.state = .stale → r.ageMs.getD 0 + 1 < r.lostTime * 1000) : r.aged.NotDue := by
  have age : r.aged.ageMs.getD 0 ≤ r.ageMs.getD 0 + 1 := by
    rw [channelRecord_aged_eq]
    cases r.ageMs <;> simp
    split <;> simp
  have kept : r.aged.state = r.state ∧ r.aged.staleTime = r.staleTime ∧ r.aged.lostTime = r.lostTime := by
    rw [channelRecord_aged_eq]
    exact ⟨rfl, rfl, rfl⟩
  obtain ⟨state, stale, lost⟩ := kept
  unfold ChannelRecord.NotDue
  rw [state, stale, lost]
  exact ⟨fun yes => lt_of_le_of_lt age (live yes), fun yes => lt_of_le_of_lt age (running yes)⟩

theorem drive_aged_eq (d : Drive) : d.aged = { d with
    drv := { d.drv with debounce := d.drv.debounce.map fun b => { b with ms := b.ms + 1 } },
    krb := { d.krb with debounce := d.krb.debounce.map fun b => { b with ms := b.ms + 1 } },
    ageMs := if d.freshness = .fresh ∨ d.freshness = .stale then d.ageMs + 1 else d.ageMs } := by
  cases fresh : d.freshness <;> simp [Drive.aged, DoorRecord.aged, fresh]

theorem link_aged_eq (l : Link) : l.aged = { l with gapMs := if l.receiver = .hunt then l.gapMs else l.gapMs + 1 } := by
  obtain ⟨receiver, gap, queue, holding, sending, dropped, badFrame, last⟩ := l
  cases receiver <;> simp [Link.aged]

theorem journal_aged_eq (j : Journal) : j.aged = { j with scanMs := if j.state = .scanning then j.scanMs + 1 else j.scanMs } := by
  cases state : j.state <;> simp [Journal.aged, state] <;> cases j <;> simp_all

/-- The flap's clocks, where the drive in flight has more than a millisecond to run. -/
theorem flap_aged_eq {f : Flap} (early : ∀ d, f.driveInFlight = some d → d.elapsed + 1 < d.duration) : f.aged = { f with
    moveTimer := f.moveTimer.map fun m => { m with elapsed := m.elapsed + 1 },
    driveInFlight := f.driveInFlight.map fun d => { d with elapsed := d.elapsed + 1 } } := by
  cases runs : f.driveInFlight with
  | none => simp [Flap.aged, runs]
  | some d =>
    have := early d runs
    simp [Flap.aged, runs]
    omega

/-- A timer that has more than a millisecond to run does not come to 0 in it. -/
theorem timer_aged {n : Option Nat} (early : ∀ m, n = some m → 1 < m) : n.map (· - 1) ≠ some 0 := by
  cases n with
  | none => simp
  | some m =>
    have := early m rfl
    simp
    omega

/-- Where nothing comes due, a millisecond only moves the clocks. -/
theorem millisecond_nothingDue (nothing : NothingDue s) : millisecond s = advanceClocks s := by
  obtain ⟨second, scan, gap, debounce, fresh, stale, live, running, est, dec, hold, purge, move, drive⟩ := nothing
  set t := advanceClocks s with t_def
  have ⟨channels, drives, timers, flap, link, journal, ms⟩ : t.channels = s.channels.aged ∧ t.drive = s.drive.aged
      ∧ t.timers = s.timers.aged ∧ t.flap = s.flap.aged ∧ t.link = s.link.aged ∧ t.journal = s.journal.aged
      ∧ t.secondMs = s.secondMs + 1 := ⟨rfl, rfl, rfl, rfl, rfl, rfl, rfl⟩
  have doors : ∀ d b, (t.drive.door d).debounce = some b → b.ms < 50 := by
    intro d b runs
    rw [drives, drive_aged_eq] at runs
    have earlier : ∃ b', (s.drive.door d).debounce = some b' ∧ b.ms = b'.ms + 1 := by
      cases d <;> simp only [Drive.door, Option.map_eq_some_iff] at runs ⊢ <;>
        (obtain ⟨b', found, rfl⟩ := runs; exact ⟨b', found, rfl⟩)
    obtain ⟨b', found, count⟩ := earlier
    have := debounce d b' found
    omega
  have age : t.drive.freshness = s.drive.freshness
      ∧ (s.drive.freshness = .fresh ∨ s.drive.freshness = .stale → t.drive.ageMs = s.drive.ageMs + 1) := by
    rw [drives, drive_aged_eq]
    exact ⟨rfl, fun runs => if_pos runs⟩
  unfold millisecond runDue
  rw [← t_def, dueSecond_not (by omega), dueScan_not, dueGap_not, dueDebounce_not (doors .drv), dueDebounce_not (doors .krb),
    dueDriveStale_not, dueDriveSilent_not, dueChannels_not, dueDrive_not, dueMove_not, dueEst_not, dueDec_not, dueHold_not, duePurge_not]
  · rw [timers]
    exact timer_aged purge
  · rw [timers]
    exact timer_aged hold
  · rw [timers]
    exact timer_aged dec
  · rw [timers]
    exact timer_aged est
  · rw [flap, flap_aged_eq drive]
    simp only [Option.map_eq_some_iff]
    rintro m ⟨m', found, rfl⟩
    exact move m' found
  · rw [flap, flap_aged_eq drive]
    simp only [Option.map_eq_some_iff]
    rintro d ⟨d', found, rfl⟩
    exact drive d' found
  · intro c
    rw [channels, channels_aged_get]
    exact channelRecord_aged_notDue (live c) (running c)
  · intro runs
    rw [age.1] at runs
    rw [age.2 runs]
    rcases runs with h | h
    · have := fresh h
      omega
    · exact stale h
  · intro runs
    rw [age.1] at runs
    rw [age.2 (.inl runs)]
    exact fresh runs
  · rw [link, link_aged_eq]
    intro other
    simpa [show s.link.receiver ≠ .hunt from other] using gap other
  · rw [journal, journal_aged_eq]
    intro scanning
    simpa [show s.journal.state = .scanning from scanning] using scan scanning

end

/-- Settles O3: the second by `dueSecond`, and the clocks where nothing comes due. -/
theorem idleStepIsMillisecond : Obligations.IdleStepIsMillisecond := by
  intro s idle
  have runs : step s = .next (millisecond s) := by simp [step, idle]
  obtain ⟨uptime, ms⟩ := millisecond_second s
  have clock : (advanceClocks s).secondMs = s.secondMs + 1 := rfl
  refine ⟨millisecond s, runs, by simp [idle], by simp, fun early => ?_, fun late => ?_, fun nothing => ?_⟩
  · rw [uptime, ms, dueSecond_not (by omega)]
    exact ⟨by simp, rfl⟩
  · rw [uptime, ms, dueSecond, if_pos (by omega)]
    exact ⟨rfl, rfl⟩
  · rw [millisecond_nothingDue nothing]
    obtain ⟨-, -, -, -, -, -, -, -, -, -, -, -, -, drive⟩ := nothing
    refine ⟨⟨by simp, fun p unlisted => ?_⟩, rfl, fun c => ?_, drive_aged_eq _, rfl, flap_aged_eq drive, journal_aged_eq _, link_aged_eq _⟩
    · cases p <;> simp [Part.Same] at unlisted ⊢
    · exact (channels_aged_get _ c).trans (channelRecord_aged_eq _)

end Sys2Proof.Machine
end

section
/-! ## STATE's reply (section 11.6) -/

namespace Sys2Proof.Machine

theorem fieldAt_append_within {l : List Byte} {k n : Nat} (rest : List Byte) (within : k + n ≤ l.length) :
    fieldAt (l ++ rest) k n = fieldAt l k n := by
  unfold fieldAt
  rw [List.drop_append_of_le_length (by omega), List.take_append_of_le_length (by simp; omega)]

theorem fieldAt_stateBody_head (s : State) {k n : Nat} (within : k + n ≤ 30) :
    fieldAt (stateBody s) k n = fieldAt (stateBodyHead s) k n :=
  fieldAt_append_within _ (by simpa using within)

theorem fieldAt_stateBody_tail (s : State) (k n : Nat) :
    fieldAt (stateBody s) (30 + k) n = fieldAt (stateBodyTail s) k n := by
  rw [stateBody, fieldAt_append_right _ _ (by simp)]
  simp

theorem fieldAt_out8_of_lt {x : Nat} (small : x < 256) : fieldAt (out8 x) 0 1 = x := by
  rw [fieldAt_out8]
  omega

theorem fieldAt_out16_of_range {x : Int} (low : 0 ≤ x) (high : x < 65536) : fieldAt (out16 x) 0 2 = x.toNat := by
  rw [fieldAt_out16]
  omega

theorem fieldAt_out32_of_range {x : Int} (low : 0 ≤ x) (high : x < 4294967296) : fieldAt (out32 x) 0 4 = x.toNat := by
  rw [fieldAt_out32]
  omega

/-- The first 30 bytes of a STATE reply, each field where it stands. -/
theorem stateBodyHead_fields (s : State) :
    (fieldAt (stateBodyHead s) 0 2 = fieldAt (out16 s.est.epm) 0 2
      ∧ fieldAt (stateBodyHead s) 2 2 = fieldAt (out16 s.est.egs) 0 2
      ∧ fieldAt (stateBodyHead s) 4 4 = fieldAt (out32 s.est.eco) 0 4
      ∧ fieldAt (stateBodyHead s) 8 2 = fieldAt (out16 s.est.eah) 0 2
      ∧ fieldAt (stateBodyHead s) 10 4 = fieldAt (out32 s.est.fogMargin) 0 4)
    ∧ (fieldAt (stateBodyHead s) 14 4 = fieldAt (out32 s.uptime) 0 4
      ∧ fieldAt (stateBodyHead s) 18 4 = fieldAt (lastChangeBytes s.policy.lastChange) 0 4)
    ∧ (fieldAt (stateBodyHead s) 22 1 = fieldAt (out8 (s.policy.mode.code + 4 * s.policy.hold.code
          + 16 * s.policy.purging.toNat + 32 * s.policy.held.toNat + 64 * s.policy.fogFlag.toNat
          + 128 * s.policy.ceilingFlag.toNat)) 0 1
      ∧ fieldAt (stateBodyHead s) 23 1 = fieldAt (out8 (s.policy.basis.code + 128 * s.policy.lastChange.isSome.toNat)) 0 1
      ∧ fieldAt (stateBodyHead s) 24 2 = fieldAt (out16 s.policy.target) 0 2
      ∧ fieldAt (stateBodyHead s) 26 1 = fieldAt (out8 (s.policy.comfort + 16 * s.policy.demand)) 0 1)
    ∧ (fieldAt (stateBodyHead s) 27 1 = fieldAt (out8 (s.drive.vehicle.code + 4 * s.drive.stopFlag.toNat
          + 8 * s.drive.drv.isOpen.toNat + 16 * s.drive.krb.isOpen.toNat + 32 * s.drive.freshness.code)) 0 1
      ∧ fieldAt (stateBodyHead s) 28 1 = fieldAt (out8 s.drive.reportedSpeed) 0 1
      ∧ fieldAt (stateBodyHead s) 29 1 = fieldAt (out8 (engineCode s.drive.engine + 4 * runningBit s.timers.est
          + 8 * runningBit s.timers.dec + 16 * runningBit s.timers.hold + 32 * runningBit s.timers.purge
          + 64 * runningBit s.timers.ckpt)) 0 1) := by
  simp only [stateBodyHead, List.append_assoc]
  simp [fieldAt_append_right, fieldAt_append_left]

/-- The last 32 bytes of a STATE reply, each field where it stands. -/
theorem stateBodyTail_fields (s : State) :
    (fieldAt (stateBodyTail s) 0 2 = fieldAt (out16 (reportedCount s.timers.est)) 0 2
      ∧ fieldAt (stateBodyTail s) 2 2 = fieldAt (out16 (reportedCount s.timers.dec)) 0 2
      ∧ fieldAt (stateBodyTail s) 4 2 = fieldAt (out16 (reportedCount s.timers.hold)) 0 2
      ∧ fieldAt (stateBodyTail s) 6 2 = fieldAt (out16 (reportedCount s.timers.purge)) 0 2
      ∧ fieldAt (stateBodyTail s) 8 2 = fieldAt (out16 ((s.timers.ckpt.getD 0 : Nat) : Int)) 0 2)
    ∧ (fieldAt (stateBodyTail s) 10 1
          = fieldAt (out8 (s.tracker.pm.openEpisode.isSome.toNat + 2 * s.tracker.gas.openEpisode.isSome.toNat)) 0 1
      ∧ fieldAt (stateBodyTail s) 11 2 = fieldAt (out16 ((s.tracker.pm.openEpisode.getD 0 : Nat) : Int)) 0 2
      ∧ fieldAt (stateBodyTail s) 13 2 = fieldAt (out16 ((s.tracker.gas.openEpisode.getD 0 : Nat) : Int)) 0 2)
    ∧ (fieldAt (stateBodyTail s) 15 1
          = fieldAt (out8 (s.flap.mode.code + 4 * s.flap.state.code + 32 * s.flap.failCount)) 0 1
      ∧ fieldAt (stateBodyTail s) 16 1 = fieldAt (out8 (s.flap.inhibit.toNat + 2 * s.flap.ready.toNat
          + 4 * s.flap.faultLine.toNat + 8 * s.blower.fault.toNat + 16 * s.blower.level)) 0 1
      ∧ fieldAt (stateBodyTail s) 17 2 = fieldAt (out16 s.flap.target) 0 2
      ∧ fieldAt (stateBodyTail s) 19 2 = fieldAt (out16 s.flap.setPoint) 0 2
      ∧ fieldAt (stateBodyTail s) 21 2 = fieldAt (out16 s.flapPosition) 0 2)
    ∧ (fieldAt (stateBodyTail s) 23 1 = fieldAt (out8 (s.filter.state.code + 4 * s.filter.suspect.toNat
          + 8 * s.tally.active.toNat + 16 * (decide (s.journal.state = .failed)).toNat
          + 32 * phaseCode s.journal.write)) 0 1
      ∧ fieldAt (stateBodyTail s) 24 1 = fieldAt (out8 ((s.journal.pendingWrite.map (·.kind.code)).getD 0
          + 4 * (s.journal.newest.map (·.kind.code)).getD 0)) 0 1
      ∧ fieldAt (stateBodyTail s) 25 1 = fieldAt (out8 (bitsOf id s.journal.retired)) 0 1
      ∧ fieldAt (stateBodyTail s) 26 4 = fieldAt (out32 (((s.journal.newest.map (·.sequence)).getD 0 : Nat) : Int)) 0 4)
    ∧ fieldAt (stateBodyTail s) 30 2
        = fieldAt (out16 (bitsOf (fun p : PendingNotice => p.notice.kind.priority - 1) s.notices.pending)) 0 2 := by
  simp only [stateBodyTail, List.append_assoc]
  simp [fieldAt_append_right, fieldAt_append_left]
  cases s.journal.pendingWrite <;> cases s.journal.newest <;> simp

theorem codes_listed : CodesAsListed := by
  refine ⟨rfl, rfl, rfl, rfl, rfl, rfl, rfl, rfl, ⟨rfl, fun _ => ⟨rfl, fun c => ?_⟩⟩, rfl, rfl, rfl, rfl, rfl, rfl, rfl, rfl,
    ⟨rfl, fun _ _ _ _ => rfl, fun _ _ _ _ _ _ => rfl⟩, rfl, rfl, rfl, rfl, rfl, rfl, rfl⟩
  cases c <;> simp [endCauseCode]

/-- A bit of a packed byte, as its flag. -/
theorem flagBit_eq (b : Bool) (k : Nat) : (if b = true then k else 0) = k * b.toNat := by cases b <;> simp

/-- A count in whole seconds is the channel's time rounded up, 0 of a STOPPED one (R111). -/
theorem reportedCount_bounds (o : Option Nat) :
    (o = none → fieldAt (out16 (reportedCount o)) 0 2 = 0)
      ∧ ∀ ms, o = some ms → ms ≤ 65535000 →
          ms ≤ fieldAt (out16 (reportedCount o)) 0 2 * 1000 ∧ fieldAt (out16 (reportedCount o)) 0 2 * 1000 < ms + 1000 := by
  refine ⟨fun stopped => by simp [stopped, reportedCount, fieldAt_out16], fun ms running small => ?_⟩
  obtain ⟨low, high⟩ := ceilDiv_bounds ms
  rw [running, reportedCount, fieldAt_out16_of_lt (by omega)]
  exact ⟨low, high⟩

theorem policyBytes_small (p : Policy) :
    p.mode.code + 4 * p.hold.code + 16 * p.purging.toNat + 32 * p.held.toNat + 64 * p.fogFlag.toNat
        + 128 * p.ceilingFlag.toNat < 256
      ∧ p.basis.code + 128 * p.lastChange.isSome.toNat < 256 := by
  have mode : p.mode.code < 4 := by cases p.mode <;> decide
  have hold : p.hold.code < 4 := by cases p.hold <;> decide
  have basis : p.basis.code < 11 := by cases p.basis <;> decide
  have := p.purging.toNat_le
  have := p.held.toNat_le
  have := p.fogFlag.toNat_le
  have := p.ceilingFlag.toNat_le
  have := p.lastChange.isSome.toNat_le
  omega

theorem driveBytes_small (d : Drive) (t : Timers) :
    d.vehicle.code + 4 * d.stopFlag.toNat + 8 * d.drv.isOpen.toNat + 16 * d.krb.isOpen.toNat + 32 * d.freshness.code < 256
      ∧ engineCode d.engine + 4 * runningBit t.est + 8 * runningBit t.dec + 16 * runningBit t.hold + 32 * runningBit t.purge
          + 64 * runningBit t.ckpt < 256 := by
  have vehicle : d.vehicle.code < 4 := by cases d.vehicle <;> decide
  have freshness : d.freshness.code < 4 := by cases d.freshness <;> decide
  have engine : engineCode d.engine < 3 := by
    cases d.engine with
    | none => decide
    | some e => cases e <;> decide
  have bit : ∀ o, runningBit o ≤ 1 := fun o => o.isSome.toNat_le
  have := d.stopFlag.toNat_le
  have := d.drv.isOpen.toNat_le
  have := d.krb.isOpen.toNat_le
  have := bit t.est
  have := bit t.dec
  have := bit t.hold
  have := bit t.purge
  have := bit t.ckpt
  omega

theorem actuatorBytes_small {f : Flap} {b : Blower} (fails : f.failCount ≤ 3) (level : b.level ≤ 7) :
    f.mode.code + 4 * f.state.code + 32 * f.failCount < 256
      ∧ f.inhibit.toNat + 2 * f.ready.toNat + 4 * f.faultLine.toNat + 8 * b.fault.toNat + 16 * b.level < 256 := by
  have mode : f.mode.code < 4 := by cases f.mode <;> decide
  have state : f.state.code < 6 := by cases f.state <;> decide
  have := f.inhibit.toNat_le
  have := f.ready.toNat_le
  have := f.faultLine.toNat_le
  have := b.fault.toNat_le
  omega

theorem accountBytes_small (s : State) :
    s.filter.state.code + 4 * s.filter.suspect.toNat + 8 * s.tally.active.toNat
        + 16 * (decide (s.journal.state = .failed)).toNat + 32 * phaseCode s.journal.write < 256
      ∧ (s.journal.pendingWrite.map (·.kind.code)).getD 0 + 4 * (s.journal.newest.map (·.kind.code)).getD 0 < 256 := by
  have state : s.filter.state.code < 4 := by cases s.filter.state <;> decide
  have phase : phaseCode s.journal.write < 3 := by
    unfold phaseCode
    repeat' split
    all_goals decide
  have kind : ∀ k : RecordKind, k.code < 4 := fun k => by cases k <;> decide
  have pending : (s.journal.pendingWrite.map (·.kind.code)).getD 0 < 4 := by
    cases s.journal.pendingWrite with
    | none => decide
    | some w => exact kind w.kind
  have newest : (s.journal.newest.map (·.kind.code)).getD 0 < 4 := by
    cases s.journal.newest with
    | none => decide
    | some n => exact kind n.kind
  have := s.filter.suspect.toNat_le
  have := s.tally.active.toNat_le
  have := (decide (s.journal.state = .failed)).toNat_le
  omega

theorem reportedSpeed_le {d : Drive} (h : d.lastSpeed ≤ 250) : d.reportedSpeed ≤ 250 := by
  unfold Drive.reportedSpeed
  split <;> omega

/-- Settles O30: each field is read where the layout puts it, and its value fits. -/
theorem stateAnswered : Obligations.StateAnswered := by
  refine ⟨codes_listed, fun s free estimates positions uptime comfort demand speed fails level => ?_⟩
  obtain ⟨t, next, answered, only⟩ := onlyAnswered (c := .stateRead) (result := .done) (n := 0) (body := stateBody s)
    rfl free rfl rfl
  obtain ⟨⟨epm, epm'⟩, ⟨egs, egs'⟩, ⟨eco, eco'⟩, ⟨eah, eah'⟩⟩ := estimates
  obtain ⟨⟨flapTarget, flapTarget'⟩, ⟨setPoint, setPoint'⟩, _, _, _, _, _, candidate, ⟨position, position'⟩⟩ := positions
  have target : 0 ≤ s.policy.target ∧ s.policy.target < 65536 := by
    simp only [TargetIsCandidate, List.mem_cons, List.not_mem_nil, or_false] at candidate
    omega
  have policySmall := policyBytes_small s.policy
  have driveSmall := driveBytes_small s.drive s.timers
  have actuatorSmall := actuatorBytes_small fails level
  have accountSmall := accountBytes_small s
  have reported := reportedSpeed_le speed
  obtain ⟨⟨h0, h2, h4, h8, h10⟩, ⟨h14, h18⟩, ⟨h22, h23, h24, h26⟩, h27, h28, h29⟩ := stateBodyHead_fields s
  obtain ⟨⟨t0, t2, t4, t6, t8⟩, ⟨t10, t11, t13⟩, ⟨t15, t16, t17, t19, t21⟩, ⟨t23, t24, t25, t26⟩, t30⟩ :=
    stateBodyTail_fields s
  have head : ∀ k n, k + n ≤ 30 → fieldAt (stateBody s) k n = fieldAt (stateBodyHead s) k n :=
    fun k n within => fieldAt_stateBody_head s within
  have tail : ∀ k n, fieldAt (stateBody s) (30 + k) n = fieldAt (stateBodyTail s) k n := fieldAt_stateBody_tail s
  refine ⟨t, stateBody s, next, answered, only, stateBody_length s, ⟨?_, ?_, ?_, ?_, ?_⟩, ⟨?_, fun u held small => ?_⟩,
    ⟨?_, ?_, ?_, ?_⟩, ⟨?_, ?_, ?_⟩, fun p listed => ?_, ?_, ⟨?_, ?_, ?_⟩, ⟨?_, ?_, ?_, ?_, ?_⟩,
    ⟨?_, ?_, fun k small => ?_, ?_⟩, fun k => ?_⟩
  · rw [head 0 2 (by decide), h0, fieldAt_out16_of_range epm (by omega)]
  · rw [head 2 2 (by decide), h2, fieldAt_out16_of_range egs (by omega)]
  · rw [head 4 4 (by decide), h4, fieldAt_out32_of_range (by omega) (by omega)]
  · rw [head 8 2 (by decide), h8, fieldAt_out16_of_range eah (by omega)]
  · rw [head 10 4 (by decide), h10, fieldAt_out32]
  · rw [head 14 4 (by decide), h14, fieldAt_out32_of_lt uptime]
  · rw [head 18 4 (by decide), h18, held, lastChangeBytes, fieldAt_out32_of_lt small]
  · rw [head 22 1 (by decide), h22, fieldAt_out8_of_lt policySmall.1]
    simp only [flagBit_eq]
  · rw [head 23 1 (by decide), h23, fieldAt_out8_of_lt policySmall.2, flagBit_eq]
  · rw [head 24 2 (by decide), h24, fieldAt_out16_of_range target.1 target.2]
  · rw [head 26 1 (by decide), h26, fieldAt_out8_of_lt (by omega)]
  · rw [head 27 1 (by decide), h27, fieldAt_out8_of_lt driveSmall.1]
    simp only [flagBit_eq]
  · rw [head 28 1 (by decide), h28, fieldAt_out8_of_lt (by omega)]
  · rw [head 29 1 (by decide), h29, fieldAt_out8_of_lt driveSmall.2]
    simp only [flagBit_eq, runningBit]
  · have count : ∀ k, fieldAt (stateBodyTail s) k 2 = fieldAt (out16 (reportedCount p.2)) 0 2 → p.1 = 30 + k →
        (p.2 = none → fieldAt (stateBody s) p.1 2 = 0) ∧ ∀ ms, p.2 = some ms → ms ≤ 65535000 →
          ms ≤ fieldAt (stateBody s) p.1 2 * 1000 ∧ fieldAt (stateBody s) p.1 2 * 1000 < ms + 1000 := by
      intro k stands place
      rw [place, tail, stands]
      exact reportedCount_bounds p.2
    simp only [List.mem_cons, List.not_mem_nil, or_false] at listed
    rcases listed with rfl | rfl | rfl | rfl
    · exact count 0 t0 rfl
    · exact count 2 t2 rfl
    · exact count 4 t4 rfl
    · exact count 6 t6 rfl
  · rw [tail 8 2, t8, fieldAt_out16, toNat_emod_pow]
  · have := s.tracker.pm.openEpisode.isSome.toNat_le
    have := s.tracker.gas.openEpisode.isSome.toNat_le
    rw [tail 10 1, t10, fieldAt_out8_of_lt (by omega), flagBit_eq, flagBit_eq, Nat.one_mul]
  · rw [tail 11 2, t11, fieldAt_out16, toNat_emod_pow]
  · rw [tail 13 2, t13, fieldAt_out16, toNat_emod_pow]
  · rw [tail 15 1, t15, fieldAt_out8_of_lt actuatorSmall.1]
  · rw [tail 16 1, t16, fieldAt_out8_of_lt actuatorSmall.2]
    simp only [flagBit_eq, Nat.one_mul]
  · rw [tail 17 2, t17, fieldAt_out16_of_range flapTarget (by omega)]
  · rw [tail 19 2, t19, fieldAt_out16_of_range setPoint (by omega)]
  · rw [tail 21 2, t21, fieldAt_out16_of_range position (by omega), ← flapPosition_eq]
    omega
  · rw [tail 23 1, t23, fieldAt_out8_of_lt accountSmall.1]
    have failed : (if s.journal.state = .failed then 16 else 0) = 16 * (decide (s.journal.state = .failed)).toNat := by
      by_cases h : s.journal.state = .failed <;> simp [h]
    simp only [flagBit_eq, failed]
  · rw [tail 24 1, t24, fieldAt_out8_of_lt accountSmall.2]
  · rw [tail 25 1, t25, fieldAt_out8, bitsOf_testBit_mod _ _ small]
    simp
  · rw [tail 26 4, t26, fieldAt_out32, toNat_emod_pow]
  · rw [tail 30 2, t30, fieldAt_out16, toNat_emod_pow, bitsOf_testBit_mod _ _ (by cases k <;> decide)]
    have first : ∀ k : NoticeKind, 1 ≤ k.priority := fun k => by cases k <;> decide
    have place : ∀ k' : NoticeKind, k'.priority - 1 = k.priority - 1 ↔ k' = k := fun k' =>
      ⟨fun same => priority_inj (by have := first k; have := first k'; omega), fun same => by rw [same]⟩
    simp [place]

end Sys2Proof.Machine
end

section
/-! What a door does when its state is worked out again (sections 2.7 and 5.1): the vehicle state takes an open door, the purge machine
takes either change, and the blower demand follows; and with them the obligation O47. -/

namespace Sys2Proof.Machine

/-! ### The purge machine -/

/-- The demand R53's table gives with this purge flag and everything else as it stands. -/
def State.demandAt (s : State) (purging : Bool) : Nat :=
  demandByTable (decide (s.drive.vehicle = .parked)) purging s.policy.mode s.policy.basis s.policy.comfort

/-- From s to t nothing has moved but the purge machine: its flag, the open-since, PURGE, and the demand and the blower with the flag. -/
structure PurgeMoved (s t : State) : Prop where
  policy : t.policy = { s.policy with purging := t.policy.purging, openSince := t.policy.openSince, demand := t.policy.demand }
  timers : t.timers = { s.timers with purge := t.timers.purge }
  stands : t.policy.purging = s.policy.purging → t.policy.demand = s.policy.demand ∧ t.blower = s.blower
  demand : t.policy.purging ≠ s.policy.purging → t.policy.demand = s.demandAt t.policy.purging
  handed : t.policy.purging ≠ s.policy.purging →
    t.blower = s.blower ∨ t.blower = blowerHanded (s.demandAt t.policy.purging) s.blower
  follows : t.policy.purging ≠ s.policy.purging → s.blower.level = s.policy.demand → BlowerFollows s t
  raises : RaisesOnly [.blowerFault] s t

section
variable {s t u : State}

theorem PurgeMoved.refl (s : State) : PurgeMoved s s :=
  { policy := rfl, timers := rfl, stands := fun _ => ⟨rfl, rfl⟩, demand := fun moved => absurd rfl moved,
    handed := fun moved => absurd rfl moved, follows := fun moved => absurd rfl moved, raises := .refl s }

/-- The purge machine reads neither the doors nor the tally, nor the vehicle state but for PARKED. -/
theorem PurgeMoved.since (h : PurgeMoved s t) (policy : s.policy = u.policy) (timers : s.timers = u.timers)
    (blower : s.blower = u.blower) (notices : s.notices = u.notices)
    (parked : s.drive.vehicle = .parked ↔ u.drive.vehicle = .parked) : PurgeMoved u t := by
  have due : ∀ p, s.demandAt p = u.demandAt p := fun p => by simp [State.demandAt, policy, parked]
  obtain ⟨policy', timers', stands, demand, handed, follows, raises⟩ := h
  unfold BlowerFollows at follows
  simp only [policy, blower, timers, due] at policy' timers' stands demand handed follows
  exact ⟨policy', timers', stands, demand, handed, follows, RaisesOnly.after raises notices⟩

theorem PurgeMoved.openSince (h : PurgeMoved s t) (x : Option Nat) :
    PurgeMoved s (t.withPolicy { t.policy with openSince := x }) := by
  obtain ⟨policy, timers, stands, demand, handed, follows, raises⟩ := h
  refine ⟨?_, timers, stands, demand, handed, follows, raises⟩
  show { t.policy with openSince := x } = _
  rw [policy]
  rfl

/-- The recomputation after the flag has changed (R54). -/
theorem recomputeDemand_blower (s : State) :
    (recomputeDemand s).blower = s.blower ∨ (recomputeDemand s).blower = blowerHanded s.demandDue s.blower := by
  rw [recomputeDemand]
  split
  · exact .inl rfl
  · exact .inr (blowerDemand_follows _ _).1

theorem purgeFlag_moved {purging : Bool} {timer : Option Nat} (s : State) (changes : purging ≠ s.policy.purging) :
    PurgeMoved s (recomputeDemand ((s.withTimers { s.timers with purge := timer }).withPolicy
      { s.policy with purging := purging })) := by
  set u := (s.withTimers { s.timers with purge := timer }).withPolicy { s.policy with purging := purging } with u_def
  have due : u.demandDue = s.demandAt purging := demandDue_eq u
  have flag : (recomputeDemand u).policy.purging = purging := by simp [u_def]
  refine ⟨by simp [u_def], by simp [u_def], fun same => absurd (flag.symm.trans same) changes, fun _ => ?_, fun _ => ?_,
    fun _ level => recomputeDemand_follows (s := u) level, (recomputeDemand_raisesOnly u).after rfl⟩
  · rw [flag, recomputeDemand_policy]
    exact due
  · rw [flag, ← due]
    exact recomputeDemand_blower u

theorem endPurge_moved (runs : s.policy.purging = true) : PurgeMoved s (endPurge s) := purgeFlag_moved s (by simp [runs])

theorem startPurge_moved (idle : s.policy.purging = false) : PurgeMoved s (startPurge s) := purgeFlag_moved s (by simp [idle])

theorem endPurge_flag (s : State) : (endPurge s).policy.purging = false ∧ (endPurge s).policy.openSince = s.policy.openSince
    ∧ (endPurge s).timers = { s.timers with purge := none } := by simp [endPurge]

theorem startPurge_flag (s : State) : (startPurge s).policy.purging = true
    ∧ (startPurge s).timers = { s.timers with purge := some (s.policy.limits.purgeTime * 1000) } := by simp [startPurge]

theorem purgeDue_iff (s : State) : s.purgeDue = true ↔ PurgeDue s := by
  unfold State.purgeDue PurgeDue
  split
  next absent => simp [absent]
  next o since => simp [since, State.isParked, and_assoc]

/-- A door-open event at the purge machine (R50, R52). -/
theorem purgeDoorOpened_moved (s : State) : PurgeMoved s (purgeDoorOpened s) := by
  have ended : PurgeMoved s (if s.policy.purging then endPurge s else s) := by
    split
    next runs => exact endPurge_moved runs
    next => exact .refl s
  unfold purgeDoorOpened
  dsimp only
  split
  · exact ended
  · exact ended.openSince _

theorem purgeDoorOpened_took (s : State) :
    PurgeTookOpening (s.drive.drv.isOpen && s.drive.krb.isOpen) s (purgeDoorOpened s) := by
  unfold purgeDoorOpened PurgeTookOpening
  dsimp only
  have flag := endPurge_flag s
  cases runs : s.policy.purging <;> cases both : s.drive.drv.isOpen && s.drive.krb.isOpen <;> simp [runs, flag]

/-- A door-closed event at the purge machine (R50). -/
theorem purgeDoorClosed_moved (s : State) : PurgeMoved s (purgeDoorClosed s) := by
  unfold purgeDoorClosed
  split
  · exact .refl s
  · refine PurgeMoved.openSince ?_ _
    split
    next due =>
      obtain ⟨idle, -⟩ := (purgeDue_iff s).mp due
      exact startPurge_moved idle
    next => exact .refl s

theorem purgeDoorClosed_took (s : State) : PurgeTookClosing s.drive.anyOpen s (purgeDoorClosed s) := by
  unfold purgeDoorClosed
  refine ⟨fun another => ?_, fun none => ⟨?_, fun due => ?_, fun early => ?_⟩⟩
  · rw [if_pos another]
    exact ⟨rfl, rfl, rfl⟩
  · rw [if_neg (by simp [none])]
    rfl
  · rw [if_neg (by simp [none]), if_pos ((purgeDue_iff s).mpr due)]
    exact startPurge_flag s
  · rw [if_neg (by simp [none]), if_neg (fun due => early ((purgeDue_iff s).mp due))]
    exact ⟨rfl, rfl⟩

/-! ### A door worked out again -/

theorem opens_eq (d : DoorRecord) : d.opens = doorByRules d.accepted d.polarity := by
  unfold DoorRecord.opens doorByRules
  cases d.accepted <;> cases d.polarity <;> rfl

theorem setDoor_same (d : Drive) (which : Door) (r : DoorRecord) : (d.setDoor which r).door which = r := by
  cases which <;> rfl

theorem setDoor_other (d : Drive) {which other : Door} (r : DoorRecord) (h : other ≠ which) :
    (d.setDoor which r).door other = d.door other := by
  cases which <;> cases other <;> first | rfl | exact absurd rfl h

theorem setDoor_stands (d : Drive) (which : Door) (r : DoorRecord) :
    (d.setDoor which r).vehicle = d.vehicle ∧ (d.setDoor which r).stopFlag = d.stopFlag := by
  cases which <;> exact ⟨rfl, rfl⟩

/-- The state with this door as its level and its polarity have it, before anything takes the change. -/
def doorTaken (which : Door) (s : State) : State :=
  s.withDrive (s.drive.setDoor which { s.drive.door which with isOpen := (s.drive.door which).opens })

theorem reworkDoor_same {which : Door} (same : (s.drive.door which).opens = (s.drive.door which).isOpen) :
    reworkDoor which s = s := by
  simp [reworkDoor, same]

theorem reworkDoor_opens {which : Door} (closed : (s.drive.door which).isOpen = false)
    (opens : (s.drive.door which).opens = true) :
    reworkDoor which s = purgeDoorOpened (vehicleDoorOpened (doorTaken which s)) := by
  simp [reworkDoor, doorTaken, closed, opens]

theorem reworkDoor_closes {which : Door} (isOpen : (s.drive.door which).isOpen = true)
    (closes : (s.drive.door which).opens = false) : reworkDoor which s = purgeDoorClosed (doorTaken which s) := by
  simp [reworkDoor, doorTaken, isOpen, closes]

/-- A door that opens in HALTED starts a stop (R100). -/
theorem vehicleDoorOpened_eq (s : State) :
    (s.drive.vehicle = .halted → (vehicleDoorOpened s).drive = { s.drive with vehicle := .atStop, stopFlag := true }
        ∧ (vehicleDoorOpened s).tally = if s.drive.stopFlag = false then stopCounted s.tally else s.tally)
      ∧ (s.drive.vehicle ≠ .halted → vehicleDoorOpened s = s) := by
  unfold vehicleDoorOpened
  refine ⟨fun halted => ?_, fun other => ?_⟩
  · rw [halted]
    exact enterAtStop_eq s
  · split
    next halted => exact absurd halted other
    all_goals rfl

/-- From s to t a door has taken its state: the other door stands, and a door that opens in HALTED has started a stop (R95, R100). -/
structure DoorMoved (which : Door) (s t : State) : Prop where
  door : t.drive.door which = { s.drive.door which with isOpen := (s.drive.door which).opens }
  other : ∀ other, other ≠ which → t.drive.door other = s.drive.door other
  stops : (s.drive.door which).isOpen = false → (s.drive.door which).opens = true → s.drive.vehicle = .halted →
    t.drive.vehicle = .atStop ∧ t.drive.stopFlag = true
      ∧ t.tally = if s.drive.stopFlag = false then stopCounted s.tally else s.tally
  stays : ((s.drive.door which).opens = true → (s.drive.door which).isOpen = true) ∨ s.drive.vehicle ≠ .halted →
    t.drive.vehicle = s.drive.vehicle ∧ t.drive.stopFlag = s.drive.stopFlag ∧ t.tally = s.tally

theorem doorTaken_moved {which : Door} (stays : ((s.drive.door which).opens = true → (s.drive.door which).isOpen = true)
    ∨ s.drive.vehicle ≠ .halted) : DoorMoved which s (doorTaken which s) where
  door := setDoor_same _ _ _
  other := fun _ different => setDoor_other _ _ different
  stops := fun closed opens halted => by
    rcases stays with opened | other
    · simp [opened opens] at closed
    · exact absurd halted other
  stays := fun _ => ⟨(setDoor_stands _ _ _).1, (setDoor_stands _ _ _).2, rfl⟩

theorem DoorMoved.then {which : Door} (h : DoorMoved which s t) (drive : u.drive = t.drive) (tally : u.tally = t.tally) :
    DoorMoved which s u := by
  obtain ⟨door, other, stops, stays⟩ := h
  simp only [← drive, ← tally] at door other stops stays
  exact ⟨door, other, stops, stays⟩

theorem vehicleDoorOpened_moved {which : Door} (closed : (s.drive.door which).isOpen = false)
    (opens : (s.drive.door which).opens = true) :
    DoorMoved which s (vehicleDoorOpened (doorTaken which s)) := by
  obtain ⟨halts, rests⟩ := vehicleDoorOpened_eq (doorTaken which s)
  have vehicle : (doorTaken which s).drive.vehicle = s.drive.vehicle := (setDoor_stands _ _ _).1
  have flag : (doorTaken which s).drive.stopFlag = s.drive.stopFlag := (setDoor_stands _ _ _).2
  by_cases halted : s.drive.vehicle = .halted
  · obtain ⟨drive, tally⟩ := halts (vehicle.trans halted)
    have doors : ∀ d, (vehicleDoorOpened (doorTaken which s)).drive.door d = (doorTaken which s).drive.door d := fun d => by
      rw [drive]
      cases d <;> rfl
    refine ⟨(doors which).trans (setDoor_same _ _ _), fun _ different => (doors _).trans (setDoor_other _ _ different),
      fun _ _ _ => ?_, fun stays => ?_⟩
    · rw [tally, drive, flag]
      exact ⟨rfl, rfl, rfl⟩
    · rcases stays with opened | other
      · exact absurd (opened opens) (by simp [closed])
      · exact absurd halted other
  · rw [rests (fun h => halted (vehicle.symm.trans h))]
    exact doorTaken_moved (.inr halted)

/-- A door worked out again stands, opens or closes. -/
theorem reworkDoor_cases {which : Door} {motive : State → Prop} (same : (s.drive.door which).opens = (s.drive.door which).isOpen → motive s)
    (opens : (s.drive.door which).isOpen = false → (s.drive.door which).opens = true →
      motive (purgeDoorOpened (vehicleDoorOpened (doorTaken which s))))
    (closes : (s.drive.door which).isOpen = true → (s.drive.door which).opens = false →
      motive (purgeDoorClosed (doorTaken which s))) : motive (reworkDoor which s) := by
  cases wasOpen : (s.drive.door which).isOpen <;> cases becomes : (s.drive.door which).opens
  · rw [reworkDoor_same (becomes.trans wasOpen.symm)]
    exact same (becomes.trans wasOpen.symm)
  · rw [reworkDoor_opens wasOpen becomes]
    exact opens wasOpen becomes
  · rw [reworkDoor_closes wasOpen becomes]
    exact closes wasOpen becomes
  · rw [reworkDoor_same (becomes.trans wasOpen.symm)]
    exact same (becomes.trans wasOpen.symm)

theorem reworkDoor_doorMoved (which : Door) (s : State) : DoorMoved which s (reworkDoor which s) := by
  refine reworkDoor_cases (fun same => ?_) (fun closed opens => ?_) (fun isOpen closes => ?_)
  · have door : s.drive.door which = { s.drive.door which with isOpen := (s.drive.door which).opens } := by rw [same]
    exact ⟨door, fun _ _ => rfl, fun closed opens => by simp [same, closed] at opens, fun _ => ⟨rfl, rfl, rfl⟩⟩
  · exact (vehicleDoorOpened_moved closed opens).then (by simp) (by simp)
  · exact (doorTaken_moved (.inl fun _ => isOpen)).then (by simp) (by simp)

/-- A door that opens leaves a PARKED truck PARKED and no other (R100). -/
theorem DoorMoved.parked {which : Door} (h : DoorMoved which s t) : t.drive.vehicle = .parked ↔ s.drive.vehicle = .parked := by
  by_cases opens : (s.drive.door which).isOpen = false ∧ (s.drive.door which).opens = true ∧ s.drive.vehicle = .halted
  · obtain ⟨closed, opened, halted⟩ := opens
    obtain ⟨vehicle, -⟩ := h.stops closed opened halted
    simp [vehicle, halted]
  · obtain ⟨vehicle, -⟩ := h.stays (by
      by_cases halted : s.drive.vehicle = .halted
      · exact .inl fun opened => by
          by_contra closed
          exact opens ⟨by simpa using closed, opened, halted⟩
      · exact .inr halted)
    rw [vehicle]

theorem reworkDoor_purgeMoved (which : Door) (s : State) : PurgeMoved s (reworkDoor which s) := by
  refine reworkDoor_cases (fun _ => .refl s) (fun closed opens => ?_) (fun isOpen _ => ?_)
  · exact (purgeDoorOpened_moved _).since (by simp [doorTaken]) (by simp [doorTaken]) (by simp [doorTaken])
      (by simp [doorTaken]) (vehicleDoorOpened_moved closed opens).parked
  · exact (purgeDoorClosed_moved _).since rfl rfl rfl rfl (doorTaken_moved (.inl fun _ => isOpen)).parked

/-- With one door OPEN, both are exactly where the other is. -/
theorem bothOpen_eq {d : Drive} {which other : Door} (different : other ≠ which) (mine : (d.door which).isOpen = true) :
    (d.drv.isOpen && d.krb.isOpen) = (d.door other).isOpen := by
  cases which <;> cases other <;> simp [Drive.door] at mine different ⊢ <;> simp [mine]

/-- With one door CLOSED, one is OPEN exactly where the other is. -/
theorem anyOpen_eq {d : Drive} {which other : Door} (different : other ≠ which) (mine : (d.door which).isOpen = false) :
    d.anyOpen = (d.door other).isOpen := by
  unfold Drive.anyOpen
  cases which <;> cases other <;> simp [Drive.door] at mine different ⊢ <;> simp [mine]

/-- The purge machine reads the other door's state (R50, R52). -/
theorem reworkDoor_purgeTook (which : Door) (s : State) : PurgeTookDoor which s (reworkDoor which s) := by
  refine reworkDoor_cases (s := s) (motive := PurgeTookDoor which s) (fun _ other _ => ?_) (fun closed opens other different => ?_)
    (fun isOpen closes other different => ?_)
  · exact ⟨fun closed opened => by simp [closed] at opened, fun opened closed => by simp [opened] at closed⟩
  · refine ⟨fun _ _ => ?_, fun opened => by simp [opened] at closed⟩
    have moved := vehicleDoorOpened_moved closed opens
    have took := purgeDoorOpened_took (vehicleDoorOpened (doorTaken which s))
    rw [bothOpen_eq different (by rw [moved.door]; exact opens), moved.other other different] at took
    unfold PurgeTookOpening at took ⊢
    simpa [doorTaken] using took
  · refine ⟨fun closed => by simp [closed] at isOpen, fun _ _ => ?_⟩
    have moved := doorTaken_moved (which := which) (s := s) (.inl fun _ => isOpen)
    have took := purgeDoorClosed_took (doorTaken which s)
    rw [anyOpen_eq different (by rw [moved.door]; exact closes), moved.other other different] at took
    obtain ⟨vehicle, -⟩ := setDoor_stands s.drive which { s.drive.door which with isOpen := (s.drive.door which).opens }
    unfold PurgeTookClosing PurgeDue at took ⊢
    simpa [doorTaken, vehicle] using took

/-- What a door's event at the purge machine reads, and what it is about. -/
theorem purgeTookDoor_congr {which : Door} {s' t' : State} (h : PurgeTookDoor which s t)
    (doors : ∀ d, (s'.drive.door d).isOpen = (s.drive.door d).isOpen) (runs : s'.policy.purging = s.policy.purging)
    (opened : s'.policy.openSince = s.policy.openSince) (limits : s'.policy.limits = s.policy.limits) (time : s'.uptime = s.uptime) (timers : s'.timers = s.timers) (vehicle : s'.drive.vehicle = s.drive.vehicle)
    (door : (t'.drive.door which).isOpen = (t.drive.door which).isOpen)
    (flag : t'.policy.purging = t.policy.purging) (since : t'.policy.openSince = t.policy.openSince)
    (timers' : t'.timers = t.timers) : PurgeTookDoor which s' t' := by
  unfold PurgeTookDoor PurgeTookOpening PurgeTookClosing PurgeDue at h ⊢
  simp only [doors, runs, opened, limits, time, timers, vehicle, door, flag, since, timers']
  exact h

end

/-! ### The contacts -/

/-- Settles O47: the contact's own step, then an accepted level as the door worked out again. -/
theorem contactsAccepted : Obligations.ContactsAccepted := by
  refine ⟨fun door closed s => ⟨fun same => ?_, fun changed => ?_⟩, fun door s => ⟨fun still => ?_, fun b runs => ?_⟩⟩
  · show Host.Outcome.next (contactChanged door closed s) = _
    simp [contactChanged, same]
  · have eq : contactChanged door closed s = s.withDrive (s.drive.setDoor door ((s.drive.door door).contact closed)) := by
      simp [contactChanged, changed]
    obtain ⟨vehicle, flag⟩ := setDoor_stands s.drive door ((s.drive.door door).contact closed)
    refine ⟨contactChanged door closed s, rfl, ⟨by simp, fun p unlisted => ?_⟩, ?_⟩
    · cases p <;> simp [Part.Same] at unlisted ⊢
    · rw [eq]
      exact ⟨setDoor_same _ _ _, fun other different => setDoor_other _ _ different, vehicle, flag⟩
  · show Host.Outcome.next (debounceAccepted door s) = _
    simp [debounceAccepted, still]
  · set u := s.withDrive (s.drive.setDoor door { s.drive.door door with accepted := some b.closed, debounce := none }) with u_def
    have eq : debounceAccepted door s = reworkDoor door u := by simp [debounceAccepted, runs, u_def]
    have record : u.drive.door door = { s.drive.door door with accepted := some b.closed, debounce := none } := setDoor_same _ _ _
    have others : ∀ other, other ≠ door → u.drive.door other = s.drive.door other := fun _ different => setDoor_other _ _ different
    obtain ⟨vehicle, flag⟩ :=
      setDoor_stands s.drive door { s.drive.door door with accepted := some b.closed, debounce := none }
    have isOpen : (u.drive.door door).isOpen = (s.drive.door door).isOpen := by rw [record]
    obtain ⟨taken, other, stops, stays⟩ := reworkDoor_doorMoved door u
    have took := reworkDoor_purgeTook door u
    have moved : PurgeMoved s (reworkDoor door u) := (reworkDoor_purgeMoved door u).since rfl rfl rfl rfl (by
      show (s.drive.setDoor _ _).vehicle = _ ↔ _
      rw [vehicle])
    refine ⟨reworkDoor door u, congrArg _ eq, ⟨by simp [u_def], fun p unlisted => ?_⟩, ?_, ?_, ?_,
      fun d different => (other d different).trans (others d different), fun same => ?_, ?_, ?_, moved.stands,
      fun changes => ⟨moved.demand changes, moved.follows changes⟩, fun closed opened halted => ?_, fun still => ?_⟩
    · cases p <;> simp [Part.Same] at unlisted ⊢ <;> simp [u_def]
    · rw [taken, record]
    · rw [taken, record]
    · rw [taken, opens_eq, record]
    · have stands := reworkDoor_same (s := u) (which := door) (by rw [taken] at same; exact same.trans isOpen.symm)
      rw [stands]
      refine ⟨⟨rfl, fun p unlisted => ?_⟩, vehicle⟩
      cases p <;> simp [Part.Same] at unlisted ⊢ <;> simp [u_def]
    · refine purgeTookDoor_congr took (fun d => ?_) rfl rfl rfl rfl rfl vehicle.symm rfl rfl rfl rfl
      by_cases same : d = door
      · rw [same, isOpen]
      · rw [others d same]
    · exact moved.policy
    · rw [taken] at opened
      have stops := stops (isOpen.trans closed) opened (vehicle.trans halted)
      rwa [show u.drive.stopFlag = s.drive.stopFlag from flag] at stops
    · obtain ⟨vehicle', -, tally⟩ := stays (.inr fun halted => still (vehicle.symm.trans halted))
      exact ⟨vehicle'.trans vehicle, tally⟩

end Sys2Proof.Machine
end

section
/-! ## CABIN

Its stored polarities work both doors out again, and its decision may run before, between or after them (log 5). Whatever the order, what
the doors do, what the purge machine takes and what the decision reads are the same but for the blower. -/

namespace Sys2Proof.Machine

/-! ### A decision and the doors around it -/

section
variable {u v w t : State} {which : Door}

/-- Of the drive state a decision reads whether the truck is PARKED and nothing else (R33, R39). -/
theorem Decided.driven (h : Decided u t) {d : Drive} (parked : d.vehicle = .parked ↔ u.drive.vehicle = .parked) :
    Decided (u.withDrive d) t := by
  obtain ⟨fields, stands, driving⟩ := h
  exact ⟨fields, fun p => stands (parked.mp p), fun moves => driving fun p => moves (parked.mpr p)⟩

/-- The purge machine may move after a decision: the demand it hands on is the one due (R54). -/
theorem Decided.purged (h : Decided u w) (moved : PurgeMoved w t) (flap : t.flap = w.flap)
    (parked : w.drive.vehicle = .parked ↔ u.drive.vehicle = .parked) : Decided u t := by
  have due : u.drive.vehicle ≠ .parked → t.policy.demand
      = demandByTable false t.policy.purging w.policy.mode w.policy.basis w.policy.comfort := by
    intro driving
    obtain ⟨-, -, decided⟩ := h
    obtain ⟨-, -, -, -, -, -, -, -, -, -, -, demand⟩ := decided driving
    by_cases same : t.policy.purging = w.policy.purging
    · rw [(moved.stands same).1, same]
      exact demand
    · rw [moved.demand same, State.demandAt, decide_eq_false fun p => driving (parked.mp p)]
  have renamed : Decided u (w.withPolicy { w.policy with
      purging := t.policy.purging, openSince := t.policy.openSince, demand := t.policy.demand }) := by
    obtain ⟨fields, stands, driving⟩ := h
    refine ⟨fields, stands, fun moves => ?_⟩
    obtain ⟨fog, alert, override, ceiling, plume, last, fresh, recirc, recircCeiling, defrost, follows, -⟩ := driving moves
    exact ⟨fog, alert, override, ceiling, plume, last, fresh, recirc, recircCeiling, defrost, follows, due moves⟩
  obtain ⟨keeps, -⟩ := moved.raises
  exact renamed.then moved.policy flap fun n other pends => keeps.pends (fun inside => by
    rw [List.mem_singleton.mp inside] at other
    simp at other) pends

/-- A decision leaves the doors to be worked out as they were. -/
theorem fullDecision_drive (s : State) : (fullDecision s).drive = s.drive := by simp

theorem reworkDoor_parked (which : Door) (s : State) :
    (reworkDoor which s).drive.vehicle = .parked ↔ s.drive.vehicle = .parked := (reworkDoor_doorMoved which s).parked

end

/-! ### Both doors -/

/-- From u to t both doors have taken their states and a full decision has run, in some order. -/
structure CabinTook (u t : State) : Prop where
  doors : ∀ d, t.drive.door d = { u.drive.door d with isOpen := (u.drive.door d).opens }
  stops : (∃ d, (u.drive.door d).isOpen = false ∧ (u.drive.door d).opens = true) → u.drive.vehicle = .halted →
    t.drive.vehicle = .atStop ∧ t.drive.stopFlag = true
      ∧ t.tally = if u.drive.stopFlag = false then stopCounted u.tally else u.tally
  stays : (∀ d, (u.drive.door d).opens = true → (u.drive.door d).isOpen = true) ∨ u.drive.vehicle ≠ .halted →
    t.drive.vehicle = u.drive.vehicle ∧ t.drive.stopFlag = u.drive.stopFlag ∧ t.tally = u.tally
  purge : ∀ d, (∀ other, other ≠ d → (u.drive.door other).opens = (u.drive.door other).isOpen) → PurgeTookDoor d u t
  decided : ∃ b, PurgeHanded u b ∧ Decided { decisionReads u.policy u t with blower := b } t
  same : (∀ d, (u.drive.door d).opens = (u.drive.door d).isOpen) → t = fullDecision u

section
variable {u v w t : State} {first second : Door}

/-- One door and then the other. -/
theorem DoorMoved.both (different : second ≠ first) (h : DoorMoved first u v) (h' : DoorMoved second w t)
    (drive : w.drive = v.drive) (tally : w.tally = v.tally) :
    (∀ d, t.drive.door d = { u.drive.door d with isOpen := (u.drive.door d).opens })
      ∧ ((∃ d, (u.drive.door d).isOpen = false ∧ (u.drive.door d).opens = true) → u.drive.vehicle = .halted →
          t.drive.vehicle = .atStop ∧ t.drive.stopFlag = true
            ∧ t.tally = if u.drive.stopFlag = false then stopCounted u.tally else u.tally)
      ∧ ((∀ d, (u.drive.door d).opens = true → (u.drive.door d).isOpen = true) ∨ u.drive.vehicle ≠ .halted →
          t.drive.vehicle = u.drive.vehicle ∧ t.drive.stopFlag = u.drive.stopFlag ∧ t.tally = u.tally) := by
  obtain ⟨door, other, stops, stays⟩ := h
  obtain ⟨door', other', stops', stays'⟩ := h'
  have mine := other second different
  rw [drive, mine] at door' stops' stays'
  rw [tally] at stops' stays'
  have either : ∀ d, d = first ∨ d = second := fun d => by
    cases d <;> cases first <;> cases second <;> simp at different ⊢
  refine ⟨fun d => ?_, fun ⟨d, closed, opens⟩ halted => ?_, fun still => ?_⟩
  · rcases either d with rfl | rfl
    · rw [other' _ different.symm, drive, door]
    · exact door'
  · by_cases starts : (u.drive.door first).isOpen = false ∧ (u.drive.door first).opens = true
    · obtain ⟨vehicle, flag, counted⟩ := stops starts.1 starts.2 halted
      obtain ⟨vehicle', flag', counted'⟩ := stays' (.inr (by simp [vehicle]))
      exact ⟨vehicle'.trans vehicle, flag'.trans flag, counted'.trans counted⟩
    · obtain ⟨vehicle, flag, counted⟩ := stays (.inl fun opened => by
        by_contra shut
        exact starts ⟨by simpa using shut, opened⟩)
      rcases either d with rfl | rfl
      · exact absurd ⟨closed, opens⟩ starts
      · have stops' := stops' closed opens (vehicle.trans halted)
        rwa [flag, counted] at stops'
  · obtain ⟨vehicle, flag, counted⟩ := stays (still.imp (fun all => all first) id)
    obtain ⟨vehicle', flag', counted'⟩ := stays' (still.imp (fun all => all second) fun other => by rwa [vehicle])
    exact ⟨vehicle'.trans vehicle, flag'.trans flag, counted'.trans counted⟩

/-- A purge that a door ends leaves that door OPEN (R52). -/
theorem reworkDoor_ends {which : Door} (runs : u.policy.purging = true) (ended : (reworkDoor which u).policy.purging = false) :
    ((reworkDoor which u).drive.door which).isOpen = true := by
  revert ended
  refine reworkDoor_cases (motive := fun t => t.policy.purging = false → (t.drive.door which).isOpen = true)
    (fun _ ended => ?_) (fun closed opens _ => ?_) (fun isOpen closes ended => ?_)
  · simp [runs] at ended
  · have moved := (vehicleDoorOpened_moved closed opens).door
    simp [moved, opens]
  · obtain ⟨stands, starts⟩ := purgeDoorClosed_took (doorTaken which u)
    have flag : (purgeDoorClosed (doorTaken which u)).policy.purging = u.policy.purging := by
      cases any : (doorTaken which u).drive.anyOpen
      · obtain ⟨-, -, rests⟩ := starts any
        exact (rests fun ⟨idle, _⟩ => by
          rw [show (doorTaken which u).policy = u.policy from rfl, runs] at idle
          cases idle).1
      · exact (stands any).1
    rw [flag, runs] at ended
    cases ended

/-- A purge that a door starts finds the other door CLOSED (R50). -/
theorem reworkDoor_starts {which other : Door} (different : other ≠ which) (idle : u.policy.purging = false)
    (started : (reworkDoor which u).policy.purging = true) : (u.drive.door other).isOpen = false := by
  revert started
  refine reworkDoor_cases (motive := fun t => t.policy.purging = true → (u.drive.door other).isOpen = false)
    (fun _ started => ?_) (fun closed opens started => ?_) (fun isOpen closes started => ?_)
  · simp [idle] at started
  · obtain ⟨flag, -⟩ := purgeDoorOpened_took (vehicleDoorOpened (doorTaken which u))
    simp [flag] at started
  · have moved := doorTaken_moved (which := which) (s := u) (.inl fun _ => isOpen)
    obtain ⟨stands, -⟩ := purgeDoorClosed_took (doorTaken which u)
    rw [anyOpen_eq different (by rw [moved.door]; exact closes), moved.other other different] at stands
    by_contra isOpen
    rw [(stands (by simpa using isOpen)).1, show (doorTaken which u).policy = u.policy from rfl, idle] at started
    cases started

/-- What one door leaves of the blower, and both (R54, R132): a purge may start and end, but not end and start. -/
theorem reworkDoor_purgeHanded (which : Door) (u : State) : PurgeHanded u (reworkDoor which u).blower := by
  intro due table
  have moved := reworkDoor_purgeMoved which u
  by_cases same : (reworkDoor which u).policy.purging = u.policy.purging
  · exact .inl (moved.stands same).2
  · rcases moved.handed same with stands | handed
    · exact .inl stands
    · exact .inr (.inl ⟨_, by rw [table]; exact handed⟩)

theorem reworkDoors_purgeHanded (different : second ≠ first) (u : State) :
    PurgeHanded u (reworkDoor second (reworkDoor first u)).blower := by
  intro due table
  have moved := reworkDoor_purgeMoved first u
  have moved' := reworkDoor_purgeMoved second (reworkDoor first u)
  set v := reworkDoor first u with v_def
  set t := reworkDoor second v with t_def
  have table' : ∀ p, due p = v.demandAt p := fun p => by
    rw [table, State.demandAt, moved.policy, decide_eq_decide.mpr (reworkDoor_parked first u)]
  by_cases same' : t.policy.purging = v.policy.purging
  · rw [(moved'.stands same').2]
    exact reworkDoor_purgeHanded first u due table
  rcases moved'.handed same' with stands' | handed'
  · rw [stands']
    exact reworkDoor_purgeHanded first u due table
  rw [← table'] at handed'
  by_cases same : v.policy.purging = u.policy.purging
  · rw [(moved.stands same).2] at handed'
    exact .inr (.inl ⟨_, handed'⟩)
  rcases moved.handed same with stands | handed
  · rw [stands] at handed'
    exact .inr (.inl ⟨_, handed'⟩)
  rw [show u.demandAt v.policy.purging = due v.policy.purging from (table _).symm] at handed
  cases ran : u.policy.purging
  · have started : v.policy.purging = true := by simpa [ran] using same
    have ended : t.policy.purging = false := by simpa [started] using same'
    rw [handed, started, ended] at handed'
    exact .inr (.inr handed')
  · have ended : v.policy.purging = false := by simpa [ran] using same
    have started : t.policy.purging = true := by simpa [ended] using same'
    have opened := reworkDoor_ends ran ended
    rw [reworkDoor_starts different.symm ended started] at opened
    cases opened

theorem decisionAfterDoor_took (which : Door) (u : State) : PurgeTookDoor which u (fullDecision (reworkDoor which u)) :=
  purgeTookDoor_congr (reworkDoor_purgeTook which u) (fun _ => rfl) rfl rfl rfl rfl rfl rfl (by simp) (by simp) (by simp) (by simp)

theorem doorAfterDecision_took (which : Door) (u : State) : PurgeTookDoor which u (reworkDoor which (fullDecision u)) :=
  purgeTookDoor_congr (reworkDoor_purgeTook which (fullDecision u)) (by simp) (by simp) (by simp) (by simp) (by simp) (by simp)
    (by simp) rfl rfl rfl rfl

theorem reworkDoor_still {which : Door} {x : State} (same : (u.drive.door which).opens = (u.drive.door which).isOpen)
    (door : x.drive.door which = u.drive.door which) : reworkDoor which x = x :=
  reworkDoor_same (by rw [door, same])

/-- What a decision among the doors' events has read: the inputs as they stand at the end, and the blower as it found it. -/
theorem Decided.amongDoors {x : State} (h : Decided x t)
    (policy : ∃ demand purging openSince,
      u.policy = { x.policy with demand := demand, purging := purging, openSince := openSince })
    (parked : t.drive.vehicle = .parked ↔ x.drive.vehicle = .parked) (est : t.est = x.est) (tracker : t.tracker = x.tracker)
    (channels : t.channels = x.channels) (time : t.uptime = x.uptime) (flap : u.flap = x.flap) (filter : t.filter = x.filter) :
    Decided { decisionReads u.policy u t with blower := x.blower } t :=
  (h.driven parked).reading policy est tracker channels rfl time flap rfl filter

theorem PurgeMoved.back (h : PurgeMoved u v) : ∃ demand purging openSince,
    u.policy = { v.policy with demand := demand, purging := purging, openSince := openSince } :=
  ⟨u.policy.demand, u.policy.purging, u.policy.openSince, by rw [h.policy]⟩

theorem PurgeMoved.back_twice (h : PurgeMoved u v) (h' : PurgeMoved v w) : ∃ demand purging openSince,
    u.policy = { w.policy with demand := demand, purging := purging, openSince := openSince } :=
  ⟨u.policy.demand, u.policy.purging, u.policy.openSince, by rw [h'.policy, h.policy]⟩

theorem door_either (different : second ≠ first) (d : Door) : d = first ∨ d = second := by
  cases d <;> cases first <;> cases second <;> simp at different ⊢

/-- Both doors, then the decision. -/
theorem decisionLast_took (different : second ≠ first) (u : State) :
    CabinTook u (fullDecision (reworkDoor second (reworkDoor first u))) := by
  have first' := reworkDoor_doorMoved first u
  have second' := reworkDoor_doorMoved second (reworkDoor first u)
  obtain ⟨doors, stops, stays⟩ := first'.both different second' rfl rfl
  refine ⟨by simpa using doors, by simpa using stops, by simpa using stays, fun d still => ?_, ⟨_, reworkDoors_purgeHanded different u, ?_⟩,
    fun same => ?_⟩
  · rcases door_either different d with rfl | rfl
    · rw [reworkDoor_still (still second different) (first'.other _ different)]
      exact decisionAfterDoor_took d u
    · rw [reworkDoor_same (still first different.symm)]
      exact decisionAfterDoor_took d u
  · exact (fullDecision_decided _).amongDoors
      ((reworkDoor_purgeMoved first u).back_twice (reworkDoor_purgeMoved second _))
      (by simp) (by simp) (by simp) (by simp) (by simp) (by simp) (by simp)
  · rw [reworkDoor_same (same first), reworkDoor_same (same second)]

/-- One door, the decision, then the other door. -/
theorem decisionBetween_took (different : second ≠ first) (u : State) :
    CabinTook u (reworkDoor second (fullDecision (reworkDoor first u))) := by
  have first' := reworkDoor_doorMoved first u
  have second' := reworkDoor_doorMoved second (fullDecision (reworkDoor first u))
  obtain ⟨doors, stops, stays⟩ := first'.both different second' (by simp) (by simp)
  refine ⟨doors, stops, stays, fun d still => ?_, ⟨_, reworkDoor_purgeHanded first u, ?_⟩, fun same => ?_⟩
  · rcases door_either different d with rfl | rfl
    · rw [reworkDoor_still (still second different) (by simp [first'.other _ different])]
      exact decisionAfterDoor_took d u
    · rw [reworkDoor_same (still first different.symm)]
      exact doorAfterDecision_took d u
  · refine ((fullDecision_decided _).purged (reworkDoor_purgeMoved second _) (by simp) (by simp)).amongDoors
      (reworkDoor_purgeMoved first u).back ?_ (by simp) (by simp) (by simp) (by simp) (by simp) (by simp)
    rw [reworkDoor_parked, fullDecision_drive]
  · rw [reworkDoor_same (same first), reworkDoor_still (same second) (by simp)]

/-- The decision, then both doors. -/
theorem decisionFirst_took (different : second ≠ first) (u : State) :
    CabinTook u (reworkDoor second (reworkDoor first (fullDecision u))) := by
  have first' := reworkDoor_doorMoved first (fullDecision u)
  have second' := reworkDoor_doorMoved second (reworkDoor first (fullDecision u))
  obtain ⟨doors, stops, stays⟩ := first'.both different second' rfl rfl
  simp only [fullDecision_keeps] at doors stops stays
  refine ⟨doors, stops, stays, fun d still => ?_, ⟨u.blower, fun _ _ => .inl rfl, ?_⟩, fun same => ?_⟩
  · rcases door_either different d with rfl | rfl
    · rw [reworkDoor_still (still second different) (by simp [first'.other _ different])]
      exact doorAfterDecision_took d u
    · rw [reworkDoor_still (still first different.symm) (by simp)]
      exact doorAfterDecision_took d u
  · refine (((fullDecision_decided u).purged (reworkDoor_purgeMoved first _) (by simp) (by simp)).purged
      (reworkDoor_purgeMoved second _) (by simp) ?_).amongDoors ⟨_, _, _, rfl⟩ ?_ (by simp) (by simp) (by simp) (by simp) (by simp)
      (by simp)
    · rw [reworkDoor_parked, fullDecision_drive]
    · rw [reworkDoor_parked, reworkDoor_parked, fullDecision_drive]
  · rw [reworkDoor_still (same first) (by simp), reworkDoor_still (same second) (by simp)]

/-- Whatever order the free value picks (log 5). -/
theorem cabinEffects_took (order : Nat) (u : State) : CabinTook u (cabinEffects order u) := by
  have krb : Door.krb ≠ Door.drv := by decide
  unfold cabinEffects
  split
  · exact decisionLast_took krb u
  · exact decisionLast_took krb.symm u
  · exact decisionBetween_took krb u
  · exact decisionBetween_took krb.symm u
  · exact decisionFirst_took krb u
  · exact decisionFirst_took krb.symm u

end

/-! ### The request -/

/-- A polarity code stands for its polarity, and no code above 1 does (R93). -/
theorem polarity_ofCode (n : Nat) :
    (n ≤ 1 → Polarity.ofCode n = some (if n = 0 then .normal else .inverted)) ∧ (1 < n → Polarity.ofCode n = none) := by
  match n with
  | 0 => exact ⟨fun _ => rfl, by omega⟩
  | 1 => exact ⟨fun _ => rfl, by omega⟩
  | n + 2 => exact ⟨by omega, fun _ => rfl⟩

/-- The settings that CABIN stores, by the rules' ranges (R4). -/
theorem cabinSettings_eq (f : CabinFields) : cabinSettings f =
    { volume := toRange 2000 6000 f.volume.toNat, occupants := toRange 0 3 f.occupants.toNat,
      co2Reference := toRange 350 600 f.co2Reference.toNat, drvExchange := toRange 0 13107 f.drvExchange.toNat,
      krbExchange := toRange 0 13107 f.krbExchange.toNat, weight := toRange 0 256 f.weight.toNat } := by
  unfold cabinSettings
  congr 1 <;> exact field_eq _ (by decide)

/-- Settles O12: the settings stored, then both doors and the decision in an order that does not matter. -/
theorem cabinStored : Obligations.CabinStored := by
  intro f s free
  refine ⟨fun unknown => ?_, fun drv krb => ?_⟩
  · refine onlyAnswered (result := .refusedValue) rfl free ?_ rfl
    have refused : Polarity.ofCode f.drvPolarity.toNat = none ∨ Polarity.ofCode f.krbPolarity.toNat = none :=
      unknown.imp (polarity_ofCode _).2 (polarity_ofCode _).2
    show serveCabin f _ = _
    unfold serveCabin
    rcases refused with refused | refused
    · rw [refused]
      rfl
    · rw [refused]
      split <;> trivial
  set pd : Polarity := if f.drvPolarity.toNat = 0 then .normal else .inverted with pd_def
  set pk : Polarity := if f.krbPolarity.toNat = 0 then .normal else .inverted with pk_def
  set v := storeCabin (cabinSettings f) pd pk (s.atHead (.cabin f)) with v_def
  set u := v.withFreeCount (s.freeCount + 1) with u_def
  set t := cabinEffects (Config.freeChoice s.freeCount) u with t_def
  have served : serveRequest (.cabin f) (s.atHead (.cabin f)) = sendReply 0x02#8 (doneOr (cabinClamped f)) [] t := by
    show serveCabin f _ = _
    unfold serveCabin
    rw [(polarity_ofCode _).1 drv, (polarity_ofCode _).1 krb]
    rfl
  obtain ⟨next, answered⟩ := takenAnswer (c := .cabin f) rfl free served (by simp [t_def, u_def, v_def, storeCabin])
    (doneOr_result (cabinClamped f))
  have result := toNat_result (clamped := cabinClamped f)
    (p := Outside 2000 6000 f.volume.toNat ∨ Outside 0 3 f.occupants.toNat
            ∨ Outside 350 600 f.co2Reference.toNat ∨ Outside 0 13107 f.drvExchange.toNat
            ∨ Outside 0 13107 f.krbExchange.toNat ∨ Outside 0 256 f.weight.toNat)
    (by simp [cabinClamped, clamps_iff, or_assoc])
  obtain ⟨doors, stops, stays, purge, ⟨b, handed, decided⟩, same⟩ := cabinEffects_took (Config.freeChoice s.freeCount) u
  rw [← t_def] at doors stops stays purge decided same
  have uDoor : ∀ d, (u.drive.door d).isOpen = (s.drive.door d).isOpen ∧ (u.drive.door d).accepted = (s.drive.door d).accepted :=
    fun d => by cases d <;> exact ⟨rfl, rfl⟩
  have opens : ∀ d, (t.drive.door d).isOpen = (u.drive.door d).opens := fun d => by rw [doors d]
  have still : ∀ d, (t.drive.door d).isOpen = (s.drive.door d).isOpen → (u.drive.door d).opens = (u.drive.door d).isOpen :=
    fun d h => by rw [← opens, h, (uDoor d).1]
  refine ⟨_, (cabinClamped f).toNat, next, answered, result.1, result.2, ?_, ?_, ?_, fun d => ?_, ?_, ?_, fun d others => ?_,
    ⟨b, handed, ?_⟩, fun unchanged => ?_, ⟨by simp [t_def, u_def, v_def, storeCabin], fun p unlisted => ?_⟩, fun parked unchanged => ?_⟩
  · simp only [sendReply_keeps, t_def, cabinEffects_keeps, ← cabinSettings_eq]
    rfl
  · exact (congrArg DoorRecord.polarity (doors .drv)).trans rfl
  · exact (congrArg DoorRecord.polarity (doors .krb)).trans rfl
  · show t.drive.door d = { s.drive.door d with
      polarity := (t.drive.door d).polarity, isOpen := doorByRules (s.drive.door d).accepted (t.drive.door d).polarity }
    rw [doors d, opens_eq]
    cases d <;> rfl
  · rintro ⟨d, closed, opened⟩ halted
    exact stops ⟨d, by rw [(uDoor d).1, closed], by rw [← opens]; exact opened⟩ halted
  · intro rests
    exact stays (rests.imp (fun all d opened => by rw [(uDoor d).1]; exact all d ((opens d).trans opened)) id)
  · exact purgeTookDoor_congr (purge d fun other different => still other (others other different))
      (fun d => (uDoor d).1.symm) rfl rfl rfl rfl rfl rfl rfl rfl rfl rfl
  · exact (decided.replied _ _ _).reading ⟨_, _, _, rfl⟩ rfl rfl rfl rfl rfl rfl rfl rfl
  · have runs := same fun d => still d (unchanged d)
    refine ⟨?_, ⟨by simp [runs, u_def, v_def, storeCabin], fun p unlisted => ?_⟩, ?_, ?_⟩
    · refine ((fullDecision_decided u).then (t' := sendReply (Request.cabin f).code (doneOr (cabinClamped f)) [] t)
        (by simp [runs]) (by simp [runs]) fun n _ pends => ?_).reading ⟨_, _, _, rfl⟩ ?_ ?_ ?_ ?_ ?_ ?_ ?_ ?_
      · rw [runs]
        exact pends
      all_goals simp [decisionReads, runs, u_def, v_def, storeCabin]
    · cases p <;> simp [Part.Same] at unlisted ⊢ <;> simp [runs, u_def, v_def, storeCabin]
    · simp [runs, u_def, v_def, storeCabin]
    · simp [runs, u_def, v_def, storeCabin]
  · cases p <;> simp [Part.Same] at unlisted ⊢ <;> simp [t_def, u_def, v_def, storeCabin]
  · have runs := same fun d => still d (unchanged d)
    rw [fullDecision_of_parked (by exact parked)] at runs
    refine ⟨by simp [runs, u_def, v_def, storeCabin], fun p unlisted => ?_⟩
    cases p <;> simp [Part.Same] at unlisted ⊢ <;> simp [runs, u_def, v_def, storeCabin]

end Sys2Proof.Machine
end

section
/-! The journal's writes by the rules of chapter 8: where a write finds its target, what the entry to FAILED leaves and releases, and what
a trigger starts. -/

namespace Sys2Proof.Machine

/-! ### The entry to FAILED (R163) -/

section
variable {s t u : State} {j : Journal} {w : WriteInFlight} {put : WritePhase → WriteInFlight}

theorem releasePark_link (s u : State) (dropped : u.link.dropped = s.link.dropped) (badFrame : u.link.badFrame = s.link.badFrame) :
    (releasePark u).link = { u.link with sending := some (replyByRules 0x97#8 [0#8, statusOf s u]), holding := false,
                                         dropped := false, badFrame := false } := by
  rw [releasePark, sendReply_link, linkStatus_eq dropped badFrame]
  rfl

theorem releaseRestart_link (s u : State) (dropped : u.link.dropped = s.link.dropped) (badFrame : u.link.badFrame = s.link.badFrame) :
    (releaseRestart u).link = { u.link with sending := some (replyByRules 0x99#8 [0#8, statusOf s u]), holding := false,
                                            dropped := false, badFrame := false } := by
  rw [releaseRestart, sendReply_link, linkStatus_eq dropped badFrame]
  rfl

/-- FAILED with JOURNAL-FAIL raised, before any reply. -/
def failedJournal (u : State) : State :=
  raise .journalFail (u.withJournal
    { u.journal with state := .failed, write := none, pendingWrite := none, restartWaiting := false })

theorem enterFailed_notices (u : State) : (enterFailed u).notices = (failedJournal u).notices := by
  unfold enterFailed failedJournal
  dsimp only
  split <;> split <;> simp

theorem enterFailed_raisesOnly (u : State) : RaisesOnly [.journalFail] u (enterFailed u) := by
  have raised : RaisesOnly [.journalFail] u (failedJournal u) := (raise_raisesOnly .journalFail _).after rfl
  exact raised.trans (.of_eq (enterFailed_notices u))

theorem enterFailed_failed (u : State) : JournalFailed u.journal (enterFailed u) := by
  refine ⟨enterFailed_journal u, ?_⟩
  rw [enterFailed_notices]
  exact raise_pends .journalFail _ (by simp [NoticeKind.single, Notice.kind])

/-- An owed PARK reply and a waiting RESTART are released with JOURNAL-FAIL in the status (R163, log 17). -/
theorem enterFailed_releases (u : State) : FailureReleases u.journal.owesPark u (enterFailed u) := by
  have status : statusOf u (enterFailed u) = statusOf u (failedJournal u) :=
    statusOf_congr u (enterFailed_notices u) (by simp [failedJournal])
  have link : (failedJournal u).link = u.link := by simp [failedJournal]
  refine ⟨fun unowed calm => ?_, fun owed calm => ?_, fun unowed waits => ?_⟩
  · have eq : enterFailed u = failedJournal u := by simp [enterFailed, failedJournal, unowed, calm]
    rw [eq, link]
  · have eq : enterFailed u = releasePark (failedJournal u) := by simp [enterFailed, failedJournal, owed, calm]
    rw [status, eq, releasePark_link u _ (by rw [link]) (by rw [link]), link]
  · have eq : enterFailed u = releaseRestart (failedJournal u) := by simp [enterFailed, failedJournal, unowed, waits]
    rw [status, eq, releaseRestart_link u _ (by rw [link]) (by rw [link]), link]

/-- What the entry to FAILED releases reads of the state before it the link port and the waiting RESTART. -/
theorem FailureReleases.since {owed : Bool} (h : FailureReleases owed u t) (link : u.link = s.link)
    (waiting : u.journal.restartWaiting = s.journal.restartWaiting) : FailureReleases owed s t := by
  have status : statusOf u t = statusOf s t := by simp [statusOf, link]
  unfold FailureReleases at h ⊢
  simpa only [link, waiting, status] using h

/-! ### The target (R157, R158) -/

/-- From s to t the write w has looked for a target: nothing has been raised or sent but where the journal has failed on the way, and then
JOURNAL-FAIL alone and what was owed. -/
structure Searched (w : WriteInFlight) (s t : State) : Prop where
  calm : t.journal.state ≠ .failed → t.notices = s.notices ∧ t.link = s.link
  fails : t.journal.state = .failed → s.journal.state ≠ .failed → FailureReleases (owesPark w s.journal) s t
  raises : RaisesOnly [.journalFail] s t
  settles : t.journal.write.isSome = true ∨ t.journal.restartWaiting = false
  counts : t.journal.failCounts = s.journal.failCounts

theorem Searched.since (h : Searched w u t) (state : u.journal.state = s.journal.state)
    (pending : u.journal.pendingWrite = s.journal.pendingWrite) (waiting : u.journal.restartWaiting = s.journal.restartWaiting)
    (counts : u.journal.failCounts = s.journal.failCounts) (notices : u.notices = s.notices) (link : u.link = s.link) :
    Searched w s t := by
  obtain ⟨calm, fails, raises, settles, counts'⟩ := h
  rw [notices, link] at calm
  rw [state, owesPark, pending] at fails
  exact ⟨calm, fun failed before => (fails failed before).since link waiting, raises.after notices, settles, counts'.trans counts⟩

theorem searched_calm (notices : t.notices = s.notices) (link : t.link = s.link) (state : t.journal.state = s.journal.state)
    (writes : t.journal.write.isSome = true) (counts : t.journal.failCounts = s.journal.failCounts) : Searched w s t :=
  ⟨fun _ => ⟨notices, link⟩, fun failed before => absurd (state.symm.trans failed) before, .of_eq notices, .inl writes, counts⟩

theorem owesPark_eq (j : Journal) (w : WriteInFlight) : ({ j with write := some w } : Journal).owesPark = owesPark w j := by
  unfold Journal.owesPark owesPark
  cases j.pendingWrite <;> rfl

/-- The entry to FAILED of a write in flight. -/
theorem enterFailed_searched (w : WriteInFlight) (s : State) :
    Searched w s (enterFailed (s.withJournal { s.journal with write := some w })) := by
  refine ⟨fun before => absurd (by rw [enterFailed_journal]) before, fun _ _ => ?_, (enterFailed_raisesOnly _).after rfl,
    .inr (by rw [enterFailed_journal]), by rw [enterFailed_journal]; rfl⟩
  rw [← owesPark_eq]
  exact (enterFailed_releases (s.withJournal { s.journal with write := some w })).since rfl rfl

theorem mayErase_iff (j : Journal) (k : Nat) : MayErase j k ↔ k < 8 ∧ j.mayErase k = true := by
  unfold MayErase Journal.mayErase
  cases j.newest <;> simp [and_assoc]

/-- The first sector that may be erased in a ring order (R158, step 2). -/
theorem ring_find (j : Journal) (first : Nat) :
    (∀ k, NextSector j first k → ((List.range 8).map fun i => (first + i) % 8).find? j.mayErase = some k)
      ∧ ((∀ k, ¬MayErase j k) → ((List.range 8).map fun i => (first + i) % 8).find? j.mayErase = none) := by
  have may : ∀ i, MayErase j ((first + i) % 8) ↔ j.mayErase ((first + i) % 8) = true := fun i => by
    rw [mayErase_iff]
    exact ⟨fun h => h.2, fun h => ⟨Nat.mod_lt _ (by decide), h⟩⟩
  rw [List.find?_map]
  refine ⟨fun k next => ?_, fun none => ?_⟩
  · obtain ⟨i, small, rfl, allowed, before⟩ := next
    have found : (List.range 8).find? (j.mayErase ∘ fun i => (first + i) % 8) = some i := by
      refine List.find?_range_eq_some.mpr ⟨(may i).mp allowed, List.mem_range.mpr small, fun i' earlier => ?_⟩
      simpa using mt (may i').mpr (before i' earlier)
    rw [found]
    rfl
  · rw [List.find?_range_eq_none.mpr fun i _ => by simpa using mt (may i).mpr (none _)]
    rfl

/-- The choice of a sector along a ring order. -/
theorem chooseSector_chosen {order : List Nat} {first : Nat} (ring : order = (List.range 8).map fun i => (first + i) % 8)
    (w : WriteInFlight) (s : State) :
    SectorChosen (fun x => { w with phase := x }) first s.journal (chooseSector w order s) := by
  obtain ⟨next, exhausted⟩ := ring_find s.journal first
  rw [← ring] at next exhausted
  refine ⟨fun k chosen => ?_, fun none => ?_⟩
  · simp only [chooseSector, next k chosen]
    rfl
  · simp only [chooseSector, exhausted none]
    exact enterFailed_failed _

theorem chooseSector_searched (w : WriteInFlight) (order : List Nat) (s : State) : Searched w s (chooseSector w order s) := by
  unfold chooseSector
  split
  · exact searched_calm rfl rfl rfl rfl rfl
  · exact enterFailed_searched w s

theorem searchOrder_ring (j : Journal) :
    j.searchOrder = (List.range 8).map fun i => ((j.activeSector.map (· + 1)).getD 0 + i) % 8 := by
  unfold Journal.searchOrder
  split
  next a active =>
    rw [active]
    rfl
  next absent =>
    rw [absent]
    rfl

theorem retireActive_retired (j : Journal) : j.retireActive = { j with retired := retiredBySwitch j } := by
  obtain active | ⟨a, active⟩ := Option.eq_none_or_eq_some j.activeSector
  · have stands : j.retireActive = j := by simp only [Journal.retireActive, active]
    have retired : retiredBySwitch j = j.retired := by simp only [retiredBySwitch, active]
    rw [retired]
    exact stands
  · have acts : j.retireActive = if 2 ≤ j.failCounts.get a then j.retire a else j := by simp only [Journal.retireActive, active]
    have retired : retiredBySwitch j
        = if a ∉ j.retired ∧ 2 ≤ j.failCounts.get a then j.retired ++ [a] else j.retired := by simp only [retiredBySwitch, active]
    rw [acts, retired]
    by_cases failed : 2 ≤ j.failCounts.get a
    · rw [if_pos failed, Journal.retire]
      by_cases already : a ∈ j.retired
      · rw [if_pos already, if_neg fun new => new.1 already]
      · rw [if_neg already, if_pos ⟨already, failed⟩]
    · rw [if_neg failed, if_neg fun new => failed new.2]

/-- A switch retires the active sector or not, and then chooses (R158). -/
theorem switchSector_chosen (w : WriteInFlight) (s : State) {r : List Nat} (retired : r = retiredBySwitch s.journal) :
    (r ≠ s.journal.retired → 6 < r.length → JournalFailed { s.journal with retired := r } (switchSector w s))
      ∧ (r = s.journal.retired ∨ r.length ≤ 6 →
          SectorChosen (fun x => { w with phase := x }) ((s.journal.activeSector.map (· + 1)).getD 0)
            { s.journal with retired := r } (switchSector w s)) := by
  set u := s.withJournal { s.journal with retired := r, write := some w } with u_def
  have eq : switchSector w s = if decide (r ≠ s.journal.retired) && decide (8 < r.length + 2) then enterFailed u
      else chooseSector w s.journal.searchOrder u := by
    unfold switchSector
    rw [retireActive_retired, ← retired]
    rfl
  rw [eq]
  refine ⟨fun new few => ?_, fun stays => ?_⟩
  · rw [if_pos (by simp [new]; omega)]
    exact enterFailed_failed u
  · rw [if_neg (by
      simp only [Bool.and_eq_true, decide_eq_true_eq, not_and]
      intro new
      have := stays.resolve_left new
      omega)]
    exact chooseSector_chosen (searchOrder_ring s.journal) w u

theorem switchSector_searched (w : WriteInFlight) (s : State) : Searched w s (switchSector w s) := by
  obtain ⟨r, retired⟩ := retireActive_eq s.journal
  unfold switchSector
  dsimp only
  rw [retired]
  split
  · exact (enterFailed_searched w (s.withJournal { s.journal with retired := r })).since rfl rfl rfl rfl rfl rfl
  · exact (chooseSector_searched w _ (s.withJournal { s.journal with retired := r, write := some w })).since rfl rfl rfl rfl rfl rfl

theorem beginProgram_begun (w : WriteInFlight) (a i : Nat) (s : State) :
    (s.journal.nextSequence ≠ 4294967295 → beginProgram w a i s = s.withJournal { s.journal with
        write := some { w with phase := .programming a i s.journal.nextSequence },
        nextSequence := s.journal.nextSequence + 1 })
      ∧ (s.journal.nextSequence = 4294967295 →
          beginProgram w a i s = enterFailed (s.withJournal { s.journal with write := some w })) := by
  unfold beginProgram
  exact ⟨fun more => if_neg more, fun last => if_pos last⟩

theorem beginProgram_searched (w : WriteInFlight) (a i : Nat) (s : State) : Searched w s (beginProgram w a i s) := by
  obtain ⟨more, last⟩ := beginProgram_begun w a i s
  by_cases h : s.journal.nextSequence = 4294967295
  · rw [last h]
    exact enterFailed_searched w s
  · rw [more h]
    exact searched_calm rfl rfl rfl rfl rfl

theorem erasedFrom_iff (s : State) (a i : Nat) : ErasedFrom s.journal s.flash a i ↔ i < 16
    ∧ (decide (s.journal.writePosition ≤ i) && decide (s.flash.read (slotNumber a i) = .erased)) = true := by
  simp only [ErasedFrom, slotNumber, Bool.and_eq_true, decide_eq_true_eq]
  exact and_congr_right fun _ => and_congr_right fun _ => decide_eq_true_iff.symm

/-- The first ERASED slot from the write position upward (R157). -/
theorem erasedSlot_find (s : State) (a : Nat) :
    (∀ i, ErasedFrom s.journal s.flash a i → (∀ i', i' < i → ¬ErasedFrom s.journal s.flash a i') → s.erasedSlot a = some i)
      ∧ ((∀ i, ¬ErasedFrom s.journal s.flash a i) → s.erasedSlot a = none) := by
  have order : s.erasedSlot a = (List.range 16).find? fun i =>
    decide (s.journal.writePosition ≤ i) && decide (s.flash.read (slotNumber a i) = .erased) := rfl
  rw [order]
  refine ⟨fun i erased before => ?_, fun none => ?_⟩
  · obtain ⟨small, reads⟩ := (erasedFrom_iff s a i).mp erased
    refine List.find?_range_eq_some.mpr ⟨reads, List.mem_range.mpr small, fun i' earlier => ?_⟩
    by_contra reads
    exact before i' earlier ((erasedFrom_iff s a i').mpr ⟨by omega, by simpa only [Bool.not_eq_true', Bool.not_eq_false] using reads⟩)
  · refine List.find?_range_eq_none.mpr fun i small => ?_
    by_contra reads
    exact none i ((erasedFrom_iff s a i).mpr ⟨small, by simpa only [Bool.not_eq_true', Bool.not_eq_false] using reads⟩)

/-- Where a write finds its target (R157, R158). -/
theorem seekTarget_sought (w : WriteInFlight) (s : State) :
    TargetSought (fun x => { w with phase := x }) s.journal (seekTarget w s) := by
  unfold TargetSought
  rw [show (seekTarget w s).flash = s.flash by simp]
  refine ⟨fun a i active erased before => ?_, fun none r retired => ?_⟩
  · have found := (erasedSlot_find s a).1 i erased before
    have eq : seekTarget w s = beginProgram w a i s := by simp only [seekTarget, active, found]
    obtain ⟨more, last⟩ := beginProgram_begun w a i s
    rw [eq]
    refine ⟨fun h => ?_, fun h => ?_⟩
    · rw [more h]
      rfl
    · rw [last h]
      exact enterFailed_failed _
  · have eq : seekTarget w s = switchSector w s := by
      unfold seekTarget
      split
      next => rfl
      next a active => rw [(erasedSlot_find s a).2 (none a active)]
    rw [eq]
    exact switchSector_chosen w s retired

theorem seekTarget_searched (w : WriteInFlight) (s : State) : Searched w s (seekTarget w s) := by
  unfold seekTarget
  split
  · exact switchSector_searched w s
  · split
    · exact beginProgram_searched w _ _ s
    · exact switchSector_searched w s

end
end Sys2Proof.Machine
end

section
/-! What a trigger does in each state of the journal (R156, R157, R163, R169), and with it CKPT's expiry, FILTER FIT and PARK. -/

namespace Sys2Proof.Machine

/-! ### A trigger -/

section
variable {s t : State} {kind : RecordKind} {owed : Bool}

theorem restartReleased_iff (s : State) :
    s.restartReleased = true ↔ s.link.sending.isSome = true ∧ s.link.queue.head? = some .restart := by
  simp [State.restartReleased]

theorem trigger_released (h : s.restartReleased = true) : trigger kind owed s = s := by
  unfold trigger
  rw [if_pos h]

theorem trigger_scanning (h : s.journal.state = .scanning) : trigger kind owed s = s := by
  unfold trigger
  simp [h]

theorem trigger_failed (released : s.restartReleased = false) (h : s.journal.state = .failed) :
    trigger kind owed s = if owed then releasePark s else s := by
  unfold trigger
  simp [released, h]

theorem trigger_busy (released : s.restartReleased = false) (ready : s.journal.state = .ready)
    (busy : s.journal.write.isSome = true) : trigger kind owed s
      = s.withJournal { s.journal with pendingWrite := some (mergePending kind owed s.journal.pendingWrite) } := by
  obtain ⟨w, writing⟩ := Option.isSome_iff_exists.mp busy
  unfold trigger
  simp [released, ready, writing]

theorem trigger_idle (released : s.restartReleased = false) (ready : s.journal.state = .ready) (idle : s.journal.write = none) :
    trigger kind owed s = startWrite kind owed s := by
  unfold trigger
  simp [released, ready, idle]

/-- A trigger that owes no PARK reply is dropped outside READY (R157, R163, log 14). -/
theorem trigger_dropped (notReady : s.journal.state ≠ .ready) : trigger kind false s = s := by
  cases released : s.restartReleased
  · cases state : s.journal.state
    · exact trigger_scanning state
    · exact absurd state notReady
    · exact trigger_failed released state
  · exact trigger_released released

/-- A fresh write looks for its target with the snapshot of the state that starts it (R157). -/
theorem startWrite_sought (kind : RecordKind) (owed : Bool) (s : State) :
    TargetSought (freshWrite kind owed (startWrite kind owed s)) s.journal (startWrite kind owed s) := by
  have put : freshWrite kind owed (startWrite kind owed s) = fun x =>
      { kind := kind, snapshot := { filter := s.filter, tally := s.tally }, parkOwed := owed, phase := x } := by
    funext x
    simp [freshWrite]
  rw [put]
  exact seekTarget_sought { kind := kind, snapshot := { filter := s.filter, tally := s.tally }, parkOwed := owed, phase := .erasing 0 } s

/-- A fresh write raises nothing and sends nothing but where the journal fails, and then releases what it owes alone, since nothing
waits without a write (R160, R163, R167). -/
theorem startWrite_searched (kind : RecordKind) (owed : Bool) (s : State) (quiet : s.journal.pendingWrite = none) :
    ((startWrite kind owed s).journal.state ≠ .failed →
        (startWrite kind owed s).notices = s.notices ∧ (startWrite kind owed s).link = s.link)
      ∧ ((startWrite kind owed s).journal.state = .failed → s.journal.state ≠ .failed →
          FailureReleases owed s (startWrite kind owed s)) := by
  obtain ⟨calm, fails, -⟩ := seekTarget_searched
    { kind := kind, snapshot := { filter := s.filter, tally := s.tally }, parkOwed := owed, phase := .erasing 0 } s
  have owes : owesPark { kind := kind, snapshot := { filter := s.filter, tally := s.tally }, parkOwed := owed, phase := .erasing 0 }
      s.journal = owed := by simp [owesPark, quiet]
  rw [owes] at fails
  exact ⟨calm, fails⟩

theorem trigger_raisesOnly (kind : RecordKind) (owed : Bool) (s : State) : RaisesOnly [.journalFail] s (trigger kind owed s) := by
  unfold trigger
  split
  · exact .refl s
  · split
    · exact .refl s
    · split
      · exact .of_eq (by simp)
      · exact .refl s
    · split
      · exact (seekTarget_searched _ s).raises
      · exact .of_eq rfl

/-- What a trigger without an owed reply leaves beside the journal: the link port stands, and the notices but where the journal fails
(R157, R163). -/
theorem trigger_quiet (quiet : JournalQuiet s.journal) : (trigger kind false s).link = s.link
    ∧ ((trigger kind false s).journal.state = s.journal.state → (trigger kind false s).notices = s.notices) := by
  by_cases ready : s.journal.state = .ready
  · cases released : s.restartReleased
    · cases writing : s.journal.write with
      | some w => rw [trigger_busy released ready (by simp [writing])]; exact ⟨rfl, fun _ => rfl⟩
      | none =>
        obtain ⟨pending, waiting⟩ := quiet writing
        obtain ⟨calm, fails⟩ := startWrite_searched kind false s pending
        rw [trigger_idle released ready writing]
        by_cases failed : (startWrite kind false s).journal.state = .failed
        · obtain ⟨link, -⟩ := fails failed (by simp [ready])
          exact ⟨link rfl waiting, fun same => by simp [failed, ready] at same⟩
        · exact ⟨(calm failed).2, fun _ => (calm failed).1⟩
    · rw [trigger_released released]
      exact ⟨rfl, fun _ => rfl⟩
  · rw [trigger_dropped ready]
    exact ⟨rfl, fun _ => rfl⟩

/-- A CHECKPOINT trigger (R156, R157, R169). -/
theorem trigger_checkpoint (s : State) : CheckpointTaken s (trigger .checkpoint false s) := by
  refine ⟨fun dropped => ?_, fun ready unreleased => ⟨fun w writing => ?_, fun idle quiet => ?_⟩⟩
  · have stands : trigger .checkpoint false s = s := by
      rcases dropped with notReady | released
      · exact trigger_dropped notReady
      · exact trigger_released ((restartReleased_iff s).mpr released)
    rw [stands]
    exact ⟨rfl, rfl⟩
  all_goals
    have released : s.restartReleased = false := by
      rw [← Bool.not_eq_true, restartReleased_iff]
      rintro ⟨sending, head⟩
      rcases unreleased with absent | other
      · simp [absent] at sending
      · exact other head
  · rw [trigger_busy released ready (by simp [writing])]
    refine ⟨rfl, ?_⟩
    cases pending : s.journal.pendingWrite with
    | none => simp [mergePending]
    | some p => simp [mergePending]
  · rw [trigger_idle released ready idle]
    have link := (trigger_quiet (kind := .checkpoint) quiet).1
    rw [trigger_idle released ready idle] at link
    exact ⟨link, startWrite_sought .checkpoint false s⟩

end

/-! ### CKPT -/

/-- Settles O43: CKPT loaded again, then the trigger. -/
theorem checkpointTriggered : Obligations.CheckpointTriggered := by
  intro s quiet
  set u := s.withTimers { s.timers with ckpt := some s.journal.checkpointInterval } with u_def
  have fires : s.timers.ckpt.isSome = true → ckptExpired s = trigger .checkpoint false u := fun runs => by
    obtain ⟨n, running⟩ := Option.isSome_iff_exists.mp runs
    simp [ckptExpired, running, ckptFires, u_def]
  refine ⟨fun stopped => ?_, fun runs sending head => ?_, fun runs _ => ?_⟩
  · show Host.Outcome.next (ckptExpired s) = _
    simp [ckptExpired, stopped]
  · show Host.Outcome.next (ckptExpired s) = _
    rw [fires runs, trigger_released ((restartReleased_iff u).mpr ⟨sending, head⟩)]
    rfl
  · refine ⟨trigger .checkpoint false u, congrArg Host.Outcome.next (fires runs), by simp [u_def], ⟨by simp [u_def], fun p unlisted => ?_⟩, ?_, ?_⟩
    · cases p <;> simp [Part.Same] at unlisted ⊢ <;> simp [u_def]
    · exact trigger_checkpoint u
    · exact (trigger_quiet (s := u) quiet).2

/-! ### FILTER FIT -/

theorem filterKind_ofCode (n : Nat) : (n = 0 → FilterKind.ofCode n = some .none) ∧ (n = 1 → FilterKind.ofCode n = some .particle)
    ∧ (n = 2 → FilterKind.ofCode n = some .combined) ∧ (2 < n → FilterKind.ofCode n = none) :=
  ⟨fun h => by rw [h]; rfl, fun h => by rw [h]; rfl, fun h => by rw [h]; rfl, fun h => by
    obtain ⟨m, rfl⟩ := Nat.exists_eq_add_of_lt h
    rw [Nat.add_assoc, Nat.add_comm]
    rfl⟩

/-- The record FILTER FIT leaves, kind by kind (R143). -/
theorem fittedRecord_eq (f : FilterFitFields) :
    fittedRecord .none f =
        { kind := .none, fitDay := f.fitDay.toNat, pmCap := 25000, gasCap := some 50000, etaPmBase := 950,
          etaGasBase := some 900, pmLoad := 0, gasLoad := 0, pmAcc := 0, gasAcc := 0, suspect := false, state := .none }
      ∧ fittedRecord .particle f =
        { kind := .particle, fitDay := f.fitDay.toNat, pmCap := toRange 1000 100000 f.pmCap.toNat, gasCap := none,
          etaPmBase := toRange 500 999 f.etaPmBase.toNat, etaGasBase := none, pmLoad := 0, gasLoad := 0, pmAcc := 0,
          gasAcc := 0, suspect := false, state := .inService }
      ∧ fittedRecord .combined f =
        { kind := .combined, fitDay := f.fitDay.toNat, pmCap := toRange 1000 100000 f.pmCap.toNat,
          gasCap := some (toRange 1000 200000 f.gasCap.toNat), etaPmBase := toRange 500 999 f.etaPmBase.toNat,
          etaGasBase := some (toRange 0 999 f.etaGasBase.toNat), pmLoad := 0, gasLoad := 0, pmAcc := 0, gasAcc := 0,
          suspect := false, state := .inService } := by
  refine ⟨rfl, ?_, ?_⟩ <;> simp [fittedRecord, FilterRecord.afterReset, field_eq]

/-- The code of a known kind, and the fields it uses that are clamped (R143). -/
theorem fitClamped_iff {kind : FilterKind} {f : FilterFitFields} (known : FilterKind.ofCode f.kind.toNat = some kind) :
    fitClamped kind f = true ↔ (1 ≤ f.kind.toNat ∧ (Outside 1000 100000 f.pmCap.toNat ∨ Outside 500 999 f.etaPmBase.toNat))
      ∨ (f.kind.toNat = 2 ∧ (Outside 1000 200000 f.gasCap.toNat ∨ Outside 0 999 f.etaGasBase.toNat)) := by
  obtain ⟨none, particle, combined, unknown⟩ := filterKind_ofCode f.kind.toNat
  have code : f.kind.toNat = 0 ∨ f.kind.toNat = 1 ∨ f.kind.toNat = 2 := by
    by_contra other
    rw [unknown (by omega)] at known
    cases known
  rcases code with code | code | code
  · obtain rfl := Option.some.inj ((none code).symm.trans known)
    simp [fitClamped, code]
  · obtain rfl := Option.some.inj ((particle code).symm.trans known)
    simp [fitClamped, code, clamps_iff]
  · obtain rfl := Option.some.inj ((combined code).symm.trans known)
    simp [fitClamped, code, clamps_iff, or_assoc]

/-- Settles O22: the record replaced, then the trigger. -/
theorem filterFitTaken : Obligations.FilterFitTaken := by
  intro f s free quiet
  obtain ⟨none, particle, combined, unknown⟩ := filterKind_ofCode f.kind.toNat
  refine ⟨fun refused => ?_, fun taken => ?_⟩
  · exact onlyAnswered (result := .refusedValue) rfl free (by simp [serveRequest, serveFilterFit, unknown refused, Request.code]) rfl
  obtain ⟨kind, known⟩ : ∃ kind, FilterKind.ofCode f.kind.toNat = some kind := by
    obtain code | code | code : f.kind.toNat = 0 ∨ f.kind.toNat = 1 ∨ f.kind.toNat = 2 := by omega
    · exact ⟨_, none code⟩
    · exact ⟨_, particle code⟩
    · exact ⟨_, combined code⟩
  have ⟨notScanning, sending, _, _⟩ := free
  set u := (s.atHead (.filterFit f)).withFilter (fittedRecord kind f) with u_def
  set t := trigger .fit false u with t_def
  have served : serveRequest (.filterFit f) (s.atHead (.filterFit f)) = sendReply 0x0B#8 (doneOr (fitClamped kind f)) [] t := by
    simp [serveRequest, serveFilterFit, known, u_def, t_def]
  obtain ⟨link, notices⟩ := trigger_quiet (kind := .fit) (s := u) quiet
  have released : u.restartReleased = false := by
    simp [State.restartReleased, u_def, sending]
  obtain ⟨next, answered⟩ := takenAnswer (c := .filterFit f) rfl free served link (doneOr_result (fitClamped kind f))
  have result := toNat_result (fitClamped_iff known)
  obtain ⟨record, record', record''⟩ := fittedRecord_eq f
  have filter : t.filter = fittedRecord kind f := by simp [t_def, u_def]
  refine ⟨_, (fitClamped kind f).toNat, next, answered, result.1, result.2, ⟨by simp [t_def, u_def], fun p unlisted => ?_⟩,
    fun code => ?_, fun code => ?_, fun code => ?_, fun failed => ?_, fun ready busy => ?_, fun ready idle => ?_, notices⟩
  · cases p <;> simp [Part.Same] at unlisted ⊢ <;> simp [t_def, u_def]
  · obtain rfl := Option.some.inj ((none code).symm.trans known)
    exact filter.trans record
  · obtain rfl := Option.some.inj ((particle code).symm.trans known)
    exact filter.trans record'
  · obtain rfl := Option.some.inj ((combined code).symm.trans known)
    exact filter.trans record''
  · have dropped : t = u := trigger_dropped (s := u) (by
      show s.journal.state ≠ .ready
      simp [failed])
    simp [dropped, u_def]
  · have joins := trigger_busy (kind := .fit) (owed := false) released (by exact ready) (by exact busy)
    rw [← t_def] at joins
    refine ⟨by simp [joins, u_def], mergePending .fit false u.journal.pendingWrite, by simp [joins], ?_⟩
    cases u.journal.pendingWrite <;> simp [mergePending]
  · have starts := trigger_idle (kind := .fit) (owed := false) released (by exact ready) (by exact idle)
    have sought := startWrite_sought .fit false u
    rw [← starts] at sought
    exact sought

/-! ### PARK -/

/-- PARK reaches the policy: the target 1000 at once, the purge and the flags cleared, the blower stopped (R33, R53). -/
theorem policyPark_policy {s : State} (parked : s.drive.vehicle = .parked) : (policyPark s).policy = { s.policy with
    target := 1000, basis := .parked, held := false, fogFlag := false, purging := false, demand := 0,
    lastChange := (policyPark s).policy.lastChange } := by
  simp [policyPark, demandDue_eq, demandByTable, parked]

theorem policyPark_level {s : State} (parked : s.drive.vehicle = .parked) (level : s.blower.level = s.policy.demand) :
    (policyPark s).blower.level = 0 := by
  unfold policyPark
  rw [recomputeDemand_level (by simpa using level)]
  simp [demandDue_eq, demandByTable, parked]

theorem policyPark_timers (s : State) : (policyPark s).timers = { s.timers with purge := none } := by simp [policyPark]

theorem policyPark_follows (s : State) : TargetFollows s (policyPark s) := by
  refine (applyNow_follows 1000 .parked s).then (by simp [policyPark]) (by simp [policyPark]) (by simp [policyPark]) fun x pends => ?_
  exact (recomputeDemand_raisesOnly _).pends (by simp [Notice.kind]) pends

/-- The state in which PARK triggers its write: parked, the policy with it, the request holding the head (R102, R196). -/
def parkedState (s : State) : State :=
  policyPark (stopPaced (setVehicle .parked ((s.atHead .park).withLink { (s.atHead .park).link with holding := true })))

theorem parkedState_parts (s : State) : (parkedState s).drive = { s.drive with vehicle := .parked }
    ∧ (parkedState s).link = { (s.atHead .park).link with holding := true } ∧ (parkedState s).journal = s.journal
    ∧ (parkedState s).timers = { s.timers with est := none, dec := none, ckpt := none, purge := none } := by
  simp [parkedState, setVehicle, stopPaced, policyPark_timers]

/-- A reply that the failing or FAILED journal releases is PARK's (R163, R196). -/
theorem parkedState_answered {s t : State} (free : PortFree s)
    (link : t.link = { (parkedState s).link with sending := some (replyByRules 0x97#8 [0#8, statusOf (parkedState s) t]),
                                                 holding := false, dropped := false, badFrame := false }) :
    Answered .park 0 [] s t := by
  have ⟨_, _, notHolding, _⟩ := free
  obtain ⟨-, before, -⟩ := parkedState_parts s
  have status : statusOf (parkedState s) t = statusOf s t := by simp [statusOf, before]
  unfold Answered
  rw [link, before, status, atHead_link]
  simp [notHolding, Request.code]

/-- Settles O33: PARK at the vehicle, the policy and the interval channels, then the trigger that its reply waits for. -/
theorem parkTaken : Obligations.ParkTaken := by
  intro s free quiet
  refine ⟨fun parked => ?_, fun driving => ?_⟩
  · exact onlyAnswered (result := .done) rfl free (by simp [serveRequest, servePark, State.isParked, parked, Request.code]) rfl
  have ⟨notScanning, sending, notHolding, _⟩ := free
  set u := parkedState s with u_def
  set t := trigger .park true u with t_def
  have eq : exec .park s = .next t := by
    rw [exec_request_free rfl free]
    simp [serveRequest, servePark, State.isParked, driving, takePark, t_def, u_def, parkedState]
  obtain ⟨drive, link, journal, timers⟩ := parkedState_parts s
  set v := stopPaced (setVehicle .parked ((s.atHead .park).withLink { (s.atHead .park).link with holding := true })) with v_def
  have parked : v.drive.vehicle = .parked := rfl
  have policy : t.policy = { s.policy with
      target := 1000, basis := .parked, held := false, fogFlag := false, purging := false, demand := 0,
      lastChange := t.policy.lastChange } := by
    have stands : t.policy = u.policy := by simp [t_def]
    rw [stands]
    exact policyPark_policy parked
  have released : u.restartReleased = false := by
    show (parkedState s).restartReleased = false
    simp [State.restartReleased, link, sending]
  refine ⟨t, eq, by simp [t_def, u_def, drive], by simp [t_def, u_def, timers], by rw [policy], by rw [policy], by rw [policy],
    by rw [policy], by rw [policy], by rw [policy], by rw [policy], by rw [policy], fun level => ?_,
    ⟨by simp [t_def, u_def, parkedState, setVehicle, stopPaced], fun p unlisted => ?_⟩, fun failed => ?_, fun ready busy => ?_, ?_,
    fun ready idle => ⟨?_, fun stays => ?_⟩, fun ready failed => ?_⟩
  · have stands : t.blower = u.blower := by simp [t_def]
    rw [stands]
    exact policyPark_level parked level
  · cases p <;> simp [Part.Same] at unlisted ⊢ <;> simp [t_def, u_def, parkedState, setVehicle, stopPaced]
  · have eq : t = releasePark u := trigger_failed (kind := .park) (owed := true) released (journal ▸ failed)
    rw [eq]
    refine ⟨by simp [u_def, journal], parkedState_answered free ?_⟩
    rw [releasePark_link u u rfl rfl]
    rfl
  · have joins : t = _ := trigger_busy (kind := .park) (owed := true) released (journal ▸ ready) (journal ▸ busy)
    rw [joins]
    refine ⟨by simp [u_def, journal], by simp [u_def, link, sending], by simp [u_def, link], _, rfl, ?_⟩
    cases u.journal.pendingWrite <;> simp [mergePending]
  · exact ((policyPark_follows v).after rfl rfl rfl rfl).then (by simp [t_def, u_def, parkedState, v_def])
      (by simp [t_def, u_def, parkedState, v_def]) (by simp [t_def, u_def, parkedState, v_def]) fun x pends =>
        (trigger_raisesOnly .park true u).pends (by simp [Notice.kind]) pends
  · have starts : t = startWrite .park true u := trigger_idle released (journal ▸ ready) (journal ▸ idle)
    have sought := startWrite_sought .park true u
    rw [← starts, u_def, journal] at sought
    exact sought
  · have starts : t = startWrite .park true u := trigger_idle released (journal ▸ ready) (journal ▸ idle)
    obtain ⟨calm, -⟩ := startWrite_searched .park true u (journal ▸ (quiet idle).1)
    rw [← starts] at calm
    rw [(calm (by simp [stays])).2, u_def, link]
    exact ⟨sending, rfl⟩
  · have idle : s.journal.write = none := by
      by_contra busy
      have joins : t = _ := trigger_busy (kind := .park) (owed := true) released (journal ▸ ready)
        (journal ▸ Option.isSome_iff_ne_none.mpr busy)
      rw [joins] at failed
      simp [u_def, journal, ready] at failed
    have starts : t = startWrite .park true u := trigger_idle released (journal ▸ ready) (journal ▸ idle)
    obtain ⟨pending, waiting⟩ := quiet idle
    obtain ⟨-, fails⟩ := startWrite_searched .park true u (journal ▸ pending)
    rw [← starts] at fails
    obtain ⟨-, owed, -⟩ := fails failed (by simp [u_def, journal, ready])
    exact parkedState_answered free (owed rfl (journal ▸ waiting))

end Sys2Proof.Machine
end

section
/-! What an erase and a program leave where they pass and where they fail (R159 to R161, R163). -/

namespace Sys2Proof.Machine

/-! ### Fail counts (R155) -/

theorem failCounts_set_same (f : FailCounts) (n : Nat) : ∀ k, (f.set k n).get k = n
  | 0 | 1 | 2 | 3 | 4 | 5 | 6 | _ + 7 => rfl

theorem failCounts_set_other (f : FailCounts) (n : Nat) {k k' : Nat} (hk : k < 8) (hk' : k' < 8) (other : k' ≠ k) :
    (f.set k n).get k' = f.get k' := by
  interval_cases k <;> interval_cases k' <;> first | rfl | exact absurd rfl other

/-! ### Erases (R159) -/

section
variable {s : State} {w : WriteInFlight}

theorem owesPark_of_write {j : Journal} (writing : j.write = some w) : j.owesPark = owesPark w j := by
  rw [← owesPark_eq, ← writing]

/-- The state in which an erase that passed begins its program, the flash as it has left it (R159). -/
def sectorErased (flash : Flash) (c : Nat) (s : State) : State :=
  (s.withFlash flash).withJournal
    { s.journal with activeSector := some c, failCounts := s.journal.failCounts.set c 0, writePosition := 0 }

theorem erasePassed_eq (writing : s.journal.write = some w) {c : Nat} (erasing : w.phase = .erasing c) :
    erasePassed s = beginProgram w c 0 (sectorErased (s.flash.eraseSector c) c s) := by
  simp only [erasePassed, writing, erasing, sectorErased]

/-- With a sequence left the program begins (R157, R159). -/
theorem sectorErased_begins (flash : Flash) (c : Nat) (w : WriteInFlight) (rest : s.journal.nextSequence ≠ 4294967295) :
    (beginProgram w c 0 (sectorErased flash c s)).notices = s.notices ∧ (beginProgram w c 0 (sectorErased flash c s)).link = s.link
    ∧ (beginProgram w c 0 (sectorErased flash c s)).journal = { s.journal with
        activeSector := some c, writePosition := 0, failCounts := s.journal.failCounts.set c 0,
        write := some { w with phase := .programming c 0 s.journal.nextSequence },
        nextSequence := s.journal.nextSequence + 1 } := by
  obtain ⟨more, -⟩ := beginProgram_begun w c 0 (sectorErased flash c s)
  rw [more rest]
  exact ⟨rfl, rfl, rfl⟩

/-- At the sequence's end the journal fails (R157, R159, R163). -/
theorem sectorErased_ends (flash : Flash) (c : Nat) (w : WriteInFlight) (ends : s.journal.nextSequence = 4294967295) :
    JournalFailed { s.journal with activeSector := some c, writePosition := 0, failCounts := s.journal.failCounts.set c 0 }
        (beginProgram w c 0 (sectorErased flash c s))
      ∧ FailureReleases (owesPark w s.journal) s (beginProgram w c 0 (sectorErased flash c s)) := by
  obtain ⟨-, last⟩ := beginProgram_begun w c 0 (sectorErased flash c s)
  set v := (sectorErased flash c s).withJournal { (sectorErased flash c s).journal with write := some w } with v_def
  have owes : v.journal.owesPark = owesPark w s.journal := owesPark_of_write rfl
  have failed := enterFailed_failed v
  have releases := enterFailed_releases v
  rw [owes] at releases
  rw [last ends]
  exact ⟨failed, releases.since rfl rfl⟩

theorem erasePassed_idle (none : ∀ w, s.journal.write = some w → ∀ c, w.phase ≠ .erasing c) : erasePassed s = s := by
  unfold erasePassed
  split
  next w writing =>
    split
    next c erasing => exact absurd erasing (none w writing c)
    next => rfl
  next => rfl

theorem eraseFailed_idle (left : List SlotOutcome) (none : ∀ w, s.journal.write = some w → ∀ c, w.phase ≠ .erasing c) :
    eraseFailed left s = s := by
  unfold eraseFailed
  split
  next w writing =>
    split
    next c erasing => exact absurd erasing (none w writing c)
    next => rfl
  next => rfl

/-- The state in which an erase that failed looks for the next sector, the flash as it has left it (R159). -/
def sectorSpoilt (flash : Flash) (c : Nat) (s : State) : State := (s.withFlash flash).withJournal (s.journal.retire c)

theorem retire_retired (j : Journal) (c : Nat) :
    j.retire c = { j with retired := if c ∈ j.retired then j.retired else j.retired ++ [c] } := by
  unfold Journal.retire
  split <;> rfl

theorem eraseFailed_eq (left : List SlotOutcome) (writing : s.journal.write = some w) {c : Nat} (erasing : w.phase = .erasing c) :
    eraseFailed left s = if (s.journal.retire c).tooFewLeft then enterFailed (sectorSpoilt (s.flash.spoilSector c left) c s)
      else chooseSector w (ringAfter c) (sectorSpoilt (s.flash.spoilSector c left) c s) := by
  simp only [eraseFailed, writing, erasing, sectorSpoilt]
  exact if_congr Iff.rfl rfl rfl

/-- The erase of a switch, or the entry to FAILED, leaves the retired list (R158, R163). -/
theorem chooseSector_retired (w : WriteInFlight) (order : List Nat) (s : State) :
    (chooseSector w order s).journal.retired = s.journal.retired := by
  unfold chooseSector
  split
  · rfl
  · rw [enterFailed_journal]
    rfl

theorem ringAfter_ring (c : Nat) : ringAfter c = (List.range 8).map fun i => (c + 1 + i) % 8 := rfl

/-- The retirement that leaves too few sectors (R159, R163). -/
theorem sectorSpoilt_fails (flash : Flash) {c : Nat} (writing : s.journal.write = some w) :
    JournalFailed (s.journal.retire c) (enterFailed (sectorSpoilt flash c s))
      ∧ FailureReleases (owesPark w s.journal) s (enterFailed (sectorSpoilt flash c s)) := by
  obtain ⟨r, retired⟩ := retire_eq s.journal c
  have owes : (sectorSpoilt flash c s).journal.owesPark = owesPark w s.journal := by
    rw [owesPark_of_write (w := w) (by simp [sectorSpoilt, retired, writing])]
    simp [sectorSpoilt, retired, owesPark]
  have releases := enterFailed_releases (sectorSpoilt flash c s)
  rw [owes] at releases
  exact ⟨enterFailed_failed _, releases.since rfl (by simp [sectorSpoilt, retired])⟩

theorem sectorSpoilt_searched (flash : Flash) {c : Nat} (w : WriteInFlight) (order : List Nat) :
    Searched w s (chooseSector w order (sectorSpoilt flash c s)) := by
  obtain ⟨r, retired⟩ := retire_eq s.journal c
  exact (chooseSector_searched w order _).since (by simp [sectorSpoilt, retired]) (by simp [sectorSpoilt, retired])
    (by simp [sectorSpoilt, retired]) (by simp [sectorSpoilt, retired]) rfl rfl

end

/-- Settles O44: the sector's slots, then the program or the next sector. -/
theorem eraseCompletes : Obligations.EraseCompletes := by
  refine ⟨fun s wf w writing c erasing small => ?_, fun s wf w writing c erasing small left => ?_, fun left s none => ?_⟩
  · have passes := erasePassed_eq writing erasing
    have flash : (erasePassed s).flash = s.flash.eraseSector c := by
      rw [passes]
      simp [sectorErased]
    have counts : (erasePassed s).journal.failCounts = s.journal.failCounts.set c 0 := by
      rw [passes]
      exact (beginProgram_searched w c 0 (sectorErased _ c s)).counts
    refine ⟨erasePassed s, rfl, ⟨by simp, fun p unlisted => ?_⟩, fun i inside => ?_, fun a outside => ?_, ?_, fun k within other => ?_,
      fun rest => ?_, fun ends => ?_⟩
    · cases p <;> simp [Part.Same] at unlisted ⊢
    · rw [flash]
      exact Flash.eraseSector_inside small inside wf
    · rw [flash]
      exact (Flash.eraseSector_outside small wf).2 a outside
    · rw [counts]
      exact failCounts_set_same _ _ _
    · rw [counts]
      exact failCounts_set_other _ _ small within other
    · obtain ⟨notices, link, journal⟩ := sectorErased_begins (s.flash.eraseSector c) c w rest
      rw [← passes] at notices link journal
      rw [counts]
      refine ⟨⟨by simp, fun p unlisted => ?_⟩, journal⟩
      cases p <;> simp [Part.Same] at unlisted ⊢ <;> assumption
    · have ended := sectorErased_ends (s.flash.eraseSector c) c w ends
      rw [← passes] at ended
      rw [counts]
      exact ended
  · have fails := eraseFailed_eq left writing erasing
    have retired := retire_retired s.journal c
    set r := if c ∈ s.journal.retired then s.journal.retired else s.journal.retired ++ [c] with r_def
    obtain ⟨failed, releases⟩ := sectorSpoilt_fails (s.flash.spoilSector c left) (c := c) writing
    have searched := sectorSpoilt_searched (s := s) (s.flash.spoilSector c left) (c := c) w (ringAfter c)
    have chosen := chooseSector_chosen (ringAfter_ring c) w (sectorSpoilt (s.flash.spoilSector c left) c s)
    have few : (s.journal.retire c).tooFewLeft = true ↔ 6 < r.length := by
      rw [retired]
      simp [Journal.tooFewLeft]
      omega
    have now : (eraseFailed left s).journal.retired = r := by
      rw [fails]
      split
      · rw [enterFailed_journal]
        simp [sectorSpoilt, retired]
      · rw [chooseSector_retired]
        simp [sectorSpoilt, retired]
    have flash : (eraseFailed left s).flash = s.flash.spoilSector c left := by
      rw [fails]
      split <;> simp [sectorSpoilt]
    refine ⟨eraseFailed left s, rfl, ⟨by simp, fun p unlisted => ?_⟩, ?_, now, fun many => ?_, fun enough => ?_,
      fun state before => ?_, fun state => ?_⟩
    · cases p <;> simp [Part.Same] at unlisted ⊢
    · rw [flash]
      exact Flash.spoilSector_left left small wf
    · rw [now] at many ⊢
      rw [fails, if_pos (few.mpr many), ← retired]
      exact failed
    · rw [now] at enough ⊢
      rw [fails, if_neg (fun h => by have := few.mp h; omega), ← retired]
      exact chosen
    all_goals rw [fails] at state ⊢
    · split at state
      next h =>
        rw [if_pos h]
        exact releases
      next h =>
        rw [if_neg h]
        exact searched.fails state before
    · split at state
      next h => exact absurd (by rw [enterFailed_journal]) state
      next h =>
        rw [if_neg h]
        exact searched.calm state
  · exact ⟨congrArg _ (erasePassed_idle none), congrArg _ (eraseFailed_idle left none)⟩

end Sys2Proof.Machine
end

section
/-! What a program leaves where it passes and where it fails (R160, R161, R163). -/

namespace Sys2Proof.Machine

section
variable {s : State} {w : WriteInFlight} {k i n : Nat}

theorem programPassed_idle (none : ∀ w, s.journal.write = some w → ∀ k i n, w.phase ≠ .programming k i n) :
    programPassed s = s := by
  unfold programPassed
  split
  next w writing =>
    split
    next k i n programming => exact absurd programming (none w writing k i n)
    next => rfl
  next => rfl

theorem programFailed_idle (left : SlotOutcome) (none : ∀ w, s.journal.write = some w → ∀ k i n, w.phase ≠ .programming k i n) :
    programFailed left s = s := by
  unfold programFailed
  split
  next w writing =>
    split
    next k i n programming => exact absurd programming (none w writing k i n)
    next => rfl
  next => rfl

/-! ### A program that passes (R160) -/

/-- The journal with the record programmed the newest one and its write ended (R160, steps 1 to 3). -/
def Journal.recorded (j : Journal) (w : WriteInFlight) (k i n : Nat) : Journal :=
  { j with newest := some { sector := k, sequence := n, kind := w.kind }, writePosition := i + 1, write := none }

/-- The state in which the record stands and an owed PARK reply has been sent (R160, steps 1 to 4). -/
def recordStands (flash : Flash) (w : WriteInFlight) (k i n : Nat) (s : State) : State :=
  if w.parkOwed then releasePark ((s.withFlash flash).withJournal (s.journal.recorded w k i n))
  else (s.withFlash flash).withJournal (s.journal.recorded w k i n)

theorem recordStands_parts (flash : Flash) (w : WriteInFlight) (k i n : Nat) (s : State) :
    (recordStands flash w k i n s).journal = s.journal.recorded w k i n ∧ (recordStands flash w k i n s).notices = s.notices
      ∧ (recordStands flash w k i n s).drive = s.drive ∧ (recordStands flash w k i n s).flash = flash
      ∧ (w.parkOwed = false → (recordStands flash w k i n s).link = s.link)
      ∧ (w.parkOwed = true → (recordStands flash w k i n s).link = { s.link with
          sending := some (replyByRules 0x97#8 [0#8, statusOf s s]), holding := false, dropped := false, badFrame := false }) := by
  unfold recordStands
  cases owed : w.parkOwed
  · simp
  · refine ⟨by simp, by simp, by simp, by simp, by simp, fun _ => ?_⟩
    exact releasePark_link s ((s.withFlash flash).withJournal (s.journal.recorded w k i n)) rfl rfl

theorem recordStands_only (flash : Flash) (w : WriteInFlight) (k i n : Nat) (s : State) :
    OnlyChanges [.flash, .journal, .link] s (recordStands flash w k i n s) := by
  unfold recordStands
  split
  all_goals
    refine ⟨by simp, fun p unlisted => ?_⟩
    cases p <;> simp [Part.Same] at unlisted ⊢

theorem programPassed_eq (writing : s.journal.write = some w) (programming : w.phase = .programming k i n) :
    programPassed s = releaseWaiting (startPending
      (recordStands (s.flash.write (slotNumber k i) (.record (w.record n))) w k i n s)) := by
  simp only [programPassed, writing, programming, recordStands, Journal.recorded]

theorem startPending_none (pending : s.journal.pendingWrite = none) : startPending s = s := by
  unfold startPending
  rw [pending]

theorem releaseWaiting_calm (calm : s.journal.restartWaiting = false) : releaseWaiting s = s := by
  unfold releaseWaiting
  simp [calm]

/-- With nothing waiting the write's end is all (R160). -/
theorem recordStands_rests (flash : Flash) (w : WriteInFlight) (k i n : Nat) (pending : s.journal.pendingWrite = none)
    (calm : s.journal.restartWaiting = false) :
    releaseWaiting (startPending (recordStands flash w k i n s)) = recordStands flash w k i n s := by
  obtain ⟨journal, -⟩ := recordStands_parts flash w k i n s
  rw [startPending_none (by rw [journal]; exact pending), releaseWaiting_calm (by rw [journal]; exact calm)]

/-- A RESTART that waited for this write alone is released (R160, step 6, R167). -/
theorem recordStands_restarts (flash : Flash) (w : WriteInFlight) (k i n : Nat) (unowed : w.parkOwed = false)
    (pending : s.journal.pendingWrite = none) (waits : s.journal.restartWaiting = true) :
    releaseWaiting (startPending (recordStands flash w k i n s))
      = releaseRestart ((s.withFlash flash).withJournal { s.journal.recorded w k i n with restartWaiting := false }) := by
  obtain ⟨journal, -⟩ := recordStands_parts flash w k i n s
  rw [startPending_none (by rw [journal]; exact pending)]
  unfold releaseWaiting
  rw [if_pos (by rw [journal]; exact ⟨waits, rfl⟩), journal]
  unfold recordStands
  rw [unowed]
  rfl

/-- The state in which the pending write starts (R160, step 5). -/
def pendingTaken (flash : Flash) (w : WriteInFlight) (k i n : Nat) (s : State) : State :=
  (recordStands flash w k i n s).withJournal { s.journal.recorded w k i n with pendingWrite := none }

/-- A pending write starts, and a RESTART waits on (R160, step 5). -/
theorem recordStands_starts (flash : Flash) (w : WriteInFlight) (k i n : Nat) {p : PendingWrite}
    (pending : s.journal.pendingWrite = some p) :
    releaseWaiting (startPending (recordStands flash w k i n s)) = startWrite p.kind p.parkOwed (pendingTaken flash w k i n s) := by
  obtain ⟨journal, -⟩ := recordStands_parts flash w k i n s
  have starts : startPending (recordStands flash w k i n s) = startWrite p.kind p.parkOwed (pendingTaken flash w k i n s) := by
    have held : (recordStands flash w k i n s).journal.pendingWrite = some p := by rw [journal]; exact pending
    simp only [startPending, held, pendingTaken]
    rw [journal]
  rw [starts]
  obtain settled := (seekTarget_searched
    { kind := p.kind, snapshot := { filter := (pendingTaken flash w k i n s).filter, tally := (pendingTaken flash w k i n s).tally },
      parkOwed := p.parkOwed, phase := .erasing 0 } (pendingTaken flash w k i n s)).settles
  unfold releaseWaiting
  rw [if_neg]
  rintro ⟨waits, none⟩
  rcases settled with writes | calm
  · simp only [startWrite, Option.isNone_iff_eq_none] at none
    simp [none] at writes
  · exact absurd waits (by simp only [startWrite]; simp [calm])

/-- What the pending write's start leaves (R156, R157, R160, R163). -/
theorem pendingTaken_parts (flash : Flash) (w : WriteInFlight) (k i n : Nat) (s : State) :
    (pendingTaken flash w k i n s).journal = { s.journal.recorded w k i n with pendingWrite := none }
      ∧ (pendingTaken flash w k i n s).notices = s.notices
      ∧ (w.parkOwed = false → (pendingTaken flash w k i n s).link = s.link) := by
  obtain ⟨-, notices, -, -, link, -⟩ := recordStands_parts flash w k i n s
  exact ⟨rfl, notices, link⟩

theorem pendingStarts_releases (flash : Flash) (w : WriteInFlight) (k i n : Nat) (p : PendingWrite) (unowed : w.parkOwed = false) :
    ((startWrite p.kind p.parkOwed (pendingTaken flash w k i n s)).journal.state ≠ .failed →
        (startWrite p.kind p.parkOwed (pendingTaken flash w k i n s)).notices = s.notices
          ∧ (startWrite p.kind p.parkOwed (pendingTaken flash w k i n s)).link = s.link)
      ∧ ((startWrite p.kind p.parkOwed (pendingTaken flash w k i n s)).journal.state = .failed → s.journal.state ≠ .failed →
          FailureReleases p.parkOwed s (startWrite p.kind p.parkOwed (pendingTaken flash w k i n s))) := by
  obtain ⟨journal, notices, link⟩ := pendingTaken_parts flash w k i n s
  obtain ⟨calm, fails⟩ := startWrite_searched p.kind p.parkOwed (pendingTaken flash w k i n s) (by rw [journal])
  rw [notices, link unowed] at calm
  exact ⟨calm, fun failed before => (fails failed (by rw [journal]; exact before)).since (link unowed) (by rw [journal]; rfl)⟩

/-! ### A program that fails (R161) -/

/-- The state in which the write looks for its target again (R161). -/
def slotSpoilt (flash : Flash) (k i : Nat) (s : State) : State :=
  (s.withFlash flash).withJournal
    { s.journal with failCounts := s.journal.failCounts.set k (s.journal.failCounts.get k + 1), writePosition := i + 1 }

theorem programFailed_eq (left : SlotOutcome) (writing : s.journal.write = some w) (programming : w.phase = .programming k i n) :
    programFailed left s = seekTarget w (slotSpoilt (s.flash.spoilSlot k i (w.record n) left) k i s) := by
  simp only [programFailed, writing, programming, slotSpoilt]

theorem slotSpoilt_searched (flash : Flash) (k i : Nat) (w : WriteInFlight) (s : State) :
    let t := seekTarget w (slotSpoilt flash k i s)
    t.journal.failCounts = s.journal.failCounts.set k (s.journal.failCounts.get k + 1)
      ∧ TargetSought (fun x => { w with phase := x }) { s.journal with
          failCounts := s.journal.failCounts.set k (s.journal.failCounts.get k + 1), writePosition := i + 1 } t
      ∧ (t.journal.state ≠ .failed → t.notices = s.notices ∧ t.link = s.link)
      ∧ (t.journal.state = .failed → s.journal.state ≠ .failed → FailureReleases (owesPark w s.journal) s t) := by
  have searched := seekTarget_searched w (slotSpoilt flash k i s)
  exact ⟨searched.counts, seekTarget_sought w (slotSpoilt flash k i s), searched.calm, fun failed before =>
    (searched.fails failed before).since rfl rfl⟩

end

/-- Settles O45: the slot, then what the write's end or its failure leads to. -/
theorem programCompletes : Obligations.ProgramCompletes := by
  refine ⟨fun s wf w writing k i n programming _ _ => ?_, fun s w writing k i n programming pending calm => ?_,
    fun s w writing k i n programming unowed pending waits => ?_, fun s w writing k i n programming p pending => ?_,
    fun s wf w writing k i n programming hk hi left => ?_, fun left s none => ?_⟩
  · refine ⟨programPassed s, rfl, ?_⟩
    have flash : (programPassed s).flash = s.flash.spoilSlot k i (w.record n) .complete := by
      rw [programPassed_eq writing programming]
      simp [recordStands_parts, Flash.spoilSlot]
    rw [flash]
    exact Flash.spoilSlot_left w k i n .complete wf
  · have passes := programPassed_eq writing programming
    rw [recordStands_rests _ w k i n pending calm] at passes
    set flash := s.flash.write (slotNumber k i) (.record (w.record n))
    obtain ⟨journal, notices, drive, -, unowed, owed⟩ := recordStands_parts flash w k i n s
    refine ⟨recordStands flash w k i n s, congrArg Host.Outcome.next passes, recordStands_only flash w k i n s, journal, unowed,
      fun owes => ?_⟩
    rw [statusOf_congr s notices drive, owed owes]
    exact ⟨rfl, rfl, rfl⟩
  · have passes := programPassed_eq writing programming
    rw [recordStands_restarts _ w k i n unowed pending waits] at passes
    generalize s.flash.write (slotNumber k i) (.record (w.record n)) = flash at passes
    refine ⟨_, congrArg Host.Outcome.next passes, ⟨by simp [releaseRestart], fun p unlisted => ?_⟩, rfl, ?_⟩
    · cases p <;> simp [Part.Same] at unlisted ⊢
    · exact releaseRestart_link s ((s.withFlash flash).withJournal { s.journal.recorded w k i n with restartWaiting := false }) rfl rfl
  · have passes := programPassed_eq writing programming
    rw [recordStands_starts _ w k i n pending] at passes
    refine ⟨programPassed s, rfl, ⟨by simp, fun p unlisted => ?_⟩, ?_⟩
    · cases p <;> simp [Part.Same] at unlisted ⊢
    · rw [passes]
      generalize s.flash.write (slotNumber k i) (.record (w.record n)) = flash
      have sought := startWrite_sought p.kind p.parkOwed (pendingTaken flash w k i n s)
      refine ⟨sought, fun unowed => (pendingStarts_releases flash w k i n p unowed).1, fun unowed =>
        (pendingStarts_releases flash w k i n p unowed).2⟩
  · have fails := programFailed_eq left writing programming
    have flash : (programFailed left s).flash = s.flash.spoilSlot k i (w.record n) left := by
      rw [fails]
      simp [slotSpoilt]
    obtain ⟨counts, sought, calm, releases⟩ := slotSpoilt_searched (s.flash.spoilSlot k i (w.record n) left) k i w s
    rw [← fails] at counts sought calm releases
    refine ⟨programFailed left s, rfl, ⟨by simp, fun p unlisted => ?_⟩, ?_, ?_, fun k' within other => ?_, ?_, calm, releases⟩
    · cases p <;> simp [Part.Same] at unlisted ⊢
    · rw [flash]
      exact Flash.spoilSlot_left w k i n left wf
    · rw [counts]
      exact failCounts_set_same _ _ _
    · rw [counts]
      exact failCounts_set_other _ _ hk within other
    · rw [counts]
      exact sought
  · exact ⟨congrArg _ (programPassed_idle none), congrArg _ (programFailed_idle left none)⟩

end Sys2Proof.Machine
end

section
/-! Both kinds of reset: the start-up values, and what a cut write leaves in the flash (00_scope, R168, R197). -/

namespace Sys2Proof.Machine

/-! ### The start-up values -/

section
variable (kind : ResetKind) (lines : ResetLines) (flash : Flash) (s : State)

/-- What a reset leaves, in one record: the start-up state with the standing lines' actions done (log 9). -/
theorem resetModule_eq : resetModule kind lines flash s =
    { State.resetWith kind lines flash s.freeCount s.pending with
      flap := { Flap.afterReset lines.inhibit lines.faultLine lines.ready with
        state := if lines.faultLine then .fault else .idle },
      blower := { Blower.afterReset lines.stall with fault := lines.stall },
      notices := { Notices.afterReset with
        pending := (if lines.faultLine then [⟨.flapFault .line, false⟩] else [])
          ++ (if lines.stall then [⟨.blowerFault, false⟩] else []),
        attention := lines.faultLine || lines.stall } } := by
  obtain ⟨inhibit, faultLine, ready, stall, drv, krb⟩ := lines
  cases faultLine <;> cases stall <;> rfl

theorem resetModule_settings : SettingsAtDefaults (resetModule kind lines flash s) := by
  rw [resetModule_eq]
  refine ⟨rfl, ⟨rfl, rfl⟩, rfl, ⟨rfl, rfl⟩, rfl, rfl, fun c => ?_, ⟨rfl, rfl, rfl⟩, rfl, ⟨rfl, fun k => ?_⟩, fun n => ?_⟩
  · cases c <;> exact ⟨rfl, rfl, rfl⟩
  · show k ∈ Notices.afterReset.conditionMasked ↔ _
    cases k <;> decide
  · cases n <;> rfl

theorem resetModule_values : ResetValues kind (resetModule kind lines flash s) := by
  refine ⟨resetModule_settings kind lines flash s, ?_⟩
  rw [resetModule_eq]
  refine ⟨rfl, rfl, ⟨rfl, rfl, fun d => ?_⟩, fun c => ?_, fun d => ?_, ⟨rfl, rfl, rfl, rfl, rfl, rfl⟩, rfl, ⟨rfl, rfl⟩, rfl, ?_, rfl, rfl,
    rfl, rfl, ⟨rfl, ?_, rfl, rfl⟩, rfl⟩
  · cases d <;> rfl
  · cases c <;> rfl
  · cases d <;> rfl
  · cases h : lines.faultLine <;> rfl
  · exact Bool.or_eq_true_iff

end

/-! ### The flash after a cut (R158, R168) -/

/-- The slots that a cut write may have changed spare the newest record (R158, R168). -/
theorem flashAfterCut_newest {s : State} (cut : List SlotOutcome) (wf : s.flash.wf = true)
    (sound : ∀ w, s.journal.write = some w → w.phase.Sound s.journal s.flash) (readable : NewestReadable s.journal s.flash) :
    (s.flashAfterCut cut).wf = true ∧ NewestReadable s.journal (s.flashAfterCut cut)
      ∧ (SequencesInRange s.flash → SequencesInRange (s.flashAfterCut cut)) := by
  unfold State.flashAfterCut
  split
  next => exact ⟨wf, readable, id⟩
  next w writing =>
    have phase := sound w writing
    split
    next c erasing =>
      rw [erasing] at phase
      obtain ⟨hc, -, -, spared⟩ := phase
      obtain ⟨wf', outside⟩ := Flash.spoilSector_outside cut hc wf
      exact ⟨wf', readable.spared spared outside, fun seqs => seqs.spoilSector cut hc wf⟩
    next k i n programming =>
      rw [programming] at phase
      obtain ⟨hk, hi, -, erased, pos, below⟩ := phase
      obtain ⟨wf', outside⟩ := Flash.spoilSlot_outside (w.record n) (cut[i]?.getD .untouched) hk hi wf
      exact ⟨wf', readable.spared_slot erased outside, fun seqs => seqs.spoilSlot _ wf pos below⟩

/-- Settles O10: the reset's state in one record, and the flash it starts from. -/
theorem resetGivesStartValues : Obligations.ResetGivesStartValues := by
  refine ⟨fun lines cut s => ?_, fun s sending head => ?_⟩
  · have flash : (powerOn lines cut s).flash = s.flashAfterCut cut := by
      rw [powerOn, resetModule_eq]
      rfl
    refine ⟨powerOn lines cut s, rfl, (resetModule_keeps _ _ _ _).2, resetModule_values _ _ _ _, fun idle => ?_,
      fun w writing wf => ?_, fun wf sound readable => ?_, ?_⟩
    · rw [flash, State.flashAfterCut, idle]
    · rw [flash]
      exact flashAfterCut_left cut writing wf
    · rw [flash]
      exact flashAfterCut_newest cut wf sound readable
    · rw [powerOn, resetModule_eq]
      exact ⟨rfl, rfl, rfl, rfl, rfl, rfl⟩
  · refine ⟨restartReset s, congrArg _ (replyLeaves_restart sending head), (resetModule_keeps _ _ _ _).2,
      resetModule_values _ _ _ _, ?_, ?_⟩
    · rw [restartReset, resetModule_eq]
      rfl
    · rw [restartReset, resetModule_eq]
      exact ⟨rfl, rfl, rfl, rfl, rfl, rfl⟩

end Sys2Proof.Machine
end

section
/-! Who may change the estimates, command by command (R1, R20, R26): an update, the gas snap of an OGS sample, and the resets alone. -/

namespace Sys2Proof.Machine

/-! ### A relation that every request's service keeps -/

section
variable {R : State → State → Prop} (refl : ∀ s, R s s) (trans : ∀ {s t u}, R s t → R t u → R s u)
  (link : ∀ s l, R s (s.withLink l)) (serve : ∀ r s, R s (serveRequest r s))
include refl serve

theorem serveHead_relates (s : State) : R s (serveHead s) := by
  unfold serveHead
  split
  · split
    · exact serve _ s
    · exact refl s
  · exact refl s

include trans link

theorem deliverFrame_relates (r : Request) (s : State) : R s (deliverFrame r s) := by
  unfold deliverFrame joinQueue
  split
  · refine trans ?_ (serveHead_relates refl serve _)
    exact trans (link s _) (link _ _)
  · exact trans (link s _) (link _ _)

theorem receiveByte_relates (b : Byte) (s : State) : R s (receiveByte b s) := by
  unfold receiveByte
  split
  · split
    · exact link s _
    · exact refl s
  · split <;> exact link s _
  · exact link s _
  · exact link s _
  · exact link s _
  · split
    · exact deliverFrame_relates refl trans link serve _ s
    · exact link s _

theorem receiveBytes_relates (bytes : List LineByte) (s : State) : R s (receiveBytes bytes s) := by
  unfold receiveBytes
  induction bytes generalizing s with
  | nil => exact refl s
  | cons b bytes ih =>
    refine trans ?_ (ih (takeLineByte s b))
    cases b with
    | framed b => exact receiveByte_relates refl trans link serve b s
    | noStop => exact refl s

theorem headLeaves_relates (s : State) : R s (headLeaves s) :=
  trans (link s _) (serveHead_relates refl serve _)

end

/-! ### The estimates (R1, R20) -/

/-- The published estimates but EGS. -/
def Estimator.published (e : Estimator) : Int × Int × Int := (e.epm, e.eco, e.eah)

/-- EGS and the snap that may set it (R20). -/
def Estimator.gas (e : Estimator) : Int × Bool := (e.egs, e.gasSnapArmed)

/-- From s to t the published estimates stand but EGS. -/
def PublishedStand (s t : State) : Prop := t.est.published = s.est.published

/-- From s to t the published estimates stand, and the gas snap with EGS. -/
def EstimatesStand (s t : State) : Prop := t.est.published = s.est.published ∧ t.est.gas = s.est.gas

section
variable {s t u : State}

theorem EstimatesStand.refl (s : State) : EstimatesStand s s := ⟨rfl, rfl⟩

theorem EstimatesStand.trans (h : EstimatesStand s t) (h' : EstimatesStand t u) : EstimatesStand s u :=
  ⟨h'.1.trans h.1, h'.2.trans h.2⟩

theorem EstimatesStand.of_est (same : t.est = s.est) : EstimatesStand s t := by
  unfold EstimatesStand
  rw [same]
  exact ⟨rfl, rfl⟩

theorem EstimatesStand.of_margin {m : Int} (est : t.est = { s.est with fogMargin := m }) : EstimatesStand s t := by
  unfold EstimatesStand
  rw [est]
  exact ⟨rfl, rfl⟩

theorem recomputeMargin_estimates (s : State) : EstimatesStand s (recomputeMargin s) :=
  .of_margin (recomputeMargin_margin s).1

theorem enterLost_estimates (c : Channel) (s : State) : EstimatesStand s (enterLost c s) := by
  unfold enterLost
  dsimp only
  set u := raise (.sensorLost [c]) (s.setChannel c { s.channels.get c with state := .lost })
  have before : EstimatesStand s u := .of_est (by simp [u, State.setChannel])
  have loss : EstimatesStand u (consumeLoss c u) := by
    cases c
    case opm | ogs => exact .of_est (by simp [consumeLoss])
    case crh | ctm | stm => exact recomputeMargin_estimates u
    all_goals exact .refl u
  exact before.trans (loss.trans (.of_est (by simp)))

theorem lostExpired_estimates (c : Channel) (s : State) : EstimatesStand s (lostExpired c s) := by
  rcases lostExpired_cases c s with runs | stands
  · rw [runs]
    exact EstimatesStand.trans (.of_est rfl) (enterLost_estimates c (s.setChannel c _))
  · rw [stands]
    exact .refl s

theorem staleExpired_estimates (c : Channel) (s : State) : EstimatesStand s (staleExpired c s) := by
  rcases staleExpired_cases c s with runs | ⟨r, runs⟩ | stands
  · rw [runs]
    exact lostExpired_estimates c s
  · rw [runs]
    exact .of_est rfl
  · rw [stands]
    exact .refl s

theorem serveCabin_estimates (f : CabinFields) (s : State) : EstimatesStand s (serveCabin f s) := by
  unfold serveCabin
  split
  · next drv krb _ _ =>
    have stored : EstimatesStand s (storeCabin (cabinSettings f) drv krb s) := ⟨rfl, rfl⟩
    exact stored.trans (.of_est (by simp [takeCabin]))
  · exact .of_est (by simp)

theorem leaveParked_estimates (s : State) : EstimatesStand s (leaveParked s) := by
  unfold leaveParked
  set u := loadPaced (leaveStanding s)
  have before : EstimatesStand s u := .of_est (by simp [u])
  have wakes : EstimatesStand u (estimatorWake u) := ⟨rfl, rfl⟩
  exact before.trans (wakes.trans (.of_est (by simp)))

theorem serveDrive_estimates (v : Word16) (e : Byte) (s : State) : EstimatesStand s (serveDrive v e s) := by
  unfold serveDrive
  split
  · next engine _ =>
    unfold takeDrive
    set u := s.withDrive { s.drive with
      lastSpeed := field 0 250 v, engine := some engine, ageMs := 0, freshness := .fresh } with u_def
    have before : EstimatesStand s u := .of_est rfl
    have left : EstimatesStand u (if s.isParked && decide (engine = .run) then leaveParked u else u) := by
      split
      · exact leaveParked_estimates u
      · exact .refl u
    exact before.trans (left.trans (.of_est (by simp)))
  · exact .of_est (by simp)

theorem serveWake_estimates (s : State) : EstimatesStand s (serveWake s) := by
  unfold serveWake
  split
  · exact (leaveParked_estimates s).trans (.of_est (by simp))
  · exact .of_est (by simp)

theorem serveChannel_estimates (f : ChannelFields) (s : State) : EstimatesStand s (serveChannel f s) := by
  unfold serveChannel
  split
  · next c _ =>
    dsimp only
    exact EstimatesStand.trans (.of_margin (storeChannel_beside c (substituteOf c f.substitute) (field 1 60 f.staleTime)
      (field (field 1 60 f.staleTime) 600 f.lostTime) s).1) (.of_est (by simp))
  · exact .of_est (by simp)

theorem serveRequest_estimates (r : Request) (s : State) : EstimatesStand s (serveRequest r s) := by
  cases r
  case cabin f => exact serveCabin_estimates f s
  case channel f => exact serveChannel_estimates f s
  case drive v e => exact serveDrive_estimates v e s
  case wake => exact serveWake_estimates s
  all_goals exact .of_est (by simp [serveRequest])

theorem receiveBytes_estimates (bytes : List LineByte) (s : State) : EstimatesStand s (receiveBytes bytes s) :=
  receiveBytes_relates .refl .trans (fun _ _ => .of_est rfl) serveRequest_estimates bytes s

theorem serveHead_estimates (s : State) : EstimatesStand s (serveHead s) := serveHead_relates .refl serveRequest_estimates s

theorem deliverFrame_estimates (r : Request) (s : State) : EstimatesStand s (deliverFrame r s) :=
  deliverFrame_relates .refl .trans (fun _ _ => .of_est rfl) serveRequest_estimates r s

/-- What a sample does to the estimates: the gas snap sets EGS, and nothing else does anything (R1, R20). -/
theorem acceptSample_estimates (c : Channel) (raw : Int) (s : State) : (acceptSample c raw s).est.published = s.est.published
    ∧ (c ≠ .ogs ∨ s.est.gasSnapArmed = false ∨ s.drive.vehicle = .parked → (acceptSample c raw s).est.gas = s.est.gas) := by
  rw [acceptSample_eq]
  set u := sampleStored c raw s with u_def
  have before : u.est = s.est := by simp [u_def, sampleStored, State.setChannel]
  have vehicle : u.drive.vehicle = s.drive.vehicle := by simp [u_def, sampleStored, State.setChannel]
  have taken : (consumeSample c (c.clamp raw) u).est.published = s.est.published
      ∧ (c ≠ .ogs ∨ s.est.gasSnapArmed = false ∨ s.drive.vehicle = .parked →
          (consumeSample c (c.clamp raw) u).est.gas = s.est.gas) := by
    cases c
    case ogs =>
      have detector : (detectorSample .gas (Channel.ogs.clamp raw) u).est = s.est := by simp [before]
      simp only [consumeSample, gasSnap, State.isParked, detectorSample_keeps, vehicle, before]
      split
      next snaps =>
        refine ⟨?_, fun stays => ?_⟩
        · simp [Estimator.published]
        · obtain ⟨armed, driving⟩ := snaps
          simp [armed] at stays driving
          exact absurd stays driving
      next => exact ⟨by rw [detector], fun _ => by rw [detector]⟩
    case crh =>
      have stands : EstimatesStand u (recomputeMargin (u.withEst { u.est with freshCrh := some (Channel.crh.clamp raw) })) :=
        EstimatesStand.trans ⟨rfl, rfl⟩ (recomputeMargin_estimates _)
      exact ⟨stands.1.trans (congrArg Estimator.published before), fun _ => stands.2.trans (congrArg Estimator.gas before)⟩
    case ctm | stm =>
      have stands := recomputeMargin_estimates u
      exact ⟨stands.1.trans (congrArg Estimator.published before), fun _ => stands.2.trans (congrArg Estimator.gas before)⟩
    all_goals simp [consumeSample, Estimator.published, Estimator.gas, before]
  simpa [deliver_est] using taken

theorem channel_code_of {n : Nat} {c : Channel} (h : Channel.ofCode n = some c) : n = c.code := by
  have known : n ≤ 9 := by
    by_contra unknown
    rw [(channel_ofCode n).1 (by omega)] at h
    cases h
  interval_cases n <;> exact congrArg Channel.code (Option.some.inj h)

theorem quality_code_of_good {n : Nat} (h : Quality.ofCode n = some .good) : n = 0 := by
  match n with
  | 0 => rfl
  | 1 | 2 | n + 3 => cases h

/-- A sample of another channel than OGS, or one that is not GOOD, or one that finds the snap taken or the truck PARKED, moves no
estimate (R1, R20). -/
theorem sampleArrives_estimates (code : Nat) (raw : Int) (quality : Nat) (s : State) :
    PublishedStand s (sampleArrives code raw quality s)
      ∧ (code ≠ 1 ∨ quality ≠ 0 ∨ s.est.gasSnapArmed = false ∨ s.drive.vehicle = .parked →
          EstimatesStand s (sampleArrives code raw quality s)) := by
  unfold sampleArrives
  split
  next c q channel level =>
    cases q with
    | good =>
      obtain ⟨published, gas⟩ := acceptSample_estimates c raw s
      refine ⟨published, fun stays => ⟨published, gas ?_⟩⟩
      rcases stays with other | other | stays
      · exact .inl fun isOgs => other (by
          rw [isOgs] at channel
          exact channel_code_of channel)
      · exact absurd (quality_code_of_good level) other
      · exact .inr stays
    | warming => exact ⟨rfl, fun _ => .of_est rfl⟩
    | fault => exact ⟨rfl, fun _ => .of_est rfl⟩
  next => exact ⟨rfl, fun _ => .refl s⟩

theorem estExpired_stopped (stopped : s.timers.est = none) : estExpired s = s := by
  simp [estExpired, stopped]

/-- No command but an update, an OGS sample and a reset moves an estimate (R1, R20). -/
theorem exec_estimates {c : Instr} (next : exec c s = .next t) (notReset : ∀ lines cut, c ≠ .powerOnReset lines cut)
    (notRestart : c = .replySent → s.link.queue.head? ≠ some .restart) (stopped : c = .estimatorUpdate → s.timers.est = none) :
    PublishedStand s t ∧ ((∀ raw, c ≠ .sample 1 raw 0) ∨ s.est.gasSnapArmed = false ∨ s.drive.vehicle = .parked →
      EstimatesStand s t) := by
  have both : EstimatesStand s t → PublishedStand s t
      ∧ ((∀ raw, c ≠ .sample 1 raw 0) ∨ s.est.gasSnapArmed = false ∨ s.drive.vehicle = .parked → EstimatesStand s t) :=
    fun stands => ⟨stands.1, fun _ => stands⟩
  cases request : requestOf c with
  | some r =>
    rw [exec_request s request] at next
    cases next
    exact both (deliverFrame_estimates r s)
  | none =>
    cases c
    case powerOnReset lines cut => exact absurd rfl (notReset lines cut)
    case sample code raw quality =>
      cases next
      obtain ⟨published, stands⟩ := sampleArrives_estimates code raw quality s
      refine ⟨published, fun stays => stands ?_⟩
      rcases stays with other | stays
      · by_contra good
        simp only [not_or, not_not] at good
        obtain ⟨rfl, rfl, -⟩ := good
        exact other raw rfl
      · exact .inr (.inr stays)
    case replySent =>
      cases next
      refine both ?_
      show EstimatesStand s (replyLeaves s)
      unfold replyLeaves
      rw [if_neg (notRestart rfl)]
      split
      · exact .refl s
      · exact headLeaves_relates .refl .trans (fun _ _ => .of_est rfl) serveRequest_estimates s
    case estimatorUpdate =>
      cases next
      exact both (.of_est (congrArg State.est (estExpired_stopped (stopped rfl))))
    case receiveFrame bytes => cases next; exact both (receiveBytes_estimates bytes s)
    case fposRead reading =>
      cases next
      refine both ?_
      cases reading with
      | none => exact .of_est rfl
      | some x =>
        obtain ⟨published, gas⟩ := acceptSample_estimates .fpos x s
        exact ⟨published, gas (.inl (by decide))⟩
    case staleExpiry ch => cases next; exact both (staleExpired_estimates ch s)
    case lostExpiry ch => cases next; exact both (lostExpired_estimates ch s)
    case scanEnd =>
      cases next
      refine both ?_
      show EstimatesStand s (scanEnds s)
      unfold scanEnds
      split
      · exact EstimatesStand.trans (.of_est (by simp)) (serveHead_estimates (endScan s))
      · exact .refl s
    all_goals first
      | (cases next; exact both (.of_est (by simp)))
      | simp [requestOf] at request

end

end Sys2Proof.Machine
end

section
/-! Who may change a set hit flag and the filter loads, command by command (R140, R176), and with the flash, the uptime and the estimates the
obligation O60. -/

namespace Sys2Proof.Machine

/-! ### Set hit flags (R176) -/

/-- From s to t every set hit flag stays, with its first hit (R176). -/
def HitsStand (s t : State) : Prop := ∀ n h, (s.watch.get n).firstHit = some h → (t.watch.get n).firstHit = some h

section
variable {s t u : State}

theorem HitsStand.refl (s : State) : HitsStand s s := fun _ _ h => h

theorem HitsStand.trans (h : HitsStand s t) (h' : HitsStand t u) : HitsStand s u := fun n x hit => h' n x (h n x hit)

theorem HitsStand.of_watch (same : t.watch = s.watch) : HitsStand s t := fun n h hit => by rw [same]; exact hit

theorem HitsStand.replied (h : HitsStand s t) (code : Byte) (result : ResultCode) (body : List Byte) :
    HitsStand s (sendReply code result body t) := h.trans (.of_watch (by simp))

theorem slotEvaluated_hit (w : WatchSlot) (v : Int) (uptime : Nat) {h : FirstHit} (hit : w.firstHit = some h) :
    (slotEvaluated w v uptime).firstHit = some h := by
  unfold slotEvaluated
  dsimp only
  repeat' split
  all_goals simp_all

theorem deliver_hits (q : Quantity) (v : Int) (s : State) : HitsStand s (deliver q v s) := fun n h hit => by
  rw [deliver_get]
  split
  · exact slotEvaluated_hit _ _ _ hit
  · exact hit

/-- A stop end turns slots OFF and clears no hit (R177). -/
theorem enterMoving_hits (s : State) : HitsStand s (enterMoving s) := fun n h hit => by
  rw [(enterMoving_eq s).2]
  split
  · unfold WatchSlot.atStopEnd
    split <;> exact hit
  · exact hit

theorem vehicleSpeed_hits (s : State) : HitsStand s (vehicleSpeed s) := by
  by_cases fast : 5 < s.drive.reportedSpeed
  · rw [vehicleSpeed_fast fast]
    split
    · exact enterMoving_hits s
    · exact .refl s
  · rw [vehicleSpeed_slow (by omega)]
    split
    · exact .of_watch (by simp)
    · exact .refl s

theorem speedDelivered_hits (old : Nat) (s : State) : HitsStand s (speedDelivered old s) := by
  unfold speedDelivered
  split
  · exact .refl s
  · exact (vehicleSpeed_hits s).trans (deliver_hits _ _ _)

theorem driveSilent_hits (s : State) : HitsStand s (driveSilent s) := by
  unfold driveSilent
  split
  case h_1 | h_2 =>
    refine HitsStand.trans ?_ (speedDelivered_hits _ _)
    exact .of_watch rfl
  case h_3 | h_4 => exact .refl s

theorem leaveParked_hits (s : State) : HitsStand s (leaveParked s) := by
  have left : HitsStand s (leaveStanding s) := by
    unfold leaveStanding
    dsimp only
    have stands : HitsStand s (enterStanding s) := .of_watch (by simp)
    split
    · exact stands.trans (enterMoving_hits _)
    · exact stands
  exact left.trans (.of_watch (by simp [leaveParked]))

theorem serveDrive_hits (v : Word16) (e : Byte) (s : State) : HitsStand s (serveDrive v e s) := by
  unfold serveDrive
  split
  · next engine _ =>
    unfold takeDrive
    set u := s.withDrive { s.drive with
      lastSpeed := field 0 250 v, engine := some engine, ageMs := 0, freshness := .fresh } with u_def
    have before : HitsStand s u := .of_watch rfl
    have left : HitsStand u (if s.isParked && decide (engine = .run) then leaveParked u else u) := by
      split
      · exact leaveParked_hits u
      · exact .refl u
    exact (before.trans (left.trans (speedDelivered_hits _ _))).replied _ _ _
  · exact .of_watch (by simp)

theorem serveWake_hits (s : State) : HitsStand s (serveWake s) := by
  unfold serveWake
  split
  · exact (leaveParked_hits s).replied _ _ _
  · exact .of_watch (by simp)

theorem recomputeMargin_hits (s : State) : HitsStand s (recomputeMargin s) := by
  rw [recomputeMargin_eq]
  exact HitsStand.trans (.of_watch (by simp [marginStored])) (deliver_hits _ _ _)

theorem enterLost_hits (c : Channel) (s : State) : HitsStand s (enterLost c s) := by
  unfold enterLost
  dsimp only
  set u := raise (.sensorLost [c]) (s.setChannel c { s.channels.get c with state := .lost })
  have before : HitsStand s u := .of_watch (by simp [u, State.setChannel])
  have loss : HitsStand u (consumeLoss c u) := by
    cases c
    case opm | ogs => exact .of_watch (by simp [consumeLoss])
    case crh | ctm | stm => exact recomputeMargin_hits u
    all_goals exact .refl u
  exact before.trans (loss.trans (deliver_hits _ _ _))

theorem lostExpired_hits (c : Channel) (s : State) : HitsStand s (lostExpired c s) := by
  rcases lostExpired_cases c s with runs | stands
  · rw [runs]
    exact HitsStand.trans (.of_watch rfl) (enterLost_hits c (s.setChannel c _))
  · rw [stands]
    exact .refl s

theorem staleExpired_hits (c : Channel) (s : State) : HitsStand s (staleExpired c s) := by
  rcases staleExpired_cases c s with runs | ⟨r, runs⟩ | stands
  · rw [runs]
    exact lostExpired_hits c s
  · rw [runs]
    exact .of_watch rfl
  · rw [stands]
    exact .refl s

theorem storeChannel_hits (c : Channel) (substitute : Option Int) (stale lost : Nat) (s : State) :
    HitsStand s (storeChannel c substitute stale lost s) := by
  cases on : (s.channels.get c).onSubstitute with
  | true =>
    by_cases same : substitute = (s.channels.get c).substitute
    · rw [storeChannel_same on same]
      exact .of_watch rfl
    · rw [storeChannel_changed on same]
      set u := s.setChannel c ((s.channels.get c).restated substitute stale lost)
      have stored : HitsStand s u := .of_watch rfl
      have margin : HitsStand u (remargined c u) := by
        unfold remargined
        split
        · exact recomputeMargin_hits u
        · exact .refl u
      rw [substituteChanged_eq]
      exact stored.trans (margin.trans (deliver_hits _ _ _))
  | false =>
    by_cases state : ((s.channels.get c).restated substitute stale lost).state = .lost
    · rw [storeChannel_loses on state]
      refine HitsStand.trans ?_ (enterLost_hits c _)
      exact .of_watch rfl
    · rw [storeChannel_runs on state]
      exact .of_watch rfl

theorem serveChannel_hits (f : ChannelFields) (s : State) : HitsStand s (serveChannel f s) := by
  unfold serveChannel
  split
  · exact (storeChannel_hits _ _ _ _ s).replied _ _ _
  · exact .of_watch (by simp)

/-- A request clears no hit but WATCH SET and WATCH CLEAR (R178, R179). -/
theorem serveRequest_hits {r : Request} (notSet : ∀ f, r ≠ .watchSet f) (notClear : ∀ x, r ≠ .watchClear x) (s : State) :
    HitsStand s (serveRequest r s) := by
  cases r
  case watchSet f => exact absurd rfl (notSet f)
  case watchClear x => exact absurd rfl (notClear x)
  case drive v e => exact serveDrive_hits v e s
  case wake => exact serveWake_hits s
  case channel f => exact serveChannel_hits f s
  all_goals exact .of_watch (by simp [serveRequest])

theorem gasSnap_hits (v : Int) (s : State) : HitsStand s (gasSnap v s) := by
  unfold gasSnap
  split
  · refine HitsStand.trans ?_ (deliver_hits _ _ _)
    exact .of_watch rfl
  · exact .refl s

theorem acceptSample_hits (c : Channel) (raw : Int) (s : State) : HitsStand s (acceptSample c raw s) := by
  rw [acceptSample_eq]
  set u := sampleStored c raw s with u_def
  have before : HitsStand s u := .of_watch (by simp [u_def, sampleStored, State.setChannel])
  have taken : HitsStand u (consumeSample c (c.clamp raw) u) := by
    cases c
    case ogs =>
      have detector : HitsStand u (detectorSample .gas (Channel.ogs.clamp raw) u) := .of_watch (by simp)
      exact detector.trans (gasSnap_hits _ _)
    case crh =>
      refine HitsStand.trans ?_ (recomputeMargin_hits _)
      exact .of_watch rfl
    case ctm | stm => exact recomputeMargin_hits u
    all_goals exact .of_watch (by simp [consumeSample])
  exact before.trans (taken.trans (deliver_hits _ _ _))

theorem takeSample_hits (c : Channel) (raw : Int) (q : Quality) (s : State) : HitsStand s (takeSample c raw q s) := by
  cases q with
  | good => exact acceptSample_hits c raw s
  | warming => exact .of_watch rfl
  | fault => exact .of_watch rfl

theorem estExpired_hits (s : State) : HitsStand s (estExpired s) := by
  unfold estExpired
  split
  · exact .refl s
  · set u := overrideCheck (tallyUpdate (captureLoad (runStages (s.withTimers { s.timers with est := some 1000 })))) with u_def
    have before : HitsStand s u := .of_watch (by simp [u_def])
    have delivered : HitsStand (purgeCleaning u) (deliverEstimates (purgeCleaning u)) :=
      (((deliver_hits _ _ _).trans (deliver_hits _ _ _)).trans (deliver_hits _ _ _)).trans (deliver_hits _ _ _)
    have counted : HitsStand (deliverEstimates (purgeCleaning u)) (ckptCounts (deliverEstimates (purgeCleaning u))) :=
      .of_watch (by simp)
    exact before.trans (HitsStand.trans (.of_watch (by simp)) (delivered.trans counted))

/-- A frame that finds the queue empty is served at once or waits (R194, R195). -/
theorem deliverFrame_of_empty (r : Request) (empty : s.link.queue = []) :
    deliverFrame r s = serveRequest r (s.atHead r) ∨ deliverFrame r s = s.atHead r := by
  have joins : deliverFrame r s = serveHead (s.atHead r) := by
    simp [deliverFrame, joinQueue, empty, State.atHead, State.withLink]
  rw [joins]
  unfold serveHead
  simp only [atHead_link]
  split
  · exact .inl rfl
  · exact .inr rfl

/-- The frame of an unknown request whose KIND the catalogue does not hold is refused (R199). -/
theorem decodeRequest_unknown {kind : Byte} (payload : List Byte) (outside : kind.toNat = 0 ∨ 25 < kind.toNat) :
    decodeRequest kind payload = .unknown kind := by
  have notIn : inCatalogue kind = false := by
    simp [inCatalogue]
    omega
  simp [decodeRequest, notIn]

/-- The commands whose service may clear a hit, or replace the filter record, where no frame of a catalogue KIND comes as an unknown
request. -/
theorem requestOf_owner {c : Instr} {r : Request} (request : requestOf c = some r)
    (outside : ∀ kind payload, c = .unknownRequest kind payload → kind.toNat = 0 ∨ 25 < kind.toNat) :
    (∀ f, r = .watchSet f → c = .watchSet f) ∧ (∀ x, r = .watchClear x → c = .watchClear x)
      ∧ (∀ f, r = .filterFit f → c = .filterFit f) := by
  cases c
  case unknownRequest kind payload =>
    simp only [requestOf, Option.some.injEq, decodeRequest_unknown payload (outside kind payload rfl)] at request
    subst request
    simp
  all_goals simp [requestOf] at request
  all_goals
    subst request
    simp

/-- With no request waiting the end of a reply leaves everything but the link port as it is (R195). -/
theorem replyLeaves_of_empty (empty : s.link.queue = []) : ∃ l, replyLeaves s = s.withLink l := by
  unfold replyLeaves
  split
  · exact ⟨s.link, rfl⟩
  · rw [if_neg (by simp [empty])]
    exact ⟨_, by simp [headLeaves, serveHead, State.withLink, empty]; rfl⟩

theorem scanEnds_of_empty (empty : s.link.queue = []) : scanEnds s = s ∨ scanEnds s = endScan s := by
  unfold scanEnds
  split
  · exact .inr (by simp [serveHead, empty])
  · exact .inl rfl

/-- With no request waiting, and no frame of a catalogue KIND sent as an unknown request, a set hit flag stays but for WATCH SET,
WATCH CLEAR and a reset (R176). -/
theorem exec_hits {c : Instr} (next : exec c s = .next t) (empty : s.link.queue = [])
    (notReset : ∀ lines cut, c ≠ .powerOnReset lines cut) (notFrame : ∀ bytes, c ≠ .receiveFrame bytes)
    (notSet : ∀ f, c ≠ .watchSet f) (notClear : ∀ x, c ≠ .watchClear x)
    (outside : ∀ kind payload, c = .unknownRequest kind payload → kind.toNat = 0 ∨ 25 < kind.toNat) : HitsStand s t := by
  cases request : requestOf c with
  | some r =>
    rw [exec_request s request] at next
    cases next
    have atHead : HitsStand s (s.atHead r) := .of_watch rfl
    rcases deliverFrame_of_empty r empty with runs | waits
    · obtain ⟨set, clear, -⟩ := requestOf_owner request outside
      rw [runs]
      exact atHead.trans (serveRequest_hits (fun f is => notSet f (set f is)) (fun x is => notClear x (clear x is)) _)
    · rw [waits]
      exact atHead
  | none =>
    cases c
    case powerOnReset lines cut => exact absurd rfl (notReset lines cut)
    case receiveFrame bytes => exact absurd rfl (notFrame bytes)
    case replySent =>
      cases next
      obtain ⟨l, stands⟩ := replyLeaves_of_empty empty
      show HitsStand s (replyLeaves s)
      rw [stands]
      exact .of_watch rfl
    case scanEnd =>
      cases next
      rcases scanEnds_of_empty empty with stands | runs
      · exact .of_watch (congrArg State.watch stands)
      · exact .of_watch ((congrArg State.watch runs).trans (by simp))
    case sample code raw quality =>
      cases next
      show HitsStand s (sampleArrives code raw quality s)
      unfold sampleArrives
      split
      · exact takeSample_hits _ raw _ s
      · exact .refl s
    case fposRead reading =>
      cases next
      cases reading with
      | none => exact .of_watch rfl
      | some x => exact acceptSample_hits .fpos x s
    case staleExpiry ch => cases next; exact staleExpired_hits ch s
    case lostExpiry ch => cases next; exact lostExpired_hits ch s
    case estimatorUpdate => cases next; exact estExpired_hits s
    case driveAgeSilent =>
      cases next
      exact driveSilent_hits s
    all_goals first
      | (cases next; exact .of_watch (by simp))
      | simp [requestOf] at request

/-! ### The filter loads (R140) -/

/-- From s to t neither filter load falls (R140). -/
def LoadsGrow (s t : State) : Prop := s.filter.pmLoad ≤ t.filter.pmLoad ∧ s.filter.gasLoad ≤ t.filter.gasLoad

theorem LoadsGrow.refl (s : State) : LoadsGrow s s := ⟨le_rfl, le_rfl⟩

theorem LoadsGrow.trans (h : LoadsGrow s t) (h' : LoadsGrow t u) : LoadsGrow s u :=
  ⟨h.1.trans h'.1, h.2.trans h'.2⟩

theorem LoadsGrow.of_filter (same : t.filter = s.filter) : LoadsGrow s t := by
  unfold LoadsGrow
  rw [same]
  exact ⟨le_rfl, le_rfl⟩

/-- A set SUSPECT is all that the stages of an update do to the filter record (R22). -/
theorem runStages_filter (s : State) : (runStages s).filter = { s.filter with
    suspect := s.filter.suspect || decide (s.counts.pm = 30 ∧ s.counts.above = 30) } := by
  have stages : (runStages s).filter = (noteSuspect s.counts
      (noteDiverged .epm s.counts.pm (difference s.sums.pm s.measurements.pm) (noteInputs s))).filter := by
    simp [runStages, noteDivergences]
  rw [stages]
  unfold noteSuspect
  split
  · next both => simp [setSuspect, both]
  · next clear => simp [clear]

/-- A capture takes a whole unit off the remainder or leaves the load as it is; it takes nothing off the load (R140). -/
theorem addLoad_grows (load acc step : Nat) : load ≤ (addLoad load acc step).1 := by
  unfold addLoad
  split
  · split
    · next full => exact full.le
    · exact Nat.le_succ load
  · exact le_rfl

theorem captureLoad_filter (s : State) : (captureLoad s).filter = if s.filter.kind = .none then s.filter
    else s.filter.captured s.est.lastFlow s.est.mixedPm s.est.mixedGas := by
  unfold captureLoad
  split
  · rfl
  · dsimp only
    split
    · rfl
    · simp

theorem captureLoad_grows (s : State) : LoadsGrow s (captureLoad s) := by
  unfold LoadsGrow
  rw [captureLoad_filter]
  split
  · exact ⟨le_rfl, le_rfl⟩
  · exact ⟨addLoad_grows _ _ _, addLoad_grows _ _ _⟩

theorem estExpired_grows (s : State) : LoadsGrow s (estExpired s) := by
  unfold estExpired
  split
  · exact .refl s
  · set u := s.withTimers { s.timers with est := some 1000 } with u_def
    have stages : LoadsGrow s (runStages u) := by
      unfold LoadsGrow
      rw [runStages_filter]
      exact ⟨le_rfl, le_rfl⟩
    exact stages.trans ((captureLoad_grows _).trans (.of_filter (by simp [completeUpdate])))

/-- A request lowers no load but FILTER FIT (R143). -/
theorem serveRequest_grows {r : Request} (notFit : ∀ f, r ≠ .filterFit f) (s : State) : LoadsGrow s (serveRequest r s) := by
  cases r
  case filterFit f => exact absurd rfl (notFit f)
  all_goals exact .of_filter (by simp [serveRequest])

/-- With no request waiting, and no frame of a catalogue KIND sent as an unknown request, a load falls by FILTER FIT, an adoption
and a reset alone (R140). -/
theorem exec_loads {c : Instr} (next : exec c s = .next t) (empty : s.link.queue = [])
    (notReset : ∀ lines cut, c ≠ .powerOnReset lines cut) (notFrame : ∀ bytes, c ≠ .receiveFrame bytes)
    (notFit : ∀ f, c ≠ .filterFit f) (notScan : c ≠ .scanEnd)
    (outside : ∀ kind payload, c = .unknownRequest kind payload → kind.toNat = 0 ∨ 25 < kind.toNat) : LoadsGrow s t := by
  cases request : requestOf c with
  | some r =>
    rw [exec_request s request] at next
    cases next
    have atHead : LoadsGrow s (s.atHead r) := .of_filter rfl
    rcases deliverFrame_of_empty r empty with runs | waits
    · obtain ⟨-, -, fit⟩ := requestOf_owner request outside
      rw [runs]
      exact atHead.trans (serveRequest_grows (fun f is => notFit f (fit f is)) _)
    · rw [waits]
      exact atHead
  | none =>
    cases c
    case powerOnReset lines cut => exact absurd rfl (notReset lines cut)
    case receiveFrame bytes => exact absurd rfl (notFrame bytes)
    case scanEnd => exact absurd rfl notScan
    case replySent =>
      cases next
      obtain ⟨l, stands⟩ := replyLeaves_of_empty empty
      show LoadsGrow s (replyLeaves s)
      rw [stands]
      exact .of_filter rfl
    case estimatorUpdate => cases next; exact estExpired_grows s
    all_goals first
      | (cases next; exact .of_filter (by simp))
      | simp [requestOf] at request

/-! ### The flash and the uptime (R105, R153) -/

/-- The end of a reply leaves the flash, a RESTART's too (R153, R197). -/
theorem replyLeaves_flash (s : State) : (replyLeaves s).flash = s.flash := by
  unfold replyLeaves
  split
  · rfl
  · split
    · simp [restartReset, resetModule_eq, State.resetWith]
    · simp

/-- The flash is changed by the flash completions and a power-on reset alone (R153). -/
theorem exec_flash {c : Instr} (next : exec c s = .next t) (notReset : ∀ lines cut, c ≠ .powerOnReset lines cut)
    (noErase : c ≠ .erasePass ∧ ∀ left, c ≠ .eraseFail left) (noProgram : c ≠ .programPass ∧ ∀ left, c ≠ .programFail left) :
    t.flash = s.flash := by
  cases request : requestOf c with
  | some r =>
    rw [exec_request s request] at next
    cases next
    simp
  | none =>
    cases c
    case powerOnReset lines cut => exact absurd rfl (notReset lines cut)
    case erasePass => exact absurd rfl noErase.1
    case eraseFail left => exact absurd rfl (noErase.2 left)
    case programPass => exact absurd rfl noProgram.1
    case programFail left => exact absurd rfl (noProgram.2 left)
    case replySent => cases next; exact replyLeaves_flash s
    all_goals (cases next; simp)

/-- Uptime is changed by UPTIME_TICK and the resets alone (R105). -/
theorem exec_uptime {c : Instr} (next : exec c s = .next t) (notReset : ∀ lines cut, c ≠ .powerOnReset lines cut)
    (notSent : c ≠ .replySent) (notTick : c ≠ .uptimeTick) : t.uptime = s.uptime := by
  cases request : requestOf c with
  | some r =>
    rw [exec_request s request] at next
    cases next
    simp
  | none =>
    cases c
    case powerOnReset lines cut => exact absurd rfl (notReset lines cut)
    case replySent => exact absurd rfl notSent
    case uptimeTick => exact absurd rfl notTick
    all_goals (cases next; simp)

end

/-- Settles O60: each clause is one of the lemmas over all commands above; the PARKED clause is the one about the estimates, EST
being stopped. -/
theorem onlyTheOwnersChange : Obligations.OnlyTheOwnersChange := by
  intro c s t next notReset
  refine ⟨fun pass fail programs spoils => exec_flash next notReset ⟨pass, fail⟩ ⟨programs, spoils⟩,
    fun notSent notTick => exec_uptime next notReset notSent notTick, fun notSent parked stopped => ?_,
    fun notRestart stopped => ?_,
    fun empty notFrame notSet notClear outside => exec_hits next empty notReset notFrame notSet notClear outside,
    fun empty notFrame notFit notScan outside => exec_loads next empty notReset notFrame notFit notScan outside⟩
  · obtain ⟨-, stand⟩ := exec_estimates next notReset (fun sent => absurd sent notSent) fun _ => stopped
    obtain ⟨published, gas⟩ := stand (.inr (.inr parked))
    simp only [Estimator.published, Estimator.gas, Prod.mk.injEq] at published gas
    obtain ⟨epm, eco, eah⟩ := published
    exact ⟨epm, gas.1, eco, eah⟩
  · obtain ⟨published, stand⟩ := exec_estimates next notReset notRestart stopped
    simp only [PublishedStand, Estimator.published, Prod.mk.injEq] at published
    obtain ⟨epm, eco, eah⟩ := published
    refine ⟨epm, eco, eah, fun stays => ?_⟩
    have gas := (stand stays).2
    simpa only [Estimator.gas, Prod.mk.injEq] using gas

end Sys2Proof.Machine
end

section
/-! The stages of an update and what its completion notes: the values published are those the rules spell (R5 to R17, R19, R21, R22, R24), and
each condition occurs exactly in its case (R18, R187). -/

namespace Sys2Proof.Machine

/-! ### The values (R5 to R17, R21, R22) -/

theorem corrected_eq (sum : Int) (measurement : Option Int) (snap : Bool) (weight : Nat) :
    corrected sum measurement snap weight = correctedByRules measurement snap weight sum := by
  cases measurement with
  | none => rfl
  | some c => cases snap <;> rfl

theorem measurements_ah (s : State) : s.measurements.ah = if s.channels.ctm.state = .live ∨ s.channels.ctm.state = .stale then
    s.est.freshCrh.map (fun crh => satByRules s.channels.ctm.lastValue * crh / 1000) else none := by
  simp only [State.measurements, ChannelRecord.onSubstitute, measuredAh, sat_eq]
  cases s.channels.ctm.state <;> rfl

/-! ### Where conditions occur (R18, R187) -/

/-- From s to t the kind k has occurred exactly if `happens` holds; the masks stand, and a CONDITION that names k stays pending. -/
structure Notes (k : ConditionKind) (happens : Prop) (s t : State) : Prop where
  occurred : Occurred k happens s t
  masks : t.notices.conditionMasked = s.notices.conditionMasked
  stays : NotesCondition k s → NotesCondition k t

section
variable {k : ConditionKind} {happens happens' : Prop} {s t u : State}

theorem Notes.refl (s : State) : Notes k False s s := ⟨.none id Iff.rfl, rfl, id⟩

theorem Notes.trans (first : Notes k happens s t) (second : Notes k happens' t u) : Notes k (happens ∨ happens') s u :=
  ⟨first.occurred.trans second.occurred first.masks second.stays, second.masks.trans first.masks,
    fun noted => second.stays (first.stays noted)⟩

theorem Notes.congr (h : Notes k happens s t) (iff : happens' ↔ happens) : Notes k happens' s t :=
  ⟨h.occurred.congr iff, h.masks, h.stays⟩

theorem RaisesOnly.notes {kinds : List NoticeKind} (h : RaisesOnly kinds s t) (other : .condition ∉ kinds) : Notes k False s t :=
  ⟨.none id (by rw [h.2.2.1]), h.2.2.2.1, fun noted => noted.of_keeps h.1 other⟩

/-- A part of the event that occurs no condition. -/
theorem Notes.then {kinds : List NoticeKind} (first : Notes k happens s t) (second : RaisesOnly kinds t u)
    (other : .condition ∉ kinds) : Notes k happens s u := (first.trans (second.notes other)).congr (by simp)

theorem occur_notes (k' : ConditionKind) (q : Option Quantity) (v : Int) (s : State) : Notes k (k = k') s (occur k' q v s) where
  occurred := by
    refine ⟨occur_flags k' k q v s, fun same unmasked => ?_⟩
    subst same
    exact (occur_unmasked unmasked q v).2
  masks := (occur_masks k' q v s).2
  stays := fun noted => noted.occur k' q v

/-- A condition that occurs in its case only. -/
theorem occurIf_notes (p : Prop) [Decidable p] (k' : ConditionKind) (q : Option Quantity) (v : Int) (s : State) :
    Notes k (k = k' ∧ p) s (if p then occur k' q v s else s) := by
  split
  · next holds => exact (occur_notes k' q v s).congr (by simp [holds])
  · next fails => exact (Notes.refl s).congr (by simp [fails])

theorem noteZeroFlow_notes (s : State) : Notes k (k = .zeroFlow ∧ s.blower.fault = true) s (noteZeroFlow s) :=
  occurIf_notes _ _ _ _ s

theorem noteSubstituted_notes (c : Channel) (s : State) :
    Notes k (k = .substituted ∧ (s.channels.get c).onSubstitute = true) s (noteSubstituted c s) := occurIf_notes _ _ _ _ s

theorem noteLookup_notes (c : Channel) (x : Int) (s : State) : Notes k (k = .tableClamped ∧ OffTable x) s (noteLookup c x s) :=
  (occurIf_notes (satClamps x = true) _ _ _ s).congr (by rw [satClamps_iff])

theorem noteCtmLookup_notes (s : State) : Notes k
    (k = .tableClamped ∧ s.measurements.ah.isSome = true ∧ OffTable s.channels.ctm.lastValue) s (noteCtmLookup s) := by
  unfold noteCtmLookup
  split
  · next formed => exact (noteLookup_notes .ctm s.channels.ctm.lastValue s).congr (by simp [formed])
  · next absent => exact (Notes.refl s).congr (by simp [absent])

theorem noteDiverged_notes (q : Quantity) (count : Nat) (diff : Int) (s : State) :
    Notes k (k = .diverged ∧ count = 30) s (noteDiverged q count diff s) := occurIf_notes _ _ _ _ s

theorem noteSaturated_notes (q : Quantity) (lo hi v : Int) (s : State) :
    Notes k (k = .estimateSaturated ∧ OutsideInt lo hi v) s (noteSaturated q lo hi v s) :=
  occurIf_notes (v < lo ∨ hi < v) .estimateSaturated (some q) v s

theorem noteSuspect_raisesOnly (n : Counts) (s : State) : RaisesOnly [.filter] s (noteSuspect n s) := by
  unfold noteSuspect setSuspect
  split
  · exact ((RaisesOnly.refl _).raise (by simp [Notice.kind])).after rfl
  · exact .refl s

/-- Conditions 1 to 4 of R18: one outside channel on its substitute suffices. -/
theorem noteInputs_notes (s : State) : Notes k
    ((k = .zeroFlow ∧ s.blower.fault = true)
      ∨ (k = .substituted ∧ ∃ c ∈ ([.opm, .ogs, .orh, .otm] : List Channel), (s.channels.get c).onSubstitute = true)
      ∨ (k = .tableClamped ∧ (OffTable (s.usable .otm)
          ∨ (s.measurements.ah.isSome = true ∧ OffTable s.channels.ctm.lastValue)))) s (noteInputs s) := by
  unfold noteInputs
  have substituted := (((((noteZeroFlow_notes (k := k) s).trans (noteSubstituted_notes .opm _)).trans
    (noteSubstituted_notes .ogs _)).trans (noteSubstituted_notes .orh _)).trans (noteSubstituted_notes .otm _))
  have looked := (substituted.trans (noteLookup_notes .otm (s.usable .otm) _)).trans (noteCtmLookup_notes _)
  refine looked.congr ?_
  simp only [State.measurements, noteLookup_keeps, noteSubstituted_keeps, noteZeroFlow_keeps, List.mem_cons, List.not_mem_nil,
    or_false, exists_eq_or_imp, exists_eq_left]
  tauto

/-- Condition 5 of R18. -/
theorem noteDivergences_notes (s t : State) : Notes k
    (k = .diverged ∧ (s.counts.pm = 30 ∨ s.counts.co2 = 30 ∨ s.counts.ah = 30)) t (noteDivergences s t) := by
  unfold noteDivergences
  refine (((((noteDiverged_notes .epm _ _ t).then (noteSuspect_raisesOnly _ _) (by simp)).trans
    (noteDiverged_notes .eco _ _ _)).trans (noteDiverged_notes .eah _ _ _))).congr ?_
  tauto

/-- Condition 6 of R18. -/
theorem noteSaturations_notes (s t : State) : Notes k
    (k = .estimateSaturated ∧ (OutsideInt 0 16000 s.unclamped.pm ∨ OutsideInt 0 32000 s.unclamped.gas
      ∨ OutsideInt 4800 80000 s.unclamped.co2 ∨ OutsideInt 0 65500 s.unclamped.ah)) t (noteSaturations s t) := by
  unfold noteSaturations
  refine ((((noteSaturated_notes .epm _ _ _ t).trans (noteSaturated_notes .egs _ _ _ _)).trans
    (noteSaturated_notes .eco _ _ _ _)).trans (noteSaturated_notes .eah _ _ _ _)).congr ?_
  tauto

/-- The kind k occurs in the stages of an update that begins from s (R6, R8, R17, R18, R21, R23). -/
def StagesOccur (k : ConditionKind) (s : State) : Prop :=
  (k = .zeroFlow ∧ s.blower.fault = true)
    ∨ (k = .substituted ∧ ∃ c ∈ ([.opm, .ogs, .orh, .otm] : List Channel), (s.channels.get c).onSubstitute = true)
    ∨ (k = .tableClamped ∧ (OffTable (s.usable .otm)
        ∨ (s.measurements.ah.isSome = true ∧ OffTable s.channels.ctm.lastValue)))
    ∨ (k = .diverged ∧ (s.counts.pm = 30 ∨ s.counts.co2 = 30 ∨ s.counts.ah = 30))
    ∨ (k = .estimateSaturated ∧ (OutsideInt 0 16000 s.unclamped.pm ∨ OutsideInt 0 32000 s.unclamped.gas
      ∨ OutsideInt 4800 80000 s.unclamped.co2 ∨ OutsideInt 0 65500 s.unclamped.ah))

theorem runStages_notes (s : State) : Notes k (StagesOccur k s) s (runStages s) := by
  have stages := ((noteInputs_notes (k := k) s).trans (noteDivergences_notes s _)).trans (noteSaturations_notes s _)
  have published : RaisesOnly [] (noteSaturations s (noteDivergences s (noteInputs s))) (runStages s) := .of_eq rfl
  exact (stages.then published (by simp)).congr (by simp only [StagesOccur, or_assoc])

/-- SUSPECT leaves FILTER pending (R22, R142). -/
theorem noteSuspect_pends {n : Counts} (pm : n.pm = 30) (above : n.above = 30) (s : State) :
    Pends (.filter .suspect) (noteSuspect n s) := by
  rw [noteSuspect, if_pos ⟨pm, above⟩]
  exact raise_pends (.filter .suspect) _ (by simp [NoticeKind.single, Notice.kind])

theorem noteDiverged_keepsPending (q : Quantity) (count : Nat) (diff : Int) (s : State) :
    KeepsPending [.condition] s (noteDiverged q count diff s) := by
  unfold noteDiverged
  split
  · exact occur_keepsPending _ _ _ s
  · exact .refl s

theorem noteSaturated_keepsPending (q : Quantity) (lo hi v : Int) (s : State) :
    KeepsPending [.condition] s (noteSaturated q lo hi v s) := by
  unfold noteSaturated
  split
  · exact occur_keepsPending _ _ _ s
  · exact .refl s

theorem runStages_suspect {s : State} (pm : s.counts.pm = 30) (above : s.counts.above = 30) :
    Pends (.filter .suspect) (runStages s) := by
  have raised := noteSuspect_pends pm above (noteDiverged .epm s.counts.pm (difference s.sums.pm s.measurements.pm) (noteInputs s))
  have diverged := ((noteDiverged_keepsPending .eco s.counts.co2 (difference s.sums.co2 s.measurements.co2) _).trans
    (noteDiverged_keepsPending .eah s.counts.ah (difference s.sums.ah s.measurements.ah) _)).pends (by simp [Notice.kind]) raised
  exact ((((noteSaturated_keepsPending .epm _ _ _ _).trans (noteSaturated_keepsPending .egs _ _ _ _)).trans
    (noteSaturated_keepsPending .eco _ _ _ _)).trans (noteSaturated_keepsPending .eah _ _ _ _)).pends (by simp [Notice.kind]) diverged

end

end Sys2Proof.Machine
end

section
/-! The override check at the completion of an update (R40, R41, R45): its flags and notices, the target it gives, the lookups it makes, and the
blower demand. -/

namespace Sys2Proof.Machine

section
variable {k : ConditionKind} {s t u : State}

/-- The working values at a flow read the cabin and the channels alone (R36). -/
theorem workingValues_congr (cabin : t.est.cabin = s.est.cabin) (channels : t.channels = s.channels) (q : Int) :
    t.workingValues q = s.workingValues q := by
  have usable : ∀ c, t.usable c = s.usable c := fun c => by rw [State.usable, channels]; rfl
  simp only [State.workingValues, State.outsideAh, cabin, usable]

/-! ### What the check does, by mode and flags (R45) -/

theorem applyOverride_fog (auto : s.policy.mode = .auto) (fog : s.policy.fogFlag = true) :
    applyOverride s = applyNow 1000 .fogOverride s := by simp [applyOverride, auto, fog]

theorem applyOverride_ceiling (auto : s.policy.mode = .auto) (clear : s.policy.fogFlag = false)
    (ceiling : s.policy.ceilingFlag = true) : applyOverride s
      = applyNow (ceilingTarget (s.workingValues s.est.lastFlow) s.policy.limits) .ceiling (noteWorkingLookups s) := by
  simp [applyOverride, auto, clear, ceiling]

theorem applyOverride_closed (recirc : s.policy.mode = .recirc) (ceiling : s.policy.ceilingFlag = true)
    (closed : s.policy.target = 0) : applyOverride s = applyNow 500 .ceiling s := by
  simp [applyOverride, recirc, ceiling, closed]

/-- The check finds nothing to do (R45). -/
def OverrideIdle (s : State) : Prop :=
  (s.policy.mode = .auto ∧ s.policy.fogFlag = false ∧ s.policy.ceilingFlag = false)
    ∨ (s.policy.mode = .recirc ∧ (s.policy.ceilingFlag = false ∨ s.policy.target ≠ 0))
    ∨ s.policy.mode = .fresh ∨ s.policy.mode = .defrost

theorem applyOverride_idle (idle : OverrideIdle s) : applyOverride s = s := by
  rcases idle with ⟨auto, clear, free⟩ | ⟨recirc, stands⟩ | fresh | defrost
  · simp [applyOverride, auto, clear, free]
  · rw [applyOverride, recirc]
    exact if_neg fun ⟨ceiling, closed⟩ => by simp [ceiling, closed] at stands
  · simp [applyOverride, fresh]
  · simp [applyOverride, defrost]

/-- The four things the check can do. -/
theorem applyOverride_cases {motive : State → Prop}
    (fog : s.policy.mode = .auto → s.policy.fogFlag = true → motive (applyNow 1000 .fogOverride s))
    (ceiling : s.policy.mode = .auto → s.policy.fogFlag = false → s.policy.ceilingFlag = true →
      motive (applyNow (ceilingTarget (s.workingValues s.est.lastFlow) s.policy.limits) .ceiling (noteWorkingLookups s)))
    (closed : s.policy.mode = .recirc → s.policy.ceilingFlag = true → s.policy.target = 0 → motive (applyNow 500 .ceiling s))
    (idle : OverrideIdle s → motive s) : motive (applyOverride s) := by
  by_cases rests : OverrideIdle s
  · rw [applyOverride_idle rests]
    exact idle rests
  have acts := rests
  unfold OverrideIdle at acts
  cases mode : s.policy.mode with
  | fresh | defrost => simp [mode] at acts
  | recirc =>
    simp only [mode, reduceCtorEq, false_and, true_and, false_or, or_false, not_or, not_not, Bool.not_eq_false] at acts
    rw [applyOverride_closed mode acts.1 acts.2]
    exact closed mode acts.1 acts.2
  | auto =>
    cases set : s.policy.fogFlag with
    | true =>
      rw [applyOverride_fog mode set]
      exact fog mode set
    | false =>
      have ceilings : s.policy.ceilingFlag = true := by simpa [mode, set] using acts
      rw [applyOverride_ceiling mode set ceilings]
      exact ceiling mode set ceilings

theorem applyOverride_follows (s : State) : TargetFollows s (applyOverride s) := by
  refine applyOverride_cases (fun _ _ => applyNow_follows _ _ s) (fun _ _ _ => ?_) (fun _ _ _ => applyNow_follows _ _ s) fun _ => ?_
  · exact (applyNow_follows _ _ (noteWorkingLookups s)).after (by simp) (by simp) (by simp) (by simp)
  · exact ⟨fun _ => ⟨rfl, rfl⟩, fun new => absurd rfl new⟩

/-- The check makes the two lookups of a decision exactly where it takes the target of CEILING in AUTO (R36, R45, log 12). -/
theorem applyOverride_notes (s : State) : Notes k
    (k = .tableClamped ∧ (s.policy.mode = .auto ∧ s.policy.fogFlag = false ∧ s.policy.ceilingFlag = true)
      ∧ (OffTable (s.usable .otm) ∨ OffTable (s.usable .stm))) s (applyOverride s) := by
  have now : ∀ (x : Int) (b : Basis) (v : State), Notes k False v (applyNow x b v) := fun x b v =>
    (applyNow_raisesOnly x b v).notes (by simp)
  refine applyOverride_cases (fun _ fog => ?_) (fun auto clear ceiling => ?_) (fun recirc _ _ => ?_) fun idle => ?_
  · exact (now _ _ s).congr (by simp [fog])
  · have lookups := (noteLookup_notes (k := k) .otm (s.usable .otm) s).trans (noteLookup_notes .stm (s.usable .stm) _)
    refine (lookups.trans (now _ _ _)).congr ?_
    simp only [auto, clear, ceiling]
    tauto
  · exact (now _ _ s).congr (by simp [recirc])
  · refine (Notes.refl s).congr ?_
    simp only [iff_false]
    rintro ⟨-, ⟨auto, clear, ceiling⟩, -⟩
    simp [OverrideIdle, auto, clear, ceiling] at idle

theorem applyOverride_keepsPending (s : State) : KeepsPending [.moveDone, .ventLimited, .condition] s (applyOverride s) := by
  have now : ∀ (x : Int) (b : Basis) (v : State), KeepsPending [.moveDone, .ventLimited, .condition] v (applyNow x b v) :=
    fun x b v => (applyNow_raisesOnly x b v).1.mono (by simp)
  refine applyOverride_cases (fun _ _ => now _ _ s) (fun _ _ _ => ?_) (fun _ _ _ => now _ _ s) fun _ => .refl s
  have lookups : KeepsPending [.condition] s (noteWorkingLookups s) :=
    (noteLookup_keepsPending .otm (s.usable .otm) s).trans (noteLookup_keepsPending .stm (s.usable .stm) _)
  exact (lookups.mono (by simp)).trans (now _ _ _)

/-! ### The check with its tests -/

theorem ceilingHolds_iff (s : State) : s.ceilingHolds = true ↔ (s.policy.limits.co2Hard : Int) * 16 ≤ s.est.eco := by
  simp [State.ceilingHolds]

/-- The state with both tests made (R40, R41). -/
def State.tested (s : State) : State := ceilingTest (fogTest s)

theorem tested_policy (s : State) : s.tested.policy = { s.policy with fogFlag := s.fogHolds, ceilingFlag := s.ceilingHolds } := by
  simp [State.tested, State.ceilingHolds]

theorem tested_keeps (s : State) : s.tested.est = s.est ∧ s.tested.channels = s.channels ∧ s.tested.drive = s.drive
    ∧ s.tested.flap = s.flap ∧ s.tested.uptime = s.uptime := by simp [State.tested]

theorem tested_raisesOnly (s : State) : RaisesOnly [.fogAlert, .co2Ceiling] s s.tested :=
  ((fogTest_raisesOnly s).mono (by simp)).trans ((ceilingTest_raisesOnly _).mono (by simp))

theorem overrideCheck_eq (s : State) : overrideCheck s = recomputeDemand (applyOverride s.tested) := rfl

/-- What the check leaves of the policy: the flags are the tests' (R40, R41, R45). -/
theorem overrideCheck_policy (s : State) : (overrideCheck s).policy = { s.policy with
    fogFlag := s.fogHolds, ceilingFlag := s.ceilingHolds, target := (overrideCheck s).policy.target,
    basis := (overrideCheck s).policy.basis, held := (overrideCheck s).policy.held,
    lastChange := (overrideCheck s).policy.lastChange, demand := (overrideCheck s).policy.demand } := by
  have fields := (applyOverride_decides s.tested).fields
  rw [tested_policy] at fields
  rw [overrideCheck_eq, recomputeDemand_policy, fields]

/-- The target and basis the check gives (R45). -/
theorem overrideCheck_bases (s : State) :
    (s.policy.mode = .auto → s.fogHolds = true → (overrideCheck s).policy.target = 1000
        ∧ (overrideCheck s).policy.basis = .fogOverride ∧ (overrideCheck s).policy.held = false)
      ∧ (s.policy.mode = .auto → s.fogHolds = false → s.ceilingHolds = true →
          (overrideCheck s).policy.basis = .ceiling ∧ (overrideCheck s).policy.held = false
            ∧ (overrideCheck s).policy.target = ceilingTarget (s.workingValues s.est.lastFlow) s.policy.limits)
      ∧ (s.policy.mode = .recirc → s.ceilingHolds = true → s.policy.target = 0 → (overrideCheck s).policy.target = 500
          ∧ (overrideCheck s).policy.basis = .ceiling ∧ (overrideCheck s).policy.held = false)
      ∧ ((s.policy.mode = .auto ∧ s.fogHolds = false ∧ s.ceilingHolds = false)
            ∨ (s.policy.mode = .recirc ∧ (s.ceilingHolds = false ∨ s.policy.target ≠ 0))
            ∨ s.policy.mode = .fresh ∨ s.policy.mode = .defrost →
          (overrideCheck s).policy.target = s.policy.target ∧ (overrideCheck s).policy.basis = s.policy.basis
            ∧ (overrideCheck s).policy.held = s.policy.held) := by
  have policy := tested_policy s
  obtain ⟨est, channels, -⟩ := tested_keeps s
  rw [overrideCheck_eq, recomputeDemand_policy]
  refine ⟨fun auto fog => ?_, fun auto clear ceiling => ?_, fun recirc ceiling closed => ?_, fun idle => ?_⟩
  · rw [applyOverride_fog (by simp [policy, auto]) (by simp [policy, fog])]
    simp
  · rw [applyOverride_ceiling (by simp [policy, auto]) (by simp [policy, clear]) (by simp [policy, ceiling])]
    simp [workingValues_congr (congrArg Estimator.cabin est) channels, est, policy]
  · rw [applyOverride_closed (by simp [policy, recirc]) (by simp [policy, ceiling]) (by simp [policy, closed])]
    simp
  · rw [applyOverride_idle (by simpa [OverrideIdle, policy] using idle)]
    simp [policy]

/-- An ECO at the ceiling leaves no target below 500 in AUTO and RECIRC (R45). -/
theorem overrideCheck_floor (ceiling : s.ceilingHolds = true) (mode : s.policy.mode = .auto ∨ s.policy.mode = .recirc)
    (recirc : s.policy.mode = .recirc → s.policy.target = 0 ∨ s.policy.target = 500 ∨ s.policy.target = 1000) :
    500 ≤ (overrideCheck s).policy.target := by
  obtain ⟨fog, ceilings, closed, idle⟩ := overrideCheck_bases s
  rcases mode with auto | mode
  · cases clear : s.fogHolds with
    | true =>
      rw [(fog auto clear).1]
      decide
    | false =>
      rw [(ceilings auto clear ceiling).2.2]
      unfold ceilingTarget
      split
      · decide
      · split <;> decide
  · rcases recirc mode with zero | stands
    · rw [(closed mode ceiling zero).1]
    · rw [(idle (.inr (.inl ⟨mode, .inr (by omega)⟩))).1]
      omega

theorem overrideCheck_follows (s : State) : TargetFollows s (overrideCheck s) := by
  have policy := tested_policy s
  obtain ⟨-, -, -, flap, time⟩ := tested_keeps s
  have follows := (applyOverride_follows s.tested).after (u := s) (by rw [policy]) (by rw [policy]) flap.symm time.symm
  have keeps := (recomputeDemand_raisesOnly (applyOverride s.tested)).1
  exact follows.then (by simp [overrideCheck_eq]) (by simp [overrideCheck_eq]) (by simp [overrideCheck_eq]) fun _ =>
    keeps.pends (by simp [Notice.kind])

theorem overrideCheck_notes (s : State) : Notes k
    (k = .tableClamped ∧ (s.policy.mode = .auto ∧ s.fogHolds = false ∧ s.ceilingHolds = true)
      ∧ (OffTable (s.usable .otm) ∨ OffTable (s.usable .stm))) s (overrideCheck s) := by
  have checked := ((tested_raisesOnly s).notes (k := k) (by simp)).trans (applyOverride_notes s.tested)
  have usable : ∀ c, s.tested.usable c = s.usable c := fun c => by
    obtain ⟨-, channels, -⟩ := tested_keeps s
    rw [State.usable, channels]
    rfl
  refine (checked.then (recomputeDemand_raisesOnly _) (by simp)).congr ?_
  simp only [tested_policy, usable, false_or]

/-- Each test gives its notice where its flag is newly set (R40, R41). -/
theorem overrideCheck_pends (s : State) :
    (s.fogHolds = true → s.policy.fogFlag = false → Pends (.fogAlert s.est.fogMargin) (overrideCheck s))
      ∧ (s.ceilingHolds = true → s.policy.ceilingFlag = false → Pends (.co2Ceiling s.est.eco) (overrideCheck s)) := by
  have keeps : KeepsPending [.moveDone, .ventLimited, .condition, .blowerFault] s.tested (overrideCheck s) :=
    ((applyOverride_keepsPending _).mono (by simp)).trans ((recomputeDemand_raisesOnly _).1.mono (by simp))
  refine ⟨fun holds new => ?_, fun holds new => ?_⟩
  · refine keeps.pends (by simp [Notice.kind]) ?_
    exact (ceilingTest_raisesOnly _).pends (by simp [Notice.kind]) (fogTest_pends holds new)
  · refine keeps.pends (by simp [Notice.kind]) ?_
    have again : (fogTest s).ceilingHolds = true := by simpa [State.ceilingHolds] using holds
    rw [State.tested, ceilingTest, if_pos (by simp [again, new])]
    simpa using raise_pends (.co2Ceiling (fogTest s).est.eco)
      ((fogTest s).withPolicy { (fogTest s).policy with ceilingFlag := (fogTest s).ceilingHolds })
      (by simp [NoticeKind.single, Notice.kind])

theorem overrideCheck_keepsPending (s : State) :
    KeepsPending [.fogAlert, .co2Ceiling, .moveDone, .ventLimited, .condition, .blowerFault] s (overrideCheck s) :=
  ((tested_raisesOnly s).1.mono (by simp)).trans (((applyOverride_keepsPending _).mono (by simp)).trans
    ((recomputeDemand_raisesOnly _).1.mono (by simp)))

end

end Sys2Proof.Machine
end

section
/-! What the completion of an update leaves, part by part: the filter account and the tally (R140, R141, R147), the purge machine (R51), the
slots on the estimates (R172), CKPT (R110), and what of the notices stays. -/

namespace Sys2Proof.Machine

/-! ### The states an update passes through (R5, R19) -/

/-- The stages have run and EST is loaded again. -/
def State.stagesRun (s : State) : State := runStages (s.withTimers { s.timers with est := some 1000 })

/-- The filter account and the tally have taken the update. -/
def State.accounted (s : State) : State := tallyUpdate (captureLoad s.stagesRun)

/-- The override check and the cleaning test have been made. -/
def State.cleaned (s : State) : State := purgeCleaning (overrideCheck s.accounted)

section
variable {k : ConditionKind} {s t u : State}

theorem estExpired_eq (runs : s.timers.est.isSome = true) : estExpired s = ckptCounts (deliverEstimates s.cleaned) := by
  rw [estExpired, if_neg (by simpa [Option.isSome_iff_ne_none] using runs)]
  rfl

theorem stagesRun_est (s : State) : s.stagesRun.est = s.updated := rfl

theorem stagesRun_filter (s : State) : s.stagesRun.filter = { s.filter with
    suspect := s.filter.suspect || decide (s.counts.pm = 30 ∧ s.counts.above = 30) } := runStages_filter _

theorem stagesRun_keeps (s : State) : s.stagesRun.policy = s.policy ∧ s.stagesRun.channels = s.channels
    ∧ s.stagesRun.drive = s.drive ∧ s.stagesRun.timers = { s.timers with est := some 1000 } ∧ s.stagesRun.uptime = s.uptime
    ∧ s.stagesRun.flap = s.flap ∧ s.stagesRun.tally = s.tally ∧ s.stagesRun.journal = s.journal
    ∧ s.stagesRun.watch = s.watch ∧ s.stagesRun.link = s.link := by simp [State.stagesRun]

/-! ### The filter account (R140, R141) -/

theorem loadStep_eq (flow mixed : Int) (eta : Nat) : loadStep flow mixed eta = (flow * mixed * eta / 1000).toNat := rfl

/-- The loads and the state that a capture gives, by the rules (R138, R140, R141). -/
theorem captured_byRules (r : FilterRecord) (flow mixedPm mixedGas : Int) :
    ((r.captured flow mixedPm mixedGas).pmLoad, (r.captured flow mixedPm mixedGas).pmAcc)
        = loadByRules r.pmLoad r.pmAcc (flow * mixedPm * etaPmByRules r / 1000).toNat
      ∧ ((r.captured flow mixedPm mixedGas).gasLoad, (r.captured flow mixedPm mixedGas).gasAcc)
        = loadByRules r.gasLoad r.gasAcc (flow * mixedGas * etaGasByRules r / 1000).toNat
      ∧ (r.captured flow mixedPm mixedGas).state = filterStateByRules (r.captured flow mixedPm mixedGas) := by
  refine ⟨?_, ?_, ?_⟩
  · simp only [FilterRecord.captured, addLoad_eq, loadStep_eq, etaPm_eq]
  · simp only [FilterRecord.captured, addLoad_eq, loadStep_eq, etaGas_eq_rules]
  · cases kind : r.kind <;> simp [FilterRecord.captured, FilterRecord.stateOfLoads, filterStateByRules, kind]

theorem raiseFilterState_raisesOnly (x : FilterState) (s : State) : RaisesOnly [.filter] s (raiseFilterState x s) := by
  cases x with
  | worn => exact raise_raisesOnly (.filter .worn) s
  | spent => exact raise_raisesOnly (.filter .spent) s
  | none | inService => exact .refl s

theorem captureLoad_raisesOnly (s : State) : RaisesOnly [.filter] s (captureLoad s) := by
  unfold captureLoad
  dsimp only
  split
  · exact .refl s
  · split
    · exact .of_eq rfl
    · exact (raiseFilterState_raisesOnly _ _).after rfl

/-- A new state WORN or SPENT leaves FILTER pending with it (R141). -/
theorem captureLoad_pends (held : s.filter.kind ≠ .none) (new : (captureLoad s).filter.state ≠ s.filter.state) :
    ((captureLoad s).filter.state = .worn → Pends (.filter .worn) (captureLoad s))
      ∧ ((captureLoad s).filter.state = .spent → Pends (.filter .spent) (captureLoad s)) := by
  have record := captureLoad_filter s
  rw [if_neg held] at record
  have state := congrArg FilterRecord.state record
  rw [state] at new ⊢
  rw [captureLoad, if_neg held]
  dsimp only
  rw [if_neg new]
  constructor
  all_goals
    intro reached
    rw [reached]
    exact raise_pends (.filter _) _ (by simp [NoticeKind.single, Notice.kind])

/-- A FILTER notice stays pending through a capture, whichever it is then (R182). -/
theorem captureLoad_keepsFilter (pends : ∃ p ∈ s.notices.pending, p.notice.kind = .filter) :
    ∃ p ∈ (captureLoad s).notices.pending, p.notice.kind = .filter := by
  have raised : ∀ (d : FilterNotice) (v : State), ∃ p ∈ (raise (.filter d) v).notices.pending, p.notice.kind = .filter := fun d v => by
    obtain ⟨p, mem, is⟩ := raise_pends (.filter d) v (by simp [NoticeKind.single, Notice.kind])
    exact ⟨p, mem, by rw [is]; rfl⟩
  unfold captureLoad
  dsimp only
  split
  · exact pends
  · split
    · exact pends
    · unfold raiseFilterState
      split
      · exact raised _ _
      · exact raised _ _
      · exact pends
      · exact pends

/-! ### The tally (R147) -/

theorem tallyUpdate_tally (s : State) : (tallyUpdate s).tally
    = if s.tally.active then tallyByRules s.tally s.est s.policy.limits.co2Limit else s.tally := by
  unfold tallyUpdate
  split
  · simp [tallyByRules, Tally.counted, saturatingAdd_eq, max32]
  · rfl

theorem tallyUpdate_notices (s : State) : (tallyUpdate s).notices = s.notices := by
  unfold tallyUpdate
  split <;> rfl

theorem accounted_keeps (s : State) : s.accounted.est = s.updated ∧ s.accounted.policy = s.policy ∧ s.accounted.channels = s.channels
    ∧ s.accounted.drive = s.drive ∧ s.accounted.timers = { s.timers with est := some 1000 } ∧ s.accounted.uptime = s.uptime
    ∧ s.accounted.flap = s.flap ∧ s.accounted.journal = s.journal ∧ s.accounted.watch = s.watch ∧ s.accounted.link = s.link := by
  simp [State.accounted, stagesRun_est, stagesRun_keeps]

theorem accounted_tally (s : State) : s.accounted.tally
    = if s.tally.active then tallyByRules s.tally s.updated s.policy.limits.co2Limit else s.tally := by
  simp [State.accounted, tallyUpdate_tally, stagesRun_est, stagesRun_keeps]

theorem accounted_filter (s : State) : s.accounted.filter = if s.filter.kind = .none then s.stagesRun.filter
    else s.stagesRun.filter.captured s.updated.lastFlow s.updated.mixedPm s.updated.mixedGas := by
  simp [State.accounted, captureLoad_filter, stagesRun_est, stagesRun_filter]

theorem accounted_raisesOnly (s : State) : RaisesOnly [.filter] s.stagesRun s.accounted :=
  (captureLoad_raisesOnly s.stagesRun).then_same (tallyUpdate_notices _)

/-! ### The purge machine (R51) -/

theorem cleaningLevel_eq (s : State) : s.cleaningLevel = s.usable .opm * 16 * (1000 - etaPmByRules s.filter) / 1000 + 80 := by
  rw [State.cleaningLevel, etaPm_eq]

theorem purgeCleaning_moved (s : State) : PurgeMoved s (purgeCleaning s) := by
  unfold purgeCleaning
  split
  · next cleaned => exact endPurge_moved cleaned.1
  · exact .refl s

theorem purgeCleaning_openSince (s : State) : (purgeCleaning s).policy.openSince = s.policy.openSince := by
  unfold purgeCleaning
  split
  · simp [endPurge]
  · rfl

theorem purgeCleaning_flag (s : State) :
    (s.policy.purging = true → s.est.epm ≤ s.cleaningLevel →
        (purgeCleaning s).policy.purging = false ∧ (purgeCleaning s).timers.purge = none)
      ∧ (s.policy.purging = false ∨ s.cleaningLevel < s.est.epm →
        (purgeCleaning s).policy.purging = s.policy.purging ∧ (purgeCleaning s).timers.purge = s.timers.purge) := by
  refine ⟨fun purging clean => ?_, fun stays => ?_⟩
  · rw [purgeCleaning, if_pos ⟨purging, clean⟩]
    simp [endPurge]
  · rw [purgeCleaning, if_neg]
    · exact ⟨rfl, rfl⟩
    · rintro ⟨purging, clean⟩
      rcases stays with idle | dirty
      · simp [idle] at purging
      · exact absurd clean (by omega)

/-- The demand is the table's after the check and the cleaning test (R53, R54). -/
theorem cleaned_demand (s : State) : s.cleaned.policy.demand = demandByTable (decide (s.drive.vehicle = .parked))
    s.cleaned.policy.purging s.cleaned.policy.mode s.cleaned.policy.basis s.cleaned.policy.comfort := by
  have drive : s.cleaned.drive = s.drive := by simp [State.cleaned, accounted_keeps]
  have due : DemandDue s.cleaned := by
    unfold State.cleaned purgeCleaning
    split
    · exact recomputeDemand_due _
    · exact recomputeDemand_due _
  rw [← drive]
  exact due.trans (demandDue_eq _)

theorem cleaned_policy (s : State) : s.cleaned.policy = { (overrideCheck s.accounted).policy with
    purging := s.cleaned.policy.purging, demand := s.cleaned.policy.demand } := by
  have fields := (purgeCleaning_moved (overrideCheck s.accounted)).policy
  rw [purgeCleaning_openSince] at fields
  exact fields

theorem cleaned_timers (s : State) : s.cleaned.timers = { s.timers with est := some 1000, purge := s.cleaned.timers.purge } := by
  have moved := (purgeCleaning_moved (overrideCheck s.accounted)).timers
  simp only [overrideCheck_keeps, accounted_keeps] at moved
  exact moved

theorem cleaned_keeps (s : State) : s.cleaned.journal = s.journal ∧ s.cleaned.link = s.link ∧ s.cleaned.watch = s.watch
    ∧ s.cleaned.uptime = s.uptime ∧ s.cleaned.est = s.updated := by
  simp [State.cleaned, accounted_keeps]

/-! ### The watch unit (R172) -/

theorem deliverEstimates_raisesOnly (s : State) : RaisesOnly [.watch] s (deliverEstimates s) :=
  (((deliver_raisesOnly .epm s.est.epm s).trans (deliver_raisesOnly .egs s.est.egs _)).trans
    (deliver_raisesOnly .eco s.est.eco _)).trans (deliver_raisesOnly .eah s.est.eah _)

/-- Each slot on an estimate is evaluated on it, and no other (R19, R172). -/
theorem deliverEstimates_delivered (s : State) :
    Delivered .epm s.est.epm s (deliverEstimates s) ∧ Delivered .egs s.est.egs s (deliverEstimates s)
      ∧ Delivered .eco s.est.eco s (deliverEstimates s) ∧ Delivered .eah s.est.eah s (deliverEstimates s)
      ∧ ∀ n : SlotNumber, (s.watch.get n).quantity ∉ ([.epm, .egs, .eco, .eah] : List Quantity) →
          (deliverEstimates s).watch.get n = s.watch.get n := by
  unfold deliverEstimates
  refine ⟨fun n watches => ?_, fun n watches => ?_, fun n watches => ?_, fun n watches => ?_, fun n other => ?_⟩
  case refine_5 =>
    simp only [List.mem_cons, List.not_mem_nil, or_false, not_or] at other
    obtain ⟨epm, egs, eco, eah⟩ := other
    simp [deliver_get, epm, egs, eco, eah]
  all_goals simp [deliver_get, watches, slotEvaluated_quantity]

/-! ### CKPT (R110) -/

theorem ckptCounts_stopped (stopped : s.timers.ckpt = none) : ckptCounts s = s := by simp [ckptCounts, stopped]

theorem ckptCounts_counts {c : Nat} (runs : s.timers.ckpt = some c) (left : 1 < c) :
    ckptCounts s = s.withTimers { s.timers with ckpt := some (c - 1) } := by
  have more : ¬c ≤ 1 := by omega
  simp [ckptCounts, runs, more]

theorem ckptCounts_fires {c : Nat} (runs : s.timers.ckpt = some c) (last : c ≤ 1) : ckptCounts s = ckptFires s := by
  simp [ckptCounts, runs, last]

theorem ckptCounts_raisesOnly (s : State) : RaisesOnly [.journalFail] s (ckptCounts s) := by
  unfold ckptCounts ckptFires
  split
  · exact .refl s
  · split
    · exact (trigger_raisesOnly .checkpoint false _).after rfl
    · exact .of_eq rfl

theorem CheckpointTaken.since (h : CheckpointTaken s t) (journal : u.journal = s.journal) (link : u.link = s.link) :
    CheckpointTaken u t := by
  unfold CheckpointTaken
  rw [journal, link]
  exact h

/-- What CKPT does with an update, the journal and the link port as they stood before it (R110, R157). -/
theorem ckptCounts_taken (s : State) :
    (s.timers.ckpt = none → (ckptCounts s).timers.ckpt = none ∧ (ckptCounts s).journal = s.journal ∧ (ckptCounts s).link = s.link)
      ∧ ∀ c, s.timers.ckpt = some c →
        (1 < c → (ckptCounts s).timers.ckpt = some (c - 1) ∧ (ckptCounts s).journal = s.journal ∧ (ckptCounts s).link = s.link)
          ∧ (c ≤ 1 → (ckptCounts s).timers.ckpt = some s.journal.checkpointInterval ∧ CheckpointTaken s (ckptCounts s)) := by
  refine ⟨fun stopped => ?_, fun c runs => ⟨fun left => ?_, fun last => ?_⟩⟩
  · rw [ckptCounts_stopped stopped]
    exact ⟨stopped, rfl, rfl⟩
  · rw [ckptCounts_counts runs left]
    exact ⟨rfl, rfl, rfl⟩
  · rw [ckptCounts_fires runs last]
    exact ⟨by simp [ckptFires], (trigger_checkpoint _).since rfl rfl⟩

theorem ckptCounts_timers (s : State) : (ckptCounts s).timers = { s.timers with ckpt := (ckptCounts s).timers.ckpt } := by
  unfold ckptCounts
  split
  · rfl
  · split
    · simp [ckptFires]
    · rfl

/-! ### The update as a whole -/

/-- What follows the override check raises BLOWER-FAULT, WATCH and JOURNAL-FAIL alone. -/
theorem completion_raisesOnly (runs : s.timers.est.isSome = true) :
    RaisesOnly [.blowerFault, .watch, .journalFail] (overrideCheck s.accounted) (estExpired s) := by
  rw [estExpired_eq runs]
  exact ((purgeCleaning_moved _).raises.mono (by simp)).trans (((deliverEstimates_raisesOnly _).mono (by simp)).trans
    ((ckptCounts_raisesOnly _).mono (by simp)))

/-- The conditions of an update: those of its stages, and the lookups of a check that takes CEILING's target (R18, R36, log 12). -/
theorem estExpired_notes (runs : s.timers.est.isSome = true) : Notes k (StagesOccur k s
    ∨ (k = .tableClamped ∧ (s.policy.mode = .auto ∧ s.accounted.fogHolds = false ∧ s.accounted.ceilingHolds = true)
        ∧ (OffTable (s.usable .otm) ∨ OffTable (s.usable .stm)))) s (estExpired s) := by
  have begun : RaisesOnly [] s (s.withTimers { s.timers with est := some 1000 }) := .of_eq rfl
  have stages : Notes k (StagesOccur k s) s s.stagesRun :=
    ((begun.notes (by simp)).trans (runStages_notes (k := k) (s.withTimers { s.timers with est := some 1000 }))).congr
      (false_or _).symm.to_iff
  obtain ⟨-, policy, channels, -⟩ := accounted_keeps s
  have usable : ∀ c, s.accounted.usable c = s.usable c := fun c => by rw [State.usable, channels]; rfl
  have checked := overrideCheck_notes (k := k) s.accounted
  rw [policy, usable, usable] at checked
  exact ((stages.then (accounted_raisesOnly s) (by simp)).trans checked).then (completion_raisesOnly runs) (by simp)

end

end Sys2Proof.Machine
end

section
/-! The estimator update: the obligation O40. -/

namespace Sys2Proof.Machine

section
variable {s : State}

/-! ### What the update works out, by the rules (R5 to R17, R21, R22) -/

theorem sums_byRules (s : State) :
    s.sums.pm = sumByRules (positionByRules s) (exchange s.flow s.est.cabin.volume) s.doorExchange
        (leakCoefficient s.drive.reportedSpeed) (s.usable .opm * 16) (etaPmByRules s.filter) 0 s.est.epm
      ∧ s.sums.gas = sumByRules (positionByRules s) (exchange s.flow s.est.cabin.volume) s.doorExchange
        (leakCoefficient s.drive.reportedSpeed) (s.usable .ogs * 16) (etaGasByRules s.filter) 0 s.est.egs
      ∧ s.sums.co2 = sumByRules (positionByRules s) (exchange s.flow s.est.cabin.volume) s.doorExchange
        (leakCoefficient s.drive.reportedSpeed) (s.est.cabin.co2Reference * 16) 0
        (s.est.cabin.occupants * 80000 / s.est.cabin.volume) s.est.eco
      ∧ s.sums.ah = sumByRules (positionByRules s) (exchange s.flow s.est.cabin.volume) s.doorExchange
        (leakCoefficient s.drive.reportedSpeed) (outsideAhByRules s) 0
        (s.est.cabin.occupants * 11110 / s.est.cabin.volume) s.est.eah := by
  rw [← flapPosition_eq, ← etaPm_eq, ← etaGas_eq_rules, outsideAhByRules, ← sat_eq]
  exact ⟨rfl, rfl, rfl, rfl⟩

theorem counts_byRules (s : State) :
    s.counts.pm = divergedByRules 480 s.sums.pm (s.est.freshCpm.map (· * 16)) s.est.snapPm s.est.divPm
      ∧ s.counts.co2 = divergedByRules 4800 s.sums.co2 (s.est.freshCco.map (· * 16)) s.est.snapCo2 s.est.divCo2
      ∧ s.counts.ah = divergedByRules 3000 s.sums.ah s.measurements.ah s.est.snapAh s.est.divAh
      ∧ s.counts.above = aboveByRules s.sums.pm (s.est.freshCpm.map (· * 16)) s.est.snapPm s.est.pmAbove :=
  ⟨counted_eq _ _ _ _ _, counted_eq _ _ _ _ _, counted_eq _ _ _ _ _, countedAbove_eq _ _ _ _⟩

theorem unclamped_byRules (s : State) :
    s.unclamped.pm = correctedByRules (s.est.freshCpm.map (· * 16)) s.est.snapPm s.est.cabin.weight s.sums.pm
      ∧ s.unclamped.gas = s.sums.gas
      ∧ s.unclamped.co2 = correctedByRules (s.est.freshCco.map (· * 16)) s.est.snapCo2 s.est.cabin.weight s.sums.co2
      ∧ s.unclamped.ah = correctedByRules s.measurements.ah s.est.snapAh s.est.cabin.weight s.sums.ah :=
  ⟨corrected_eq _ _ _ _, rfl, corrected_eq _ _ _ _, corrected_eq _ _ _ _⟩

theorem snapAfter_iff (measurement : Option Int) (snap : Bool) :
    snapAfter measurement snap = true ↔ snap = true ∧ measurement = none := by
  simp [snapAfter]

/-! ### Settings the update leaves -/

/-- The published estimator (R16, R17, R19, R21, R22). -/
theorem updated_published (s : State) :
    s.updated.epm = max 0 (min 16000 s.unclamped.pm) ∧ s.updated.egs = max 0 (min 32000 s.unclamped.gas)
      ∧ s.updated.eco = max 4800 (min 80000 s.unclamped.co2) ∧ s.updated.eah = max 0 (min 65500 s.unclamped.ah)
      ∧ s.updated.freshCpm = none ∧ s.updated.freshCco = none ∧ s.updated.freshCrh = none
      ∧ s.updated.lastFlow = s.flow ∧ s.updated.cabin = s.est.cabin ∧ s.updated.fogMargin = s.est.fogMargin
      ∧ s.updated.mixedPm = mixedByRules (positionByRules s) (s.usable .opm * 16) s.est.epm
      ∧ s.updated.mixedGas = mixedByRules (positionByRules s) (s.usable .ogs * 16) s.est.egs
      ∧ (s.updated.snapPm = true ↔ s.est.snapPm = true ∧ s.est.freshCpm = none)
      ∧ (s.updated.snapCo2 = true ↔ s.est.snapCo2 = true ∧ s.est.freshCco = none)
      ∧ (s.updated.snapAh = true ↔ s.est.snapAh = true ∧ s.measurements.ah = none)
      ∧ s.updated.divPm = restartedAt30 s.counts.pm ∧ s.updated.divCo2 = restartedAt30 s.counts.co2
      ∧ s.updated.divAh = restartedAt30 s.counts.ah
      ∧ s.updated.pmAbove = if s.counts.pm = 30 then 0 else s.counts.above := by
  rw [← flapPosition_eq]
  refine ⟨clampInt_eq _ (by decide), clampInt_eq _ (by decide), clampInt_eq _ (by decide), clampInt_eq _ (by decide),
    rfl, rfl, rfl, rfl, rfl, rfl, rfl, rfl, ?_, ?_, snapAfter_iff _ _, rfl, rfl, rfl, rfl⟩
  · refine (snapAfter_iff _ _).trans ?_
    simp [State.measurements]
  · refine (snapAfter_iff _ _).trans ?_
    simp [State.measurements]

/-! ### The parts of the state after the update -/

section
variable (runs : s.timers.est.isSome = true)
include runs

theorem estExpired_est : (estExpired s).est = s.updated := by
  simp [estExpired_eq runs, State.cleaned, accounted_keeps]

theorem estExpired_filter : (estExpired s).filter = s.accounted.filter := by
  simp [estExpired_eq runs, State.cleaned]

theorem estExpired_tally : (estExpired s).tally = s.accounted.tally := by
  simp [estExpired_eq runs, State.cleaned]

theorem estExpired_policy : (estExpired s).policy = s.cleaned.policy := by simp [estExpired_eq runs]

theorem estExpired_flap : (estExpired s).flap = (overrideCheck s.accounted).flap := by
  simp [estExpired_eq runs, State.cleaned]

theorem estExpired_timers : (estExpired s).timers
    = { s.timers with est := some 1000, purge := s.cleaned.timers.purge, ckpt := (estExpired s).timers.ckpt } := by
  have timers := ckptCounts_timers (deliverEstimates s.cleaned)
  rw [← estExpired_eq runs] at timers
  simp only [deliverEstimates_keeps] at timers
  rw [timers, cleaned_timers]

/-- The slots on the four estimates (R172). -/
theorem estExpired_delivered : Delivered .epm s.updated.epm s (estExpired s) ∧ Delivered .egs s.updated.egs s (estExpired s)
    ∧ Delivered .eco s.updated.eco s (estExpired s) ∧ Delivered .eah s.updated.eah s (estExpired s)
    ∧ ∀ n : SlotNumber, (s.watch.get n).quantity ∉ ([.epm, .egs, .eco, .eah] : List Quantity) →
        (estExpired s).watch.get n = s.watch.get n := by
  have delivered := deliverEstimates_delivered s.cleaned
  have counted : (ckptCounts (deliverEstimates s.cleaned)).watch = (deliverEstimates s.cleaned).watch := by simp
  obtain ⟨-, -, watch, time, est⟩ := cleaned_keeps s
  unfold Delivered at delivered ⊢
  rw [estExpired_eq runs, counted]
  rw [watch, time, est] at delivered
  exact delivered

/-- What CKPT does (R110, R157). -/
theorem estExpired_ckpt :
    (s.timers.ckpt = none → (estExpired s).timers.ckpt = none ∧ (estExpired s).journal = s.journal ∧ (estExpired s).link = s.link)
      ∧ ∀ c, s.timers.ckpt = some c →
        (1 < c → (estExpired s).timers.ckpt = some (c - 1) ∧ (estExpired s).journal = s.journal ∧ (estExpired s).link = s.link)
          ∧ (c ≤ 1 → (estExpired s).timers.ckpt = some s.journal.checkpointInterval ∧ CheckpointTaken s (estExpired s)) := by
  have taken := ckptCounts_taken (deliverEstimates s.cleaned)
  rw [← estExpired_eq runs] at taken
  obtain ⟨journal, link, -⟩ := cleaned_keeps s
  have ckpt : s.cleaned.timers.ckpt = s.timers.ckpt := by rw [cleaned_timers]
  simp only [deliverEstimates_keeps, journal, link, ckpt] at taken
  obtain ⟨stopped, counts⟩ := taken
  exact ⟨stopped, fun c running => ⟨(counts c running).1, fun last =>
    ⟨((counts c running).2 last).1, ((counts c running).2 last).2.since (by simp [journal]) (by simp [link])⟩⟩⟩

end

/-! ### The policy after the update (R40, R41, R45, R51) -/

theorem fogHolds_accounted (s : State) : s.accounted.fogHolds = true ↔ s.est.fogMargin < (s.policy.limits.fogMin / 2 : Nat) := by
  rw [fogHolds_iff]
  simp only [accounted_keeps]
  rfl

theorem ceilingHolds_accounted (s : State) :
    s.accounted.ceilingHolds = true ↔ (s.policy.limits.co2Hard : Int) * 16 ≤ s.updated.eco := by
  rw [ceilingHolds_iff]
  simp only [accounted_keeps]

/-- The target of CEILING is found from the flow the update has stored (R36, R42). -/
theorem ceilingTarget_accounted (s : State) : ceilingTarget (s.accounted.workingValues s.accounted.est.lastFlow) s.accounted.policy.limits
    = ceilingTarget s.working s.policy.limits := by
  obtain ⟨est, policy, channels, -⟩ := accounted_keeps s
  have cabin : s.accounted.est.cabin = s.est.cabin := by rw [est]; rfl
  rw [workingValues_congr cabin channels, est, policy]
  rfl

section
variable (runs : s.timers.est.isSome = true)
include runs

/-- The policy after the update is the one the check leaves, but for the purge flag and the demand. -/
theorem estExpired_policyFields : (estExpired s).policy = { (overrideCheck s.accounted).policy with
    purging := s.cleaned.policy.purging, demand := s.cleaned.policy.demand } := by
  rw [estExpired_policy runs, cleaned_policy]

theorem estExpired_flags : (estExpired s).policy.fogFlag = s.accounted.fogHolds
    ∧ (estExpired s).policy.ceilingFlag = s.accounted.ceilingHolds := by
  rw [estExpired_policyFields runs, overrideCheck_policy]
  exact ⟨rfl, rfl⟩

/-- Each condition occurs exactly in its case (R6, R8, R17, R21, R23, R36). -/
theorem estExpired_conditions :
    Occurred .diverged (s.counts.pm = 30 ∨ s.counts.co2 = 30 ∨ s.counts.ah = 30) s (estExpired s)
      ∧ Occurred .estimateSaturated (OutsideInt 0 16000 s.unclamped.pm ∨ OutsideInt 0 32000 s.unclamped.gas
          ∨ OutsideInt 4800 80000 s.unclamped.co2 ∨ OutsideInt 0 65500 s.unclamped.ah) s (estExpired s)
      ∧ Occurred .zeroFlow (s.blower.fault = true) s (estExpired s)
      ∧ Occurred .substituted (∃ c ∈ ([.opm, .ogs, .orh, .otm] : List Channel),
          (s.channels.get c).state = .none ∨ (s.channels.get c).state = .lost) s (estExpired s)
      ∧ Occurred .tableClamped (OffTable (s.usable .otm) ∨ (s.measurements.ah.isSome = true ∧ OffTable s.channels.ctm.lastValue)
          ∨ (s.policy.mode = .auto ∧ (estExpired s).policy.fogFlag = false ∧ (estExpired s).policy.ceilingFlag = true
            ∧ OffTable (s.usable .stm))) s (estExpired s)
      ∧ (.inputClamped ∈ (estExpired s).notices.conditionFlags ↔ .inputClamped ∈ s.notices.conditionFlags) := by
  obtain ⟨fog, ceiling⟩ := estExpired_flags runs
  have lost : ∀ r : ChannelRecord, r.onSubstitute = true ↔ r.state = .none ∨ r.state = .lost := fun r => by
    cases state : r.state <;> simp [ChannelRecord.onSubstitute, state]
  have notes : ∀ k, Notes k _ s (estExpired s) := fun k => estExpired_notes (k := k) runs
  refine ⟨(notes .diverged).occurred.congr ?_, (notes .estimateSaturated).occurred.congr ?_,
    (notes .zeroFlow).occurred.congr ?_, (notes .substituted).occurred.congr ?_, (notes .tableClamped).occurred.congr ?_, ?_⟩
  case refine_5 =>
    simp only [StagesOccur, fog, ceiling, reduceCtorEq, false_and, true_and, false_or, or_false]
    tauto
  case refine_6 => simpa [StagesOccur] using (notes .inputClamped).occurred.1
  all_goals simp [StagesOccur, lost]

/-- The filter account (R22, R138, R140, R141). -/
theorem estExpired_filterTaken :
    (s.counts.pm = 30 → s.counts.above = 30 →
        (estExpired s).filter.suspect = true ∧ ∃ p ∈ (estExpired s).notices.pending, p.notice.kind = .filter)
      ∧ (s.counts.pm ≠ 30 ∨ s.counts.above ≠ 30 → (estExpired s).filter.suspect = s.filter.suspect)
      ∧ (s.filter.kind ≠ .none →
          ((estExpired s).filter.pmLoad, (estExpired s).filter.pmAcc)
              = loadByRules s.filter.pmLoad s.filter.pmAcc (s.flow * s.updated.mixedPm * etaPmByRules s.filter / 1000).toNat
            ∧ ((estExpired s).filter.gasLoad, (estExpired s).filter.gasAcc)
              = loadByRules s.filter.gasLoad s.filter.gasAcc (s.flow * s.updated.mixedGas * etaGasByRules s.filter / 1000).toNat)
      ∧ (s.filter.kind = .none → (estExpired s).filter = { s.filter with suspect := (estExpired s).filter.suspect })
      ∧ (estExpired s).filter = { s.filter with
          pmLoad := (estExpired s).filter.pmLoad, gasLoad := (estExpired s).filter.gasLoad,
          pmAcc := (estExpired s).filter.pmAcc, gasAcc := (estExpired s).filter.gasAcc,
          suspect := (estExpired s).filter.suspect, state := (estExpired s).filter.state }
      ∧ (s.filter.kind ≠ .none → (estExpired s).filter.state = filterStateByRules (estExpired s).filter)
      ∧ (s.filter.kind ≠ .none → (estExpired s).filter.state ≠ s.filter.state →
          ((estExpired s).filter.state = .worn → ∃ p ∈ (estExpired s).notices.pending, p.notice = .filter .worn)
            ∧ ((estExpired s).filter.state = .spent → ∃ p ∈ (estExpired s).notices.pending, p.notice = .filter .spent)) := by
  have keeps : KeepsPending [.fogAlert, .co2Ceiling, .moveDone, .ventLimited, .condition, .blowerFault, .watch, .journalFail]
      s.accounted (estExpired s) :=
    ((overrideCheck_keepsPending _).mono (by simp)).trans ((completion_raisesOnly runs).1.mono (by simp))
  have captured := accounted_filter s
  rw [estExpired_filter runs]
  refine ⟨fun pm above => ⟨?_, ?_⟩, fun no => ?_, fun held => ?_, fun none => ?_, ?_, fun held => ?_, fun held new => ?_⟩
  · rw [captured]
    split <;> simp [stagesRun_filter, FilterRecord.captured, pm, above]
  · obtain ⟨p, mem, is⟩ := runStages_suspect (s := s.withTimers { s.timers with est := some 1000 }) pm above
    obtain ⟨p', mem', is'⟩ := captureLoad_keepsFilter (s := s.stagesRun) ⟨p, mem, by rw [is]; rfl⟩
    refine ⟨p', keeps p' ?_ (by simp [is']), is'⟩
    rw [State.accounted, tallyUpdate_notices]
    exact mem'
  · have no : ¬(s.counts.pm = 30 ∧ s.counts.above = 30) := by tauto
    rw [captured]
    split <;> simp [stagesRun_filter, FilterRecord.captured, no]
  · rw [captured, if_neg held, stagesRun_filter]
    obtain ⟨pm, gas, -⟩ := captured_byRules s.stagesRun.filter s.updated.lastFlow s.updated.mixedPm s.updated.mixedGas
    rw [stagesRun_filter] at pm gas
    exact ⟨pm, gas⟩
  · rw [captured, if_pos none, stagesRun_filter]
  · rw [captured]
    split <;> simp [stagesRun_filter, FilterRecord.captured]
  · rw [captured, if_neg held]
    exact (captured_byRules _ _ _ _).2.2
  · have raised := captureLoad_pends (s := s.stagesRun) (by simpa [stagesRun_filter] using held)
    have same : (captureLoad s.stagesRun).filter = s.accounted.filter := by simp [State.accounted]
    have start : s.stagesRun.filter.state = s.filter.state := by rw [stagesRun_filter]
    rw [same, start] at raised
    obtain ⟨worn, spent⟩ := raised new
    have notices : ∀ n, Pends n (captureLoad s.stagesRun) → Pends n s.accounted := fun n => by
      unfold Pends
      rw [State.accounted, tallyUpdate_notices]
      exact id
    exact ⟨fun reached => keeps.pends (by simp [Notice.kind]) (notices _ (worn reached)),
      fun reached => keeps.pends (by simp [Notice.kind]) (notices _ (spent reached))⟩

theorem estExpired_tallied : (estExpired s).tally
    = if s.tally.active then tallyByRules s.tally s.updated s.policy.limits.co2Limit else s.tally := by
  rw [estExpired_tally runs, accounted_tally]

/-- The purge machine's cleaning test (R51). -/
theorem estExpired_purge :
    (s.policy.purging = true → s.updated.epm ≤ s.usable .opm * 16 * (1000 - etaPmByRules s.filter) / 1000 + 80 →
        (estExpired s).policy.purging = false ∧ (estExpired s).timers.purge = none)
      ∧ (s.policy.purging = false ∨ s.usable .opm * 16 * (1000 - etaPmByRules s.filter) / 1000 + 80 < s.updated.epm →
        (estExpired s).policy.purging = s.policy.purging ∧ (estExpired s).timers.purge = s.timers.purge) := by
  have flags := purgeCleaning_flag (overrideCheck s.accounted)
  have level : (overrideCheck s.accounted).cleaningLevel
      = s.usable .opm * 16 * (1000 - etaPmByRules s.filter) / 1000 + 80 := by
    have usable : (overrideCheck s.accounted).usable .opm = s.usable .opm := by
      simp [State.usable, accounted_keeps]
    have eta : etaPmByRules (overrideCheck s.accounted).filter = etaPmByRules s.filter := by
      simp only [overrideCheck_keeps, accounted_filter]
      split <;> simp [etaPmByRules, stagesRun_filter, FilterRecord.captured]
    rw [cleaningLevel_eq, usable, eta]
  have purging : (overrideCheck s.accounted).policy.purging = s.policy.purging := by simp [accounted_keeps]
  simp only [level, purging, overrideCheck_keeps, accounted_keeps] at flags
  rw [estExpired_policy runs, estExpired_timers runs]
  exact flags

theorem estExpired_policyRest : (estExpired s).policy.demand = demandByTable (decide (s.drive.vehicle = .parked))
      (estExpired s).policy.purging (estExpired s).policy.mode (estExpired s).policy.basis (estExpired s).policy.comfort
    ∧ (estExpired s).policy.mode = s.policy.mode ∧ (estExpired s).policy.hold = s.policy.hold
    ∧ (estExpired s).policy.openSince = s.policy.openSince ∧ (estExpired s).policy.comfort = s.policy.comfort
    ∧ (estExpired s).policy.limits = s.policy.limits := by
  refine ⟨?_, ?_⟩
  · rw [estExpired_policy runs]
    exact cleaned_demand s
  · rw [estExpired_policyFields runs]
    simp [accounted_keeps]

/-- The target follows the check and is handed to the flap (R30, R45, R121). -/
theorem estExpired_follows : TargetFollows s (estExpired s) := by
  obtain ⟨-, policy, -, -, -, time, flap, -⟩ := accounted_keeps s
  have follows := (overrideCheck_follows s.accounted).after (u := s) (by rw [policy]) (by rw [policy]) flap.symm time.symm
  exact follows.then (by rw [estExpired_policyFields runs]) (by rw [estExpired_policyFields runs]) (estExpired_flap runs) fun _ =>
    (completion_raisesOnly runs).pends (by simp [Notice.kind])

/-- The override check on what the update has published (R40, R41, R45). -/
theorem estExpired_override :
    ((estExpired s).policy.fogFlag = true ↔ s.est.fogMargin < (s.policy.limits.fogMin / 2 : Nat))
      ∧ ((estExpired s).policy.fogFlag = true → s.policy.fogFlag = false →
          ∃ p ∈ (estExpired s).notices.pending, p.notice = .fogAlert s.est.fogMargin)
      ∧ ((estExpired s).policy.ceilingFlag = true ↔ (s.policy.limits.co2Hard : Int) * 16 ≤ s.updated.eco)
      ∧ ((estExpired s).policy.ceilingFlag = true → s.policy.ceilingFlag = false →
          ∃ p ∈ (estExpired s).notices.pending, p.notice = .co2Ceiling s.updated.eco)
      ∧ (s.policy.mode = .auto → (estExpired s).policy.fogFlag = true →
          (estExpired s).policy.target = 1000 ∧ (estExpired s).policy.basis = .fogOverride ∧ (estExpired s).policy.held = false)
      ∧ (s.policy.mode = .auto → (estExpired s).policy.fogFlag = false → (estExpired s).policy.ceilingFlag = true →
          (estExpired s).policy.basis = .ceiling ∧ (estExpired s).policy.held = false
            ∧ (∀ f, LowestAdmissible s [500, 750, 1000] f → (estExpired s).policy.target = f)
            ∧ ((∀ f ∈ ([500, 750, 1000] : List Int), ¬Admissible s f) → (estExpired s).policy.target = 1000))
      ∧ (s.policy.mode = .recirc → (estExpired s).policy.ceilingFlag = true → s.policy.target = 0 →
          (estExpired s).policy.target = 500 ∧ (estExpired s).policy.basis = .ceiling ∧ (estExpired s).policy.held = false)
      ∧ ((s.policy.mode = .auto ∧ (estExpired s).policy.fogFlag = false ∧ (estExpired s).policy.ceilingFlag = false)
            ∨ (s.policy.mode = .recirc ∧ ((estExpired s).policy.ceilingFlag = false ∨ s.policy.target ≠ 0))
            ∨ s.policy.mode = .fresh ∨ s.policy.mode = .defrost →
          (estExpired s).policy.target = s.policy.target ∧ (estExpired s).policy.basis = s.policy.basis
            ∧ (estExpired s).policy.held = s.policy.held)
      ∧ TargetFollows s (estExpired s) := by
  obtain ⟨fog, ceiling⟩ := estExpired_flags runs
  obtain ⟨est, policy, -⟩ := accounted_keeps s
  obtain ⟨override, base, closed, idle⟩ := overrideCheck_bases s.accounted
  obtain ⟨alerts, warns⟩ := overrideCheck_pends s.accounted
  have later := (completion_raisesOnly runs).1
  rw [ceilingTarget_accounted] at base
  simp only [policy, est] at override base closed idle alerts warns
  obtain ⟨lowest, all⟩ := ceilingTarget_lowest s
  rw [fog, ceiling, estExpired_policyFields runs]
  refine ⟨fogHolds_accounted s, fun holds new => later.pends (by simp [Notice.kind]) (alerts holds new),
    ceilingHolds_accounted s, fun holds new => later.pends (by simp [Notice.kind]) (warns holds new), override,
    fun auto clear holds => ?_, closed, idle, estExpired_follows runs⟩
  obtain ⟨basis, held, target⟩ := base auto clear holds
  refine ⟨basis, held, fun f least => target.trans (lowest f least), fun no => target.trans (all no)⟩

theorem estExpired_floor (ceiling : (s.policy.limits.co2Hard : Int) * 16 ≤ s.updated.eco)
    (recirc : s.policy.mode = .recirc → s.policy.target = 0 ∨ s.policy.target = 500 ∨ s.policy.target = 1000)
    (mode : s.policy.mode = .auto ∨ s.policy.mode = .recirc) : 500 ≤ (estExpired s).policy.target := by
  obtain ⟨-, policy, -⟩ := accounted_keeps s
  rw [estExpired_policyFields runs]
  exact overrideCheck_floor ((ceilingHolds_accounted s).mpr ceiling) (by rwa [policy]) (by rwa [policy])

end

end

/-- Settles O40: the values, the conditions and each part of the completion by their own lemmas; the flags and the target by what the
override check reads. -/
theorem estimatorUpdated : Obligations.EstimatorUpdated := by
  intro s
  refine ⟨fun stopped => congrArg Host.Outcome.next (estExpired_stopped stopped), fun runs => ?_⟩
  rintro _ rfl q flow k hk d hd l hl x hx sumPm hPm sumCo2 hCo2 sumAh hAh ah hMeasured nPm hnPm nCo2 hnCo2 nAh hnAh above hAbove
    pm hpm gas hgas co2 hco2 humid hHumid
  obtain rfl : q = s.flow := flow.trans (flow_byRules s).symm
  obtain rfl : k = exchange s.flow s.est.cabin.volume := hk
  obtain rfl : d = s.doorExchange := hd
  obtain rfl : l = leakCoefficient s.drive.reportedSpeed := hl
  subst hx
  obtain ⟨sPm, sGas, sCo2, sAh⟩ := sums_byRules s
  obtain rfl : sumPm = s.sums.pm := hPm.trans sPm.symm
  obtain rfl : sumCo2 = s.sums.co2 := hCo2.trans sCo2.symm
  obtain rfl : sumAh = s.sums.ah := hAh.trans sAh.symm
  obtain rfl : ah = s.measurements.ah := hMeasured.trans (measurements_ah s).symm
  obtain ⟨cPm, cCo2, cAh, cAbove⟩ := counts_byRules s
  obtain rfl : nPm = s.counts.pm := hnPm.trans cPm.symm
  obtain rfl : nCo2 = s.counts.co2 := hnCo2.trans cCo2.symm
  obtain rfl : nAh = s.counts.ah := hnAh.trans cAh.symm
  obtain rfl : above = s.counts.above := hAbove.trans cAbove.symm
  obtain ⟨uPm, uGas, uCo2, uAh⟩ := unclamped_byRules s
  obtain rfl : pm = s.unclamped.pm := hpm.trans uPm.symm
  obtain rfl : gas = s.unclamped.gas := hgas.trans (sGas.symm.trans uGas.symm)
  obtain rfl : co2 = s.unclamped.co2 := hco2.trans uCo2.symm
  obtain rfl : humid = s.unclamped.ah := hHumid.trans uAh.symm
  obtain ⟨epm, egs, eco, eah, freshCpm, freshCco, freshCrh, lastFlow, cabin, margin, mixedPm, mixedGas, snapPm, snapCo2, snapAh,
    divPm, divCo2, divAh, pmAbove⟩ := updated_published s
  obtain ⟨diverged, saturated, zeroFlow, substituted, clamped, input⟩ := estExpired_conditions runs
  obtain ⟨suspect, unsuspected, loads, none, rest, state, raised⟩ := estExpired_filterTaken runs
  have timers := estExpired_timers runs
  obtain ⟨ckptStopped, ckptCounts⟩ := estExpired_ckpt runs
  obtain ⟨cleaned, stays⟩ := estExpired_purge runs
  obtain ⟨demand, mode, hold, openSince, comfort, limits⟩ := estExpired_policyRest runs
  refine ⟨estExpired s, rfl, ?_⟩
  simp only [estExpired_est runs]
  refine ⟨epm, egs, eco, eah, freshCpm, freshCco, freshCrh, lastFlow, cabin, margin, mixedPm, mixedGas, snapPm, snapCo2, snapAh,
    divPm, divCo2, divAh, pmAbove, diverged, saturated, zeroFlow, substituted, clamped, input, suspect, unsuspected, loads, none,
    rest, state, raised, by rw [timers], by rw [timers], by rw [timers], estExpired_tallied runs, ckptStopped, ckptCounts,
    estExpired_delivered runs, fun driving => estExpired_override runs, cleaned, stays, demand, mode, hold, openSince, comfort, limits,
    fun ceiling _ recirc either => estExpired_floor runs ceiling recirc either, ⟨by simp, fun p unlisted => ?_⟩⟩
  cases p <;> simp [Part.Same] at unlisted ⊢

end Sys2Proof.Machine
end

section
/-! The receiver, its gap and the requests behind the head play no part in a service: a state that differs in them alone is taken to one that
differs in them alone (R192, R195). -/

namespace Sys2Proof.Machine

/-- What of the link port no service reads or touches: the receiver, its gap, and the queue but for its head. -/
structure Arrivals where
  receiver : Receiver
  gapMs : Nat
  queue : List Request

/-- s with this receiver, gap and queue. -/
def State.relinked (x : Arrivals) (s : State) : State :=
  s.withLink { s.link with receiver := x.receiver, gapMs := x.gapMs, queue := x.queue }

section
variable {s : State} {x : Arrivals}

/-! ### The state -/

@[simp] theorem relinked_parts :
    (s.relinked x).est = s.est ∧ (s.relinked x).policy = s.policy ∧ (s.relinked x).tracker = s.tracker
      ∧ (s.relinked x).channels = s.channels ∧ (s.relinked x).drive = s.drive ∧ (s.relinked x).timers = s.timers
      ∧ (s.relinked x).uptime = s.uptime ∧ (s.relinked x).secondMs = s.secondMs ∧ (s.relinked x).flap = s.flap
      ∧ (s.relinked x).blower = s.blower ∧ (s.relinked x).filter = s.filter ∧ (s.relinked x).tally = s.tally
      ∧ (s.relinked x).journal = s.journal ∧ (s.relinked x).flash = s.flash ∧ (s.relinked x).watch = s.watch
      ∧ (s.relinked x).notices = s.notices ∧ (s.relinked x).freeCount = s.freeCount ∧ (s.relinked x).pending = s.pending :=
  ⟨rfl, rfl, rfl, rfl, rfl, rfl, rfl, rfl, rfl, rfl, rfl, rfl, rfl, rfl, rfl, rfl, rfl, rfl⟩

@[simp] theorem relinked_updates :
    (∀ e, (s.relinked x).withEst e = (s.withEst e).relinked x) ∧ (∀ p, (s.relinked x).withPolicy p = (s.withPolicy p).relinked x)
      ∧ (∀ t, (s.relinked x).withTracker t = (s.withTracker t).relinked x)
      ∧ (∀ c r, (s.relinked x).setChannel c r = (s.setChannel c r).relinked x)
      ∧ (∀ d, (s.relinked x).withDrive d = (s.withDrive d).relinked x)
      ∧ (∀ t, (s.relinked x).withTimers t = (s.withTimers t).relinked x)
      ∧ (∀ f, (s.relinked x).withFlap f = (s.withFlap f).relinked x)
      ∧ (∀ b, (s.relinked x).withBlower b = (s.withBlower b).relinked x)
      ∧ (∀ f, (s.relinked x).withFilter f = (s.withFilter f).relinked x)
      ∧ (∀ t, (s.relinked x).withTally t = (s.withTally t).relinked x)
      ∧ (∀ j, (s.relinked x).withJournal j = (s.withJournal j).relinked x)
      ∧ (∀ w, (s.relinked x).withWatch w = (s.withWatch w).relinked x)
      ∧ (∀ n, (s.relinked x).withNotices n = (s.withNotices n).relinked x)
      ∧ (∀ n, (s.relinked x).withFreeCount n = (s.withFreeCount n).relinked x) :=
  ⟨fun _ => rfl, fun _ => rfl, fun _ => rfl, fun _ _ => rfl, fun _ => rfl, fun _ => rfl, fun _ => rfl, fun _ => rfl, fun _ => rfl,
    fun _ => rfl, fun _ => rfl, fun _ => rfl, fun _ => rfl, fun _ => rfl⟩

@[simp] theorem relinked_reads :
    (∀ c, (s.relinked x).usable c = s.usable c) ∧ (s.relinked x).isParked = s.isParked
      ∧ (s.relinked x).flapPosition = s.flapPosition ∧ (s.relinked x).demandDue = s.demandDue
      ∧ (s.relinked x).fogHolds = s.fogHolds ∧ (s.relinked x).dwellPassed = s.dwellPassed
      ∧ (∀ q, (s.relinked x).workingValues q = s.workingValues q) ∧ (s.relinked x).flow = s.flow
      ∧ (s.relinked x).openAir = s.openAir ∧ (s.relinked x).purgeDue = s.purgeDue
      ∧ (∀ q, (s.relinked x).present q = s.present q) ∧ (∀ a, (s.relinked x).erasedSlot a = s.erasedSlot a)
      ∧ (s.relinked x).linkStatus = s.linkStatus := by
  refine ⟨fun _ => rfl, rfl, rfl, rfl, rfl, rfl, fun _ => rfl, rfl, rfl, rfl, fun q => ?_, fun _ => rfl, rfl⟩
  cases q <;> rfl

@[simp] theorem relinked_ite (c : Prop) [Decidable c] (a b : State) :
    (if c then a else b).relinked x = if c then a.relinked x else b.relinked x := apply_ite _ c a b

/-! ### Notices and conditions -/

@[simp] theorem raise_relinked (n : Notice) : raise n (s.relinked x) = (raise n s).relinked x := rfl

@[simp] theorem occur_relinked (k : ConditionKind) (q : Option Quantity) (v : Int) :
    occur k q v (s.relinked x) = (occur k q v s).relinked x := by simp [occur]

@[simp] theorem noteLookup_relinked (c : Channel) (v : Int) : noteLookup c v (s.relinked x) = (noteLookup c v s).relinked x := by
  simp [noteLookup]

@[simp] theorem noteWorkingLookups_relinked : noteWorkingLookups (s.relinked x) = (noteWorkingLookups s).relinked x := by
  simp [noteWorkingLookups]

/-! ### The watch unit -/

@[simp] theorem evaluateSlot_relinked (n : SlotNumber) (v : Int) :
    evaluateSlot n v (s.relinked x) = (evaluateSlot n v s).relinked x := by simp [evaluateSlot]

@[simp] theorem deliverTo_relinked (q : Quantity) (v : Int) (n : SlotNumber) :
    deliverTo q v n (s.relinked x) = (deliverTo q v n s).relinked x := by simp [deliverTo]

@[simp] theorem deliver_relinked (q : Quantity) (v : Int) : deliver q v (s.relinked x) = (deliver q v s).relinked x := by
  simp [deliver]

@[simp] theorem evaluatePresent_relinked (n : SlotNumber) :
    evaluatePresent n (s.relinked x) = (evaluatePresent n s).relinked x := by simp [evaluatePresent]

@[simp] theorem clearSlot_relinked (n : SlotNumber) : clearSlot n (s.relinked x) = (clearSlot n s).relinked x := by
  simp [clearSlot]

@[simp] theorem writeSlot_relinked (n : SlotNumber) (w : WatchSlot) :
    writeSlot n w (s.relinked x) = (writeSlot n w s).relinked x := by simp [writeSlot]

@[simp] theorem clearSlots_relinked (l : List SlotNumber) : clearSlots l (s.relinked x) = (clearSlots l s).relinked x := by
  unfold clearSlots
  induction l generalizing s with
  | nil => rfl
  | cons n l ih => simp [ih]

@[simp] theorem watchStopEnd_relinked : watchStopEnd (s.relinked x) = (watchStopEnd s).relinked x := rfl

/-! ### The flap and the blower -/

@[simp] theorem completeMove_relinked (f : Flap) : completeMove f (s.relinked x) = (completeMove f s).relinked x := rfl

@[simp] theorem retargetTimed_relinked (f : Flap) (t : Int) :
    retargetTimed f t (s.relinked x) = (retargetTimed f t s).relinked x := by simp [retargetTimed]

@[simp] theorem flapTarget_relinked (t : Int) : flapTarget t (s.relinked x) = (flapTarget t s).relinked x := by
  cases state : s.flap.state <;> simp [flapTarget, state]
  cases s.flap.mode <;> simp

@[simp] theorem homingSuccess_relinked : homingSuccess (s.relinked x) = (homingSuccess s).relinked x := rfl

@[simp] theorem homingFail_relinked (cause : FlapCause) : homingFail cause (s.relinked x) = (homingFail cause s).relinked x := by
  simp [homingFail]

@[simp] theorem startHoming_relinked : startHoming (s.relinked x) = (startHoming s).relinked x := by
  cases mode : s.flap.mode <;> simp [startHoming, mode]

@[simp] theorem storeActuator_relinked (mode : DriveMode) (travelTime moveTimeout : Nat) :
    storeActuator mode travelTime moveTimeout (s.relinked x) = (storeActuator mode travelTime moveTimeout s).relinked x := by
  cases state : s.flap.state <;> simp [storeActuator, state]

@[simp] theorem blowerDemand_relinked (d : Nat) : blowerDemand d (s.relinked x) = (blowerDemand d s).relinked x := by
  simp [blowerDemand]

/-! ### The air policy -/

@[simp] theorem recomputeDemand_relinked : recomputeDemand (s.relinked x) = (recomputeDemand s).relinked x := by
  simp [recomputeDemand]

@[simp] theorem setTarget_relinked (t : Int) : setTarget t (s.relinked x) = (setTarget t s).relinked x := by simp [setTarget]

@[simp] theorem recordBasis_relinked (b : Basis) : recordBasis b (s.relinked x) = (recordBasis b s).relinked x := by
  simp [recordBasis]

@[simp] theorem setHeld_relinked (h : Bool) : setHeld h (s.relinked x) = (setHeld h s).relinked x := rfl

@[simp] theorem applyNow_relinked (t : Int) (b : Basis) : applyNow t b (s.relinked x) = (applyNow t b s).relinked x := by
  simp [applyNow]

@[simp] theorem applyDwelled_relinked (t : Int) (b : Basis) :
    applyDwelled t b (s.relinked x) = (applyDwelled t b s).relinked x := by simp [applyDwelled]

@[simp] theorem fogTest_relinked : fogTest (s.relinked x) = (fogTest s).relinked x := by simp [fogTest]

@[simp] theorem autoBelowFog_relinked : autoBelowFog (s.relinked x) = (autoBelowFog s).relinked x := by
  cases found : lowestCandidate (s.workingValues s.flow) s.policy.limits s.est.eco s.est.eah <;> simp [autoBelowFog, found]

@[simp] theorem decideByMode_relinked : decideByMode (s.relinked x) = (decideByMode s).relinked x := by
  cases mode : s.policy.mode <;> simp [decideByMode, mode]

@[simp] theorem fullDecision_relinked : fullDecision (s.relinked x) = (fullDecision s).relinked x := by simp [fullDecision]

@[simp] theorem holdMove_relinked (h : HoldState) (timer : Option Nat) :
    holdMove h timer (s.relinked x) = (holdMove h timer s).relinked x := by simp [holdMove]

@[simp] theorem holdEpisodeCloses_relinked : holdEpisodeCloses (s.relinked x) = (holdEpisodeCloses s).relinked x := by
  cases hold : s.policy.hold <;> simp [holdEpisodeCloses, hold]

@[simp] theorem endPurge_relinked : endPurge (s.relinked x) = (endPurge s).relinked x := by simp [endPurge]

@[simp] theorem startPurge_relinked : startPurge (s.relinked x) = (startPurge s).relinked x := by simp [startPurge]

@[simp] theorem purgeDoorOpened_relinked : purgeDoorOpened (s.relinked x) = (purgeDoorOpened s).relinked x := by
  cases purging : s.policy.purging <;> simp [purgeDoorOpened, purging]

@[simp] theorem purgeDoorClosed_relinked : purgeDoorClosed (s.relinked x) = (purgeDoorClosed s).relinked x := by
  cases due : s.purgeDue <;> simp [purgeDoorClosed, due]

@[simp] theorem policyPark_relinked : policyPark (s.relinked x) = (policyPark s).relinked x := by simp [policyPark]

@[simp] theorem policyWake_relinked : policyWake (s.relinked x) = (policyWake s).relinked x := by simp [policyWake]

/-! ### The tracker and the channels -/

@[simp] theorem closeEpisode_relinked (d : DetectorId) (cause : EndCause) :
    closeEpisode d cause (s.relinked x) = (closeEpisode d cause s).relinked x := by simp [closeEpisode]

@[simp] theorem detectorLost_relinked (d : DetectorId) : detectorLost d (s.relinked x) = (detectorLost d s).relinked x := by
  cases episode : (s.tracker.detector d).openEpisode <;> simp [detectorLost, episode]

@[simp] theorem recomputeMargin_relinked : recomputeMargin (s.relinked x) = (recomputeMargin s).relinked x := by
  simp [recomputeMargin]

@[simp] theorem consumeLoss_relinked (c : Channel) : consumeLoss c (s.relinked x) = (consumeLoss c s).relinked x := by
  cases c <;> simp [consumeLoss]

@[simp] theorem enterLost_relinked (c : Channel) : enterLost c (s.relinked x) = (enterLost c s).relinked x := by simp [enterLost]

@[simp] theorem recheckAge_relinked (c : Channel) : recheckAge c (s.relinked x) = (recheckAge c s).relinked x := by
  cases state : (s.channels.get c).state <;> cases age : (s.channels.get c).stateOfAge <;> simp [recheckAge, state, age]

@[simp] theorem substituteChanged_relinked (c : Channel) :
    substituteChanged c (s.relinked x) = (substituteChanged c s).relinked x := by cases c <;> simp [substituteChanged]

@[simp] theorem storeChannel_relinked (c : Channel) (substitute : Option Int) (stale lost : Nat) :
    storeChannel c substitute stale lost (s.relinked x) = (storeChannel c substitute stale lost s).relinked x := by
  simp [storeChannel]

/-! ### The vehicle -/

@[simp] theorem setVehicle_relinked (v : VehicleState) : setVehicle v (s.relinked x) = (setVehicle v s).relinked x := rfl

@[simp] theorem tallyStop_relinked : tallyStop (s.relinked x) = (tallyStop s).relinked x := by simp [tallyStop]

@[simp] theorem enterMoving_relinked : enterMoving (s.relinked x) = (enterMoving s).relinked x := by simp [enterMoving]

@[simp] theorem enterAtStop_relinked : enterAtStop (s.relinked x) = (enterAtStop s).relinked x := by simp [enterAtStop]

@[simp] theorem enterStanding_relinked : enterStanding (s.relinked x) = (enterStanding s).relinked x := by simp [enterStanding]

@[simp] theorem vehicleSpeed_relinked : vehicleSpeed (s.relinked x) = (vehicleSpeed s).relinked x := by
  cases vehicle : s.drive.vehicle <;> simp [vehicleSpeed, vehicle]

@[simp] theorem speedDelivered_relinked (old : Nat) : speedDelivered old (s.relinked x) = (speedDelivered old s).relinked x := by
  simp [speedDelivered]

@[simp] theorem vehicleDoorOpened_relinked : vehicleDoorOpened (s.relinked x) = (vehicleDoorOpened s).relinked x := by
  cases vehicle : s.drive.vehicle <;> simp [vehicleDoorOpened, vehicle]

@[simp] theorem reworkDoor_relinked (which : Door) : reworkDoor which (s.relinked x) = (reworkDoor which s).relinked x := by
  simp [reworkDoor]

@[simp] theorem leaveStanding_relinked : leaveStanding (s.relinked x) = (leaveStanding s).relinked x := by simp [leaveStanding]

@[simp] theorem leaveParked_relinked : leaveParked (s.relinked x) = (leaveParked s).relinked x := by
  simp [leaveParked, loadPaced, estimatorWake]

@[simp] theorem takeDrive_relinked (speed : Nat) (engine : Engine) :
    takeDrive speed engine (s.relinked x) = (takeDrive speed engine s).relinked x := by
  cases leaves : s.isParked && decide (engine = .run) <;> simp [takeDrive, leaves]

/-! ### Replies and the journal -/

@[simp] theorem sendReply_relinked (code : Byte) (result : ResultCode) (body : List Byte) :
    sendReply code result body (s.relinked x) = (sendReply code result body s).relinked x := rfl

@[simp] theorem releasePark_relinked : releasePark (s.relinked x) = (releasePark s).relinked x := rfl

@[simp] theorem releaseRestart_relinked : releaseRestart (s.relinked x) = (releaseRestart s).relinked x := rfl

@[simp] theorem enterFailed_relinked : enterFailed (s.relinked x) = (enterFailed s).relinked x := by
  cases owes : s.journal.owesPark <;> simp [enterFailed, owes]

@[simp] theorem beginProgram_relinked (w : WriteInFlight) (sector slot : Nat) :
    beginProgram w sector slot (s.relinked x) = (beginProgram w sector slot s).relinked x := by simp [beginProgram]

@[simp] theorem chooseSector_relinked (w : WriteInFlight) (order : List Nat) :
    chooseSector w order (s.relinked x) = (chooseSector w order s).relinked x := by
  cases found : order.find? s.journal.mayErase <;> simp [chooseSector, found]

@[simp] theorem switchSector_relinked (w : WriteInFlight) : switchSector w (s.relinked x) = (switchSector w s).relinked x := by
  simp [switchSector]

@[simp] theorem seekTarget_relinked (w : WriteInFlight) : seekTarget w (s.relinked x) = (seekTarget w s).relinked x := by
  cases active : s.journal.activeSector with
  | none => simp [seekTarget, active]
  | some a => cases found : s.erasedSlot a <;> simp [seekTarget, active, found]

@[simp] theorem startWrite_relinked (kind : RecordKind) (owed : Bool) :
    startWrite kind owed (s.relinked x) = (startWrite kind owed s).relinked x := by simp [startWrite]

/-- A trigger reads the head of the queue, and nothing else behind the receiver (R169). -/
theorem trigger_relinked (kind : RecordKind) (owed : Bool) (head : x.queue.head? = s.link.queue.head?) :
    trigger kind owed (s.relinked x) = (trigger kind owed s).relinked x := by
  have released : (s.relinked x).restartReleased = s.restartReleased := by
    rw [State.restartReleased, State.restartReleased, ← head]
    rfl
  cases state : s.journal.state <;> cases write : s.journal.write <;> simp [trigger, released, state, write]

/-! ### The requests -/

theorem takePark_relinked (head : x.queue.head? = s.link.queue.head?) : takePark (s.relinked x) = (takePark s).relinked x := by
  set u := policyPark (stopPaced (setVehicle .parked (s.withLink { s.link with holding := true }))) with u_def
  have before : policyPark (stopPaced (setVehicle .parked ((s.relinked x).withLink { (s.relinked x).link with holding := true })))
      = u.relinked x :=
    policyPark_relinked (s := stopPaced (setVehicle .parked (s.withLink { s.link with holding := true })))
  rw [takePark, before]
  exact trigger_relinked .park true (by simpa [u_def] using head)

@[simp] theorem takeCabin_relinked (c : CabinSettings) (drv krb : Polarity) :
    takeCabin c drv krb (s.relinked x) = (takeCabin c drv krb s).relinked x := by
  have effects : ∀ (order : Nat) (v : State), cabinEffects order (v.relinked x) = (cabinEffects order v).relinked x :=
    fun order v => by
      unfold cabinEffects
      split <;> simp
  exact effects _ ((storeCabin c drv krb s).withFreeCount (s.freeCount + 1))

@[simp] theorem takeLimits_relinked (l : Limits) : takeLimits l (s.relinked x) = (takeLimits l s).relinked x := by
  cases running : s.timers.dec.isSome <;> simp [takeLimits, storeLimits, running]

@[simp] theorem takeMode_relinked (m : PolicyMode) : takeMode m (s.relinked x) = (takeMode m s).relinked x := by simp [takeMode]

@[simp] theorem fetchNotice_relinked (all : Bool) : fetchNotice all (s.relinked x) = (fetchNotice all s).relinked x := by
  cases chosen : s.notices.chosen all <;> simp [fetchNotice, chosen]

/-- The service of a request commutes with a change of the receiver, the gap and the requests behind the head (R192, R195). -/
theorem serveRequest_relinked (r : Request) (head : x.queue.head? = s.link.queue.head?) :
    serveRequest r (s.relinked x) = (serveRequest r s).relinked x := by
  cases r
  case cabin f =>
    cases drv : Polarity.ofCode f.drvPolarity.toNat <;> cases krb : Polarity.ofCode f.krbPolarity.toNat <;>
      simp [serveRequest, serveCabin, drv, krb]
  case limits f => simp [serveRequest, serveLimits]
  case mode m => cases mode : PolicyMode.ofCode m.toNat <;> simp [serveRequest, serveMode, mode]
  case comfort level => simp [serveRequest, serveComfort, takeComfort]
  case drive v e => cases engine : Engine.ofCode e.toNat <;> simp [serveRequest, serveDrive, engine]
  case channel f => cases channel : Channel.ofCode f.code.toNat <;> simp [serveRequest, serveChannel, channel]
  case detector f =>
    cases detector : DetectorId.ofCode f.detector.toNat <;> simp [serveRequest, serveDetector, storeDetector, detector]
  case actuator f => cases mode : DriveMode.ofCode f.mode.toNat <;> simp [serveRequest, serveActuator, mode]
  case flapRecover => simp [serveRequest, serveFlapRecover]
  case filterFit f =>
    cases kind : FilterKind.ofCode f.kind.toNat with
    | none => simp [serveRequest, serveFilterFit, kind]
    | some k =>
      have triggers := trigger_relinked (s := s.withFilter (fittedRecord k f)) (x := x) .fit false head
      simp [serveRequest, serveFilterFit, kind, triggers]
  case watchSet f =>
    cases slot : SlotNumber.ofCode f.slot.toNat <;> cases written : watchSlotOf f <;>
      simp [serveRequest, serveWatchSet, slot, written]
  case watchClear slots => simp [serveRequest, serveWatchClear]
  case noticeFetch all => simp [serveRequest, serveNoticeFetch]
  case noticeMask kinds => simp [serveRequest, serveNoticeMask]
  case conditions clear masks =>
    have masked : maskConditions masks (s.relinked x) = (maskConditions masks s).relinked x := by cases masks <;> rfl
    have cleared : ∀ (flag : Bool) (v : State), clearConditions flag (v.relinked x) = (clearConditions flag v).relinked x :=
      fun flag v => by cases flag <;> rfl
    have body : ∀ v : State, conditionsBody (v.relinked x) = conditionsBody v := fun _ => rfl
    simp [serveRequest, serveConditions, masked, cleared, body]
  case shift action =>
    simp only [serveRequest, serveShift]
    split
    · simp [shiftStart]
    · simp [shiftEnd]
    · rfl
    · rfl
  case park => simp [serveRequest, servePark, takePark_relinked head]
  case wake => simp [serveRequest, serveWake]
  case restart =>
    simp only [serveRequest, serveRestart, relinked_ite]
    exact if_congr Iff.rfl rfl rfl
  case ident interval => cases interval <;> rfl
  all_goals rfl

/-- No service touches the receiver, the gap or the queue. -/
theorem serveRequest_arrivals (r : Request) (s : State) : (serveRequest r s).link.receiver = s.link.receiver
    ∧ (serveRequest r s).link.gapMs = s.link.gapMs ∧ (serveRequest r s).link.queue = s.link.queue := by
  have same : serveRequest r s = (serveRequest r s).relinked ⟨s.link.receiver, s.link.gapMs, s.link.queue⟩ :=
    serveRequest_relinked (x := ⟨s.link.receiver, s.link.gapMs, s.link.queue⟩) r rfl
  rw [same]
  exact ⟨rfl, rfl, rfl⟩

/-! ### The scan's end (R165) -/

@[simp] theorem raiseFilterState_relinked (f : FilterState) : raiseFilterState f (s.relinked x) = (raiseFilterState f s).relinked x := by
  cases f <;> rfl

@[simp] theorem adopt_relinked (stored : Snapshot) : adopt stored (s.relinked x) = (adopt stored s).relinked x := by simp [adopt]

@[simp] theorem endScan_relinked : endScan (s.relinked x) = (endScan s).relinked x := by
  cases found : s.flash.newestValid <;> simp [endScan, adoptFound, found]

end

end Sys2Proof.Machine
end

section
/-! The events at which the port begins to serve: the end of a reply and the scan's end do to the head what the arrival of its frame does
(R165, R195); the obligations O9 and O46. -/

namespace Sys2Proof.Machine

section
variable {s : State} {r : Request}

/-! ### The head of the queue -/

theorem serveHead_empty (empty : s.link.queue = []) : serveHead s = s := by simp [serveHead, empty]

theorem serveHead_serves {rest : List Request} (queue : s.link.queue = r :: rest) (may : s.mayServe = true) :
    serveHead s = serveRequest r s := by simp [serveHead, queue, may]

/-- With the queue empty and the port free, a frame's arrival serves its request, the receiver in HUNT (R192, R195). -/
theorem deliverFrame_served (empty : s.link.queue = []) (may : s.mayServe = true) :
    deliverFrame r s = serveRequest r (s.relinked ⟨.hunt, 0, [r]⟩) := by
  have joins : deliverFrame r s = serveHead (s.relinked ⟨.hunt, 0, [r]⟩) := by
    simp [deliverFrame, joinQueue, empty, State.relinked, State.withLink]
  rw [joins]
  exact serveHead_serves (s := s.relinked ⟨.hunt, 0, [r]⟩) rfl may

/-! ### The end of a reply (R195) -/

theorem replyLeaves_idle (idle : s.link.sending = none) : replyLeaves s = s := by simp [replyLeaves, idle]

theorem replyLeaves_head {rest : List Request} (sending : s.link.sending.isSome = true) (queue : s.link.queue = r :: rest)
    (other : r ≠ .restart) : replyLeaves s = serveHead (s.withLink { s.link with queue := rest, sending := none }) := by
  have busy : s.link.sending.isNone = false := by
    obtain ⟨reply, sends⟩ := Option.isSome_iff_exists.mp sending
    simp [sends]
  rw [replyLeaves, busy, if_neg (by simp), if_neg (by simp [queue, other]), headLeaves, queue]
  rfl

/-- Settles O9: the entry behind the head is served as its own frame would be, since a service reads of the queue its head alone. -/
theorem headLeavesAfterReply : Obligations.HeadLeavesAfterReply := by
  refine ⟨fun r s sending queue other => ?_, fun r r' c s sending queue other ready free request => ?_, fun s idle => ?_⟩
  · have leaves := replyLeaves_head sending queue other
    rw [serveHead_empty rfl] at leaves
    exact congrArg Host.Outcome.next leaves
  · set u := s.withLink { s.link with queue := [], sending := none } with u_def
    have may : u.mayServe = true := by simp [State.mayServe, u_def, ready, free]
    set v := u.relinked ⟨.hunt, 0, [r']⟩ with v_def
    refine ⟨serveRequest r' v, (exec_request u request).trans (congrArg _ (deliverFrame_served rfl may)), ?_⟩
    set w := v.relinked ⟨s.link.receiver, s.link.gapMs, [r']⟩ with w_def
    have leaves : replyLeaves s = serveHead w := replyLeaves_head sending queue other
    rw [serveHead_serves (s := w) rfl may] at leaves
    have served := serveRequest_relinked (s := v) (x := ⟨s.link.receiver, s.link.gapMs, [r']⟩) r' rfl
    have queue' : (serveRequest r' v).link.queue = [r'] := (serveRequest_arrivals r' v).2.2
    refine congrArg Host.Outcome.next (leaves.trans (served.trans ?_))
    rw [State.relinked, ← queue']
    rfl
  · exact congrArg Host.Outcome.next (replyLeaves_idle idle)

/-! ### The scan's end (R165) -/

theorem newestValid_none {f : Flash} (none : ∀ e ∈ f, e.2.valid? = .none) : f.newestValid = .none := by
  cases found : f.newestValid with
  | none => rfl
  | some x =>
    obtain ⟨slot, mem, valid⟩ := newestValid_valid found
    rw [none _ mem] at valid
    cases valid

/-- What an adoption raises: FILTER with the state WORN or SPENT, and then SUSPECT (R151). -/
theorem adopt_notices (stored : Snapshot) (s : State) :
    (stored.filter.suspect = true → Pends (.filter .suspect) (adopt stored s))
      ∧ (stored.filter.suspect = false → stored.filter.state = .worn → Pends (.filter .worn) (adopt stored s))
      ∧ (stored.filter.suspect = false → stored.filter.state = .spent → Pends (.filter .spent) (adopt stored s))
      ∧ (stored.filter.suspect = false → stored.filter.state = .none ∨ stored.filter.state = .inService →
          (adopt stored s).notices = s.notices) := by
  have raised : ∀ (d : FilterNotice) (v : State), Pends (.filter d) (raise (.filter d) v) := fun d v =>
    raise_pends (.filter d) v (by simp [NoticeKind.single, Notice.kind])
  refine ⟨fun suspect => ?_, fun clear worn => ?_, fun clear spent => ?_, fun clear fine => ?_⟩
  · simpa [adopt, suspect] using raised .suspect _
  · simpa [adopt, clear, worn, raiseFilterState] using raised .worn _
  · simpa [adopt, clear, spent, raiseFilterState] using raised .spent _
  · rcases fine with none | inService
    · simp [adopt, clear, none, raiseFilterState]
    · simp [adopt, clear, inService, raiseFilterState]

theorem adopt_record (stored : Snapshot) (s : State) :
    (adopt stored s).filter = stored.filter ∧ (adopt stored s).tally = stored.tally := by
  unfold adopt
  dsimp only
  split <;> simp

/-- The scan's end with what it found (R165). -/
theorem endScan_found {x : Found} (found : s.flash.newestValid = some x) :
    endScan s = (adoptFound x s).withJournal { (adoptFound x s).journal with state := .ready } := by simp [endScan, found]

theorem endScan_none (none : s.flash.newestValid = .none) : endScan s = s.withJournal { s.journal with state := .ready } := by
  simp [endScan, none]

theorem endScan_mayServe (sending : s.link.sending = none) (free : s.link.holding = false) : (endScan s).mayServe = true := by
  have ready : (endScan s).journal.state = .ready := rfl
  simp [State.mayServe, ready, sending, free]

/-- Settles O46: the record the scan finds by its highest sequence, its adoption, and the head served as its frame would be. -/
theorem scanEnded : Obligations.ScanEnded := by
  intro s
  have ends : s.journal.state = .scanning → exec .scanEnd s = .next (serveHead (endScan s)) := fun scanning =>
    congrArg Host.Outcome.next (if_pos scanning)
  refine ⟨fun ended => congrArg Host.Outcome.next (if_neg ended), fun scanning empty none => ?_,
    fun scanning empty a r mem crc low high highest => ?_, fun r rest c scanning queue sending free request => ?_⟩
  · rw [ends scanning, serveHead_empty (by simp [empty]), endScan_none (newestValid_none none)]
    rfl
  · have valid : (Slot.record r).valid? = some r := Slot.valid?_eq_some.mpr ⟨rfl, by
      rw [JournalRecord.crcGood, decide_eq_true_iff, crc, (JournalRecord.bytes_split r).1]
      rfl, by omega, by simp only [max32]; omega⟩
    have found := Flash.newestValid_eq mem valid highest
    set u := s.withJournal { s.journal with
      newest := some { sector := a / 16, sequence := r.sequence, kind := r.kind }, activeSector := some (a / 16),
      writePosition := a % 16 + 1, nextSequence := r.sequence + 1 } with u_def
    set t := adopt r.content u with t_def
    obtain ⟨filter, tally⟩ := adopt_record r.content u
    obtain ⟨suspect, worn, spent, fine⟩ := adopt_notices r.content u
    rw [← filter] at suspect worn spent fine
    have runs : exec .scanEnd s = .next (t.withJournal { t.journal with state := .ready }) := by
      rw [ends scanning, serveHead_empty (by simp [empty]), endScan_found found]
      rfl
    refine ⟨_, runs, ⟨by simp [t_def, u_def], fun p unlisted => ?_⟩, filter, tally, ?_, ?_, ?_, ?_, ?_⟩
    · cases p <;> simp [Part.Same] at unlisted ⊢ <;> simp [t_def, u_def]
    · exact suspect
    · exact worn
    · exact spent
    · exact fine
    · simp [t_def, u_def]
  · set u := (endScan s).relinked ⟨s.link.receiver, s.link.gapMs, []⟩ with u_def
    set v := u.relinked ⟨.hunt, 0, [r]⟩ with v_def
    have may : (endScan s).mayServe = true := endScan_mayServe sending free
    have before : exec .scanEnd { s with link := { s.link with queue := [] } } = .next u := by
      have emptied : exec .scanEnd { s with link := { s.link with queue := [] } }
          = .next (serveHead (endScan (s.relinked ⟨s.link.receiver, s.link.gapMs, []⟩))) :=
        congrArg Host.Outcome.next (if_pos scanning)
      rw [emptied, endScan_relinked, serveHead_empty rfl]
    refine ⟨u, serveRequest r v, before, (exec_request u request).trans (congrArg _ (deliverFrame_served rfl may)), ?_⟩
    have queued : (endScan s).link.queue = r :: rest := by simp [queue]
    have arrivals : endScan s = v.relinked ⟨s.link.receiver, s.link.gapMs, r :: rest⟩ := by
      have link : (endScan s).link = s.link := by simp
      rw [← queue, ← link]
      rfl
    have served := serveRequest_relinked (s := v) (x := ⟨s.link.receiver, s.link.gapMs, r :: rest⟩) r rfl
    rw [← arrivals] at served
    rw [ends scanning, serveHead_serves queued may, served]
    rfl

end

end Sys2Proof.Machine
end
